-- ==== Sys2Proof/Word.lean ====
section
/-! DEFINITION. The word types of the BV4620 model: bytes as they go on the station link and in the settings
memory, the 32-bit local time and sample-set count, and the 40-bit crossing time. -/

namespace Sys2Proof

/-- One byte, bit 7 the most significant (R206). -/
abbrev Byte := BitVec 8

/-- Local time: a 32-bit millisecond count from the end of the last reset; differences are taken modulo 2^32. -/
abbrev Time := BitVec 32

/-- A crossing time: 40 bits, in units of 1/256 of a sample interval, modulo 2^40 (R12). -/
abbrev CrossTime := BitVec 40

/-- The number field of a frame header: five bits, 0 to 31. Stations have the numbers 1 to 31. -/
abbrev StationNo := Fin 32

end Sys2Proof
end

