-- ==== Sys2Proof/Syntax.lean ====
section
/-! DEFINITION. The commands of the BV4620: one constructor of `Instr` for each row of spec/opcode_table.json,
with the values that the rules say arrive with it. The table gives no bits and no operand fields; the operands
are those the rules name (notes/assumptions/2). -/

namespace Sys2Proof

/-- The ten protection elements by their number. -/
inductive ElementNo where
  | e1 | e2 | e3 | e4 | e5 | e6 | e7 | e8 | e9 | e10
deriving DecidableEq, Repr

/-- The fifteen cubicle inputs, in the order of their input numbers (R206). -/
inductive Input where
  | bkrClosed | bkrOpen | rackedIn | springOk | remotePermit | localOpen | localClose | lockoutReset
  | extTrip | lockoutIn | genReady | gin1 | gin2 | gin3 | gin4
deriving DecidableEq, Repr

/-- A set of bus sections (bit 0 section A, bit 1 section B). -/
structure SectionSet where
  a : Bool
  b : Bool
deriving DecidableEq, Repr

/-- The station states of the chapter Service States, in the order of their codes. -/
inductive StationState where
  | start | settingsFault | presence | warmup | auto | manual | test | addressConflict
deriving DecidableEq, Repr

/-- The purposes of an open claim that is no protection trip. -/
inductive OpenPurpose where
  | sequence | unload | request | localButton
deriving DecidableEq, Repr

/-- The purposes of a close claim. -/
inductive ClosePurpose where
  | sync | deadBus | feeder
deriving DecidableEq, Repr

/-- What the pull-down of diagnostic step 2 finds. -/
inductive PullDown where
  | followsCoil | heldAtGround | noContinuity
deriving DecidableEq, Repr

/-- What the coil circuit shows to the four tests of a diagnostic run; each step reads its own part (R73). -/
structure Reading where
  heldAtSupply : Bool
  pullDown : PullDown
  ohms : Nat
  senseFault : Bool
deriving DecidableEq, Repr

/-- The outcomes of a close request held by the SYN (R124). -/
inductive SynOutcome where
  | closed | closeFailed | cancelled | syncFailed
deriving DecidableEq, Repr

/-- The two kinds of trigger the PES hands the DRC (R42). -/
inductive PesTrigger where
  | pickup | trip
deriving DecidableEq, Repr

/-- The blocks whose publications the PTB watches for a report at once (R104). -/
inductive Source where
  | bkc | csq | syn | ssc
deriving DecidableEq, Repr

/-- A REQUEST frame whose kind the row names: the station number of its header, the target, origin, argument
and request-check bytes of its payload (R93). -/
structure Request where
  header : StationNo
  target : Byte
  origin : Byte
  args : List Byte
  check : Byte
deriving DecidableEq, Repr

/-- The commands: the rows of spec/opcode_table.json in the table's order. -/
inductive Instr where
  | reset (straps : BitVec 5) (raw : Vector Bool 15)
  | settingsNoAcknowledge
  | settingsReadRetry
  | settingsImageRead (image : List Byte)
  | presenceRepeatTimer
  | presenceExpiry
  | sampleStrobe (words : Vector (BitVec 24) 8)
  | cmeCycleRecord
  | pesCycleEvaluation
  | synCycleCompletion
  | lscSlipCorrection
  | csqCycleCompletion
  | ptbMeasuredUpdate
  | sscCycleCompletion
  | drcBufferStore
  | rawInputChange (i : Input) (level : Bool)
  | debounceExpiry (i : Input)
  | overtempRise
  | overtempFall
  | tripClaim (cause : ElementNo) (detail : Byte)
  | openClaim (purpose : OpenPurpose)
  | closeClaim (purpose : ClosePurpose)
  | closePulseEnd
  | closingTimerExpiry
  | tripPulseEnd
  | stuckTimerExpiry
  | discrepancyTimerExpiry
  | bfTimerExpiry
  | bfRecheckExpiry
  | lockoutPulseEnd
  | periodTimerExpiry
  | diagnosticRetryExpiry
  | diagnosticStepEnd (reading : Reading)
  | cdsBreakerStateChange
  | cdsStationStateChange
  | lineFree
  | arbitrationLost (inIdentity : Bool)
  | transmitBitError
  | frameCompleted
  | frameDiscarded (heard : List Byte)
  | tripNoticeReceived (sender : StationNo) (cause detail : Byte)
  | bfTransferReceived (sender : StationNo) (sections : Byte)
  | claimReceived (sender : StationNo) (sections : Byte)
  | claimWithdrawReceived (sender : StationNo)
  | reportReceived (sender : StationNo) (payload : Vector Byte 58)
  | inputChangeReceived (sender : StationNo) (input level : Byte) (time : Time)
  | captureTriggerEventReceived (sender : StationNo) (seq : BitVec 16) (kind detail : Byte)
  | dataReceived (sender : StationNo) (kind : Byte) (payload : List Byte)
  | presenceReceived (sender : StationNo) (identity : BitVec 48)
  | conflictReceived (identity : BitVec 48) (contested : Byte)
  | conflictTimerExpiry
  | openRequest (r : Request)
  | closeRequest (r : Request)
  | resetLockout (r : Request)
  | setMode (r : Request)
  | resetAlarm (r : Request)
  | transferTest (r : Request)
  | retransferInhibit (r : Request)
  | retransferNow (r : Request)
  | runDiagnostics (r : Request)
  | captureTrigger (r : Request)
  | captureDirectory (r : Request)
  | captureRead (r : Request)
  | captureRelease (r : Request)
  | assignNumber (r : Request)
  | unknownRequest (kind : Byte) (r : Request)
  | reportTimerExpiry
  | ptbSourcePublication (source : Source)
  | freshnessTimerExpiry (n : StationNo)
  | lossTimerExpiry (n : StationNo)
  | conflictClearExpiry (n : StationNo)
  | pesConflictMarking (n : StationNo)
  | transferOriginExpiry (n : StationNo)
  | pesStationStateChange (fromState toState : StationState)
  | synViewEvent
  | synBreakerRecord
  | synStationStateChange (fromState toState : StationState)
  | syncTimerExpiry
  | synRetryExpiry
  | holdTimerExpiry
  | yieldTimerExpiry
  | refusalWaitExpiry
  | avrPulseEnd
  | avrSpacingExpiry
  | lscSynPublication
  | lscViewEvent
  | lscBreakerRecord
  | lscStationStateChange (fromState toState : StationState)
  | shareIntervalExpiry
  | unloadTimerExpiry
  | overlapDeadlineExpiry
  | csqViewEvent
  | csqBreakerRecord
  | csqPesPublication
  | csqSynOutcome (outcome : Option SynOutcome)
  | csqLscMode
  | csqAutoEntry
  | csqAutoExit
  | failureConfirmExpiry
  | retransferDelayExpiry
  | overlapBackupExpiry
  | startDelayExpiry
  | startTimerExpiry
  | cooldownExpiry
  | shedDelayExpiry
  | restoreWaitExpiry
  | overloadTimerExpiry
  | shedSettleExpiry
  | drcTrigger (kind : PesTrigger) (element : ElementNo)
  | govBiasPeriodStart
deriving DecidableEq, Repr

end Sys2Proof
end

