-- ==== Sys2Proof/Config.lean ====
section
/-! DEFINITION. The values the manual leaves open, as opaque constants: no proof can see what they are, so a
statement holds whatever they are. Each is named in a row of notes/assumptions. -/

namespace Sys2Proof.Config

/-- The byte that the settings memory gives at an offset which the command SETTINGS_IMAGE_READ does not spell
(notes/assumptions/6). -/
opaque unspelledImageByte : Nat → Byte

/-- The section in force on a station that is no TIE when the programmed section code names no section: R196
gives such a code the default of its setting, and the section has none (notes/assumptions/7). -/
opaque sectionOfUnknownCode : Int → Bool

/-- The value at which an unload ramp starts when the latest record gives no load and no effective target has
been formed: R152 names the last Te, which is absent (notes/assumptions/8). Applied to the free-value counter. -/
opaque rampWithoutTarget : Nat → Int

/-- The weighted load of a set of generators whose rated kW sum to 0: the division of R175 by 0
(notes/assumptions/9). Applied to the numerator. -/
opaque loadOverNoRating : Int → Int

end Sys2Proof.Config
end

