-- ==== Sys2Proof/Machine/State.lean ====
section
/-! DEFINITION. The state of a BV4620 as plain data: one structure per block of the manual's block overview, the
pins, the settings in force, the deliveries between blocks that are still to be taken, and the queue of waiting
commands. `State.reset` is the machine right after power-on. -/

namespace Sys2Proof.Machine

/-! ### Names -/

/-- The four roles (R206). -/
inductive Role where
  | incomer | generator | tie | feeder
deriving DecidableEq, Repr

/-- The breaker states (R44), in the order of their codes. -/
inductive BreakerState where
  | opened | closing | closed | opening | stuckClosed | discrepant | withdrawn
deriving DecidableEq, Repr

/-- Line and bus states (R17). -/
inductive LiveState where
  | live | dead | indeterminate | unknown
deriving DecidableEq, Repr

/-- The sequence states of the four roles (chapter Changeover), and INACTIVE outside AUTO. NORMAL of an incomer
and NORMAL of a feeder are two constructors, because they are coded in two lists (R206). -/
inductive CsqState where
  | inactive
  | incNormal | sourceLost | returning | retransfer | overlap | blocked
  | stopped | starting | ready | claiming | synchronizing | online | unloading | cooldown | startFailed
  | openNormal | closingAuto | closedAuto | closedManual
  | feederNormal | shed | restoring | openManual | tripped
deriving DecidableEq, Repr

/-- A claim field as a report or an entry shows it (R106, R122). -/
inductive ClaimField where
  | none | claiming (sections : SectionSet) | won (sections : SectionSet) | withdrawn
deriving DecidableEq, Repr

/-- Coil circuit results (R77). -/
inductive CircuitResult where
  | unknown | ok | openCircuit | short | highResistance | driverFault
deriving DecidableEq, Repr

/-- Outcomes of a diagnostic run (R77). -/
inductive RunOutcome where
  | ok | openCircuit | short | highResistance | driverFault | aborted | notApplicable
deriving DecidableEq, Repr

/-- The circuit of a last-run record (R77). -/
inductive RunCircuit where
  | noCircuit | trip | close
deriving DecidableEq, Repr

/-- The coil of a pulse and the circuit of a run. -/
inductive Coil where
  | trip | close
deriving DecidableEq, Repr

/-- The drive levels (R70). -/
inductive DriveLevel where
  | low | normal | high
deriving DecidableEq, Repr

/-- The actions of an element (R23). -/
inductive Action where
  | trip | source | disabled
deriving DecidableEq, Repr

/-- Results of an answered request (R93), in the order of their codes. -/
inductive Result where
  | taken | refusedState | refusedRemote | refusedInterlock | refusedLockout | busy | badCheck | badArgument
  | notApplicable
deriving DecidableEq, Repr

/-- The echo details that an answer may carry (R192). -/
inductive EchoDetail where
  | noRecord | notWritten
deriving DecidableEq, Repr

/-- Cause kinds of a recorder trigger (R181). -/
inductive CauseKind where
  | pickup | trip | input | peer | request
deriving DecidableEq, Repr

/-- Requesters and correction modes of a close request held by the SYN (R121). -/
inductive Requester where
  | sequence | operator
deriving DecidableEq, Repr

inductive CorrectionMode where
  | auto | checkOnly
deriving DecidableEq, Repr

/-- Retransfer modes (R163). -/
inductive RetransferMode where
  | openMode | closedMode
deriving DecidableEq, Repr

/-- The source monitor (R160). -/
inductive Monitor where
  | healthy | suspect | failed
deriving DecidableEq, Repr

/-- The role detail of the four roles (R157, R208): an INCOMER's monitor state, RETRANSFER_INHIBIT, transfer test and
whether its retransfer mode is CLOSED; a TIE's fed section set; whether a FEEDER's shed cause is OVERLOAD. A receiver
holds a monitor code beyond its list absent (R206). -/
inductive RoleDetail where
  | incomer (monitor : Option Monitor) (inhibit transferTest closedMode : Bool)
  | generator
  | tie (fed : SectionSet)
  | feeder (overload : Bool)
deriving DecidableEq, Repr

/-! ### Settings in force -/

/-- The settings of the measurement, and those of the station as a whole (R17, R18, R198, R201, R202). -/
structure StationSettings where
  role : Role
  sectionB : Bool
  fnom : Nat
  vnom : Nat
  livePm : Nat
  deadPm : Nat
  flp : Option Nat
  ratedKw : Nat
  autoInService : Bool
  debounceMs : Nat
  changeMask : BitVec 15
deriving DecidableEq, Repr

/-- The settings of the protection elements (R23, R24). `actions` are those of elements 7 to 10 as the owning
block has put them in force. -/
structure PesSettings where
  enables : BitVec 10
  action7 : Action
  action8 : Action
  action9 : Action
  action10 : Action
  pu3 : Nat
  delay3 : Nat
  pu4 : Nat
  delay4 : Nat
  pu5 : Nat
  td : Nat
  rt : Nat
  rpPm : Nat
  delay6 : Nat
  pu7 : Nat
  delay7 : Nat
  pu8 : Nat
  delay8 : Nat
  pu9 : Nat
  delay9 : Nat
  pu10 : Nat
  delay10 : Nat
deriving DecidableEq, Repr

/-- The settings of the breaker controller and of the coil drivers (R50, R51, R58, R59, R70, R73, R76). -/
structure BreakerSettings where
  closePulseMs : Nat
  bfMs : Nat
  bfpu : Nat
  lineVtFitted : Bool
  driveLevel : DriveLevel
  diagPeriodS : Nat
  rminTrip : Nat
  rmaxTrip : Nat
  rminClose : Nat
  rmaxClose : Nat
deriving DecidableEq, Repr

/-- The settings of the synchronizer (R126). -/
structure SynSettings where
  voltageWindow : Nat
  slipWindow : Nat
  angleWindow : Nat
  tcMs : Nat
  positiveSlipOnly : Bool
deriving DecidableEq, Repr

/-- The settings of the load share controller (R142). The overlap limit serves the incomer too (R165). -/
structure LscSettings where
  kp : Nat
  kf : Nat
  ks : Nat
  slipTarget : Int
  retransferSlipTarget : Int
  softRate : Nat
  unloadRate : Nat
  openThreshold : Nat
  unloadTimeoutS : Nat
  overlapLimitMs : Nat
deriving DecidableEq, Repr

/-- The settings of the changeover sequencer (chapter Changeover). -/
structure CsqSettings where
  failureConfirmMs : Nat
  retransferDelayS : Nat
  retransferClosed : Bool
  startDelayS : Nat
  startTimeS : Nat
  cooldownS : Nat
  tieAuto : Bool
  shedOnDeadBus : Bool
  shedDelayMs : Nat
  priority : Nat
  expectedKw : Nat
  reserveKw : Nat
  addSettleMs : Nat
  shedThreshold : Nat
  overloadDelayMs : Nat
  shedSettleMs : Nat
deriving DecidableEq, Repr

/-- The settings of the disturbance recorder (R178). -/
structure DrcSettings where
  pre : Nat
  post : Nat
  keep : Bool
  enablePickup : Bool
  enableTrip : Bool
  enablePeer : Bool
  enableRequest : Bool
  enableGin : BitVec 4
  levelGin : BitVec 4
  crossOut : Bool
deriving DecidableEq, Repr

/-- The settings that a good image puts in force at the end of START (R196). -/
structure Settings where
  station : StationSettings
  pes : PesSettings
  brk : BreakerSettings
  syn : SynSettings
  lsc : LscSettings
  csq : CsqSettings
  drc : DrcSettings
deriving DecidableEq, Repr

/-! ### Timers -/

/-- A timer: IDLE, or RUNNING with the local time at which it expires. -/
abbrev Timer := Option Time

/-! ### Sample intake and measurement -/

/-- A stored sample with its validity mark (R2). -/
structure Sample where
  value : Int
  valid : Bool
deriving DecidableEq, Repr

/-- The eight stored samples of one instant, with the sample-set count they were strobed at (R1). -/
structure SampleSet where
  count : BitVec 32
  samples : Vector Sample 8
deriving DecidableEq, Repr

/-- A staging buffer: its cycle number (absent while it is empty), its positions filled so far, position 0 first,
and the CLIPPED mark of each channel (R3). -/
structure Buffer where
  cycle : Option Nat
  sets : List SampleSet
  clipped : Vector Bool 8
deriving DecidableEq, Repr

/-- The empty staging buffer of R6. -/
def Buffer.empty : Buffer := { cycle := none, sets := [], clipped := Vector.replicate 8 false }

/-- The converter status (R5). -/
inductive ConverterStatus where
  | ok | lost
deriving DecidableEq, Repr

/-- The Sample Intake Unit. `fillB` says that the sample set of the next instant goes to buffer B; `handedB` which
buffer was handed on last, absent before the first cycle completion. -/
structure Siu where
  bufA : Buffer
  bufB : Buffer
  fillB : Bool
  handedB : Option Bool
  count : BitVec 32
  status : Option ConverterStatus
deriving DecidableEq, Repr

/-- The crossing history of one voltage channel (R14). -/
structure History where
  t0 : Option CrossTime
  t1 : Option CrossTime
  age : Option Nat
  last : Option Sample
deriving DecidableEq, Repr

/-- The history of R21: everything absent. -/
def History.empty : History := { t0 := none, t1 := none, age := none, last := none }

/-- The cycle measurement record (R8). -/
structure Record where
  cycle : Nat
  warmup : Bool
  rms : Vector (Option Nat) 8
  ms : Vector (Option Nat) 8
  clipped : Vector Bool 8
  power : Option Int
  load : Option Int
  fLine : Option Int
  fBus : Option Int
  theta : Option Int
  line : LiveState
  bus : LiveState
deriving DecidableEq, Repr

/-- The Cycle Measurement Engine. -/
structure Cme where
  record : Option Record
  lineHist : History
  busHist : History
  warmCount : Nat
deriving DecidableEq, Repr

/-! ### Protection elements -/

/-- The states of an element (R22). -/
inductive ElState where
  | dropped | pickedUp | operated
deriving DecidableEq, Repr

/-- One element: its state, delay counter and held mark (R22). -/
structure Element where
  state : ElState
  counter : Nat
  held : Bool
deriving DecidableEq, Repr

/-- The element of R43. -/
def Element.reset : Element := { state := .dropped, counter := 0, held := false }

/-- The phase states of element 5 (R31). -/
inductive PhaseState where
  | idle | timing | decaying | operated
deriving DecidableEq, Repr

/-- One phase of element 5: its accumulator and state (R30, R31). -/
structure Phase where
  acc : Nat
  state : PhaseState
deriving DecidableEq, Repr

/-- The phase of R43. -/
def Phase.reset : Phase := { acc := 0, state := .idle }

/-- One entry of element 2's transfer set (R34). -/
structure Origin where
  station : StationNo
  sections : SectionSet
  confirmed : Time
deriving DecidableEq, Repr

/-- The Protection Element Set. Element n is `elements[n - 1]`; the phases of element 5 are a, b, c in order. -/
structure Pes where
  elements : Vector Element 10
  phases : Vector Phase 3
  transfers : List Origin
deriving DecidableEq, Repr

/-- The element set of R41 and R43. -/
def Pes.reset : Pes :=
  { elements := Vector.replicate 10 Element.reset, phases := Vector.replicate 3 Phase.reset, transfers := [] }

/-! ### Breaker controller -/

/-- The last purposes of the breaker record (R44). -/
inductive Purpose where
  | sync | deadBus | feeder | protection | sequence | unload | request | localButton | uncommanded
deriving DecidableEq, Repr

/-- A last trip cause: the element and its detail byte (R44, R207). -/
structure TripCause where
  element : ElementNo
  detail : Byte
deriving DecidableEq, Repr

/-- A running breaker-failure timer, with its start time (R44). -/
structure BfRun where
  start : Time
  due : Time
deriving DecidableEq, Repr

/-- A running lockout pulse: on LOCKOUT_SET or on LOCKOUT_CLR, and its end (R62). -/
structure LockoutPulse where
  onSet : Bool
  due : Time
deriving DecidableEq, Repr

/-- The Breaker Controller: the breaker record, but for its two coils, which are the outputs of `Cds`. -/
structure Bkc where
  state : BreakerState
  lockout : Bool
  failedToClose : Bool
  stuckAlarm : Bool
  closeCircuitFault : Bool
  lastTrip : Option TripCause
  lastPurpose : Option Purpose
  bfTimer : Option BfRun
  bfFlag : Bool
  recheckTimer : Timer
  discrepancyTimer : Timer
  closePulse : Timer
  closingTimer : Timer
  tripPulse : Timer
  stuckTimer : Timer
  lockoutPulse : Option LockoutPulse
deriving DecidableEq, Repr

/-! ### Coil drivers and supervision -/

/-- Step results of a diagnostic run (R68, R73). -/
inductive StepResult where
  | pass | fail (finding : CircuitResult) | notRun
deriving DecidableEq, Repr

/-- A run in progress: its circuit, its start breaker state, its present step 1 to 4 and the end of that step. -/
structure DiagRun where
  circuit : Coil
  startState : BreakerState
  step : Nat
  due : Time
deriving DecidableEq, Repr

/-- A last-run record (R77). -/
structure LastRun where
  circuit : RunCircuit
  outcome : RunOutcome
  time : Time
deriving DecidableEq, Repr

/-- The Coil Driver and Supervision. `lowered` says that the pulse running has been below its setting (R71). -/
structure Cds where
  tripOut : Bool
  closeOut : Bool
  level : DriveLevel
  lowered : Bool
  reduced : Bool
  run : Option DiagRun
  steps : Vector StepResult 4
  tripResult : CircuitResult
  closeResult : CircuitResult
  lastRun : Option LastRun
  periodTimer : Timer
  retryTimer : Timer
  periodStarted : Bool
deriving DecidableEq, Repr

/-! ### Reports -/

/-- The answered part of the last-request echo: origin, kind and result. A receiver holds a code beyond its list
absent (R206). -/
structure EchoBody where
  origin : Byte
  kind : Option Byte
  result : Option Result
deriving DecidableEq, Repr

/-- The last-run record as a report carries it. -/
structure ReportRun where
  circuit : Option RunCircuit
  outcome : Option RunOutcome
  time : Time
deriving DecidableEq, Repr

/-- The five link counters (R100). -/
structure Counters where
  txErrors : BitVec 16
  rxCrc : BitVec 16
  rxFormat : BitVec 16
  overruns : BitVec 16
  dropped : BitVec 16
deriving DecidableEq, Repr

/-- The fields of a report other than the service state (R102, R208). -/
structure ReportBody where
  role : Role
  sections : SectionSet
  clamped : Bool
  lockout : Bool
  bf : Bool
  failedToClose : Bool
  stuckAlarm : Bool
  closeCircuitFault : Bool
  driveReduced : Bool
  eventsLost : Bool
  breaker : Option BreakerState
  line : LiveState
  bus : LiveState
  lastTrip : Option (Byte × Byte)
  fLine : Option Int
  fBus : Option Int
  load : Option Int
  ratedKw : Option Nat
  feeder : Option (Nat × Nat)
  csq : Option CsqState
  roleDetail : RoleDetail
  startFailed : Bool
  blocked : Bool
  syncFailed : Bool
  claim : Option ClaimField
  theta : Option Int
  slip : Option Int
  pickedUp : BitVec 10
  operated : BitVec 10
  held : Bool
  tripCircuit : Option CircuitResult
  closeCircuit : Option CircuitResult
  lastRun : Option ReportRun
  recordsHeld : Nat
  full : Bool
  newestSeq : Option (BitVec 16)
  echo : Option EchoBody
  echoCount : Byte
  echoDetail : Option EchoDetail
  counters : Counters
deriving DecidableEq, Repr

/-- A report: the service state, and every other field, absent in SETTINGS_FAULT (R105). -/
structure Report where
  service : StationState
  body : Option ReportBody
deriving DecidableEq, Repr

/-! ### Station link -/

/-- What the claim slot holds (R90). -/
inductive ClaimItem where
  | claim (sections : SectionSet) | withdraw
deriving DecidableEq, Repr

/-- What the presence/conflict slot holds (R90). -/
inductive PresenceItem where
  | presence | conflict (contested : StationNo)
deriving DecidableEq, Repr

/-- What the event queue holds (R90). -/
inductive EventItem where
  | inputChange (input : Input) (level : Bool) (time : Time)
  | captureTrigger (seq : BitVec 16) (kind : CauseKind) (detail : Byte)
deriving DecidableEq, Repr

/-- A DATA frame in the data queue: its kind (false DIRECTORY, true BLOCK) and its payload (R210). -/
structure DataItem where
  block : Bool
  payload : List Byte
deriving DecidableEq, Repr

/-- The slots and queues of R90. -/
inductive Slot where
  | bf | notice | claim | report | events | data | presence
deriving DecidableEq, Repr

/-- The item in flight: the slot it waits in, whether that slot has been given another item or emptied since the
frame began (R91), whether a report in flight carried EVENTS_LOST (R92), and the frame's bytes on the line. -/
structure Flight where
  slot : Slot
  replaced : Bool
  carriesLost : Bool
  frame : List Byte
deriving DecidableEq, Repr

/-- The last-request echo (R95). -/
structure Echo where
  count : Byte
  body : Option EchoBody
  detail : Option EchoDetail
deriving DecidableEq, Repr

/-- The Station Link Interface. `watching` says that the line has been free since the end of START, so that the first bit
of every frame from then on is seen (R83); `conflict` holds the contested number while the SLI is in conflict;
`presenceLeft` counts the PRESENCE placements still to come (R96). -/
structure Sli where
  ownNumber : StationNo
  bfSlot : Option SectionSet
  noticeSlot : Option TripCause
  claimSlot : Option ClaimItem
  reportSlot : Option Report
  events : List EventItem
  data : List DataItem
  presenceSlot : Option PresenceItem
  flight : Option Flight
  watching : Bool
  lineFree : Bool
  counters : Counters
  eventsLost : Bool
  conflict : Option StationNo
  conflictTimer : Timer
  presenceTimer : Timer
  presenceLeft : Nat
  echo : Echo
deriving DecidableEq, Repr

/-! ### Peer table -/

/-- The states of a peer entry (R106). -/
inductive EntryState where
  | empty | fresh | stale | lost | conflicted
deriving DecidableEq, Repr

/-- The conflict record of an entry: the time of the last CONFLICT frame, the cleared flag and the clear timer. -/
structure ConflictRecord where
  time : Time
  cleared : Bool
  clearTimer : Timer
deriving DecidableEq, Repr

/-- A peer entry (R106). -/
structure Entry where
  state : EntryState
  report : Option Report
  reportTime : Option Time
  freshTimer : Timer
  lossTimer : Timer
  closedTime : Option Time
  refresh : Nat
  claim : ClaimField
  conflict : Option ConflictRecord
deriving DecidableEq, Repr

/-- The entry of R120. -/
def Entry.empty : Entry :=
  { state := .empty, report := none, reportTime := none, freshTimer := none, lossTimer := none,
    closedTime := none, refresh := 0, claim := .none, conflict := none }

/-- The part of the own report record that the BKC publishes (R102). -/
structure OwnBreaker where
  state : BreakerState
  lockout : Bool
  bf : Bool
  lastTrip : Option TripCause
  failedToClose : Bool
  stuckAlarm : Bool
  closeCircuitFault : Bool
deriving DecidableEq, Repr

/-- The part of the own report record that the CSQ publishes (R157). -/
structure OwnSequence where
  state : CsqState
  detail : RoleDetail
  startFailed : Bool
  blocked : Bool
  syncFailed : Bool
deriving DecidableEq, Repr

/-- The measured part of the own report record (R103). -/
structure OwnMeasured where
  line : LiveState
  bus : LiveState
  fLine : Option Int
  fBus : Option Int
  load : Option Int
  theta : Option Int
deriving DecidableEq, Repr

/-- The Peer Table. Entry n is `entries[n]` for n 1 to 31; place 0 is no station's and stays empty. The own report
record is `ownBreaker`, `ownSequence`, `ownClaim`, `ownService` and `ownMeasured`, absent until the end of START;
its other fields are read at their sources (notes/assumptions/12). -/
structure Ptb where
  entries : Vector Entry 32
  ownBreaker : Option OwnBreaker
  ownSequence : Option OwnSequence
  ownClaim : Option ClaimField
  ownService : Option StationState
  ownMeasured : Option OwnMeasured
  reportTimer : Timer
  addMark : Option Time
deriving DecidableEq, Repr

/-! ### Synchronizer -/

/-- The SYN states (R122). -/
inductive SynState where
  | idle | synchronizing | claiming | yielded | syncFailed
deriving DecidableEq, Repr

/-- A held close request (R121). -/
structure SynRequest where
  requester : Requester
  mode : CorrectionMode
deriving DecidableEq, Repr

/-- The phases of a claim (R121). -/
inductive ClaimPhase where
  | pending | holding | won
deriving DecidableEq, Repr

/-- A claim record (R121). -/
structure Claim where
  sections : SectionSet
  phase : ClaimPhase
deriving DecidableEq, Repr

/-- The Synchronizer. `closeTaken` says that the BKC has taken a SYNC or DEAD_BUS claim of the held request (R128,
R138), or a trip during the CLOSING that the request waits for, so that the breaker record OPEN ends it as CLOSE_FAILED.
`lockoutSeen` holds the lockout flag of the breaker record the SYN took last, or set by such a trip. Both are the model's
own (notes/assumptions/17, 61). -/
structure Syn where
  state : SynState
  request : Option SynRequest
  attempt : Nat
  closeInFlight : Bool
  permitCount : Nat
  deadCount : Nat
  claim : Option Claim
  winner : Option StationNo
  syncTimer : Timer
  retryTimer : Timer
  holdTimer : Timer
  yieldTimer : Timer
  refusalTimer : Timer
  avrSpacing : Timer
  avrPulse : Timer
  avrRaise : Bool
  avrLower : Bool
  failedAlarm : Bool
  closeTaken : Bool
  lockoutSeen : Bool
deriving DecidableEq, Repr

/-! ### Load share controller -/

/-- The modes of the LSC (R143). -/
inductive LscMode where
  | zero | syncCorrect | softLoad | share | unload | hold
deriving DecidableEq, Repr

/-- The reasons of an unload (R141). -/
inductive UnloadReason where
  | request | retransferOpen | overlap
deriving DecidableEq, Repr

/-- An overlap deadline: the local time, whether its timer still runs, and its claimed mark (R154). -/
structure OverlapDeadline where
  due : Time
  running : Bool
  claimed : Bool
deriving DecidableEq, Repr

/-- The Load Share Controller. `duty` is the GOV_BIAS duty of the output period now running (R145). -/
structure Lsc where
  mode : LscMode
  resume : Option LscMode
  bias : Int
  ramp : Option Int
  te : Option Int
  reason : Option UnloadReason
  openClaimed : Bool
  shareTimer : Timer
  unloadTimer : Timer
  overlap : Option OverlapDeadline
  duty : Int
deriving DecidableEq, Repr

/-! ### Changeover sequencer -/

/-- The shed causes of a feeder. -/
inductive ShedCause where
  | deadBus | overload
deriving DecidableEq, Repr

/-- The Changeover Sequencer. The model's own fields (notes/assumptions/18): `holding`, that it holds a SEQUENCE
request whose end it has not yet been told; `ownOpen`, that its last open claim has not yet been seen to open the
breaker; `seenBreaker`, the breaker state it took last; `seenShed`, the feeder members in SHED of the view it took
last; `restoreTaken`, that the BKC took its restoration claim; `withdrawn`, how many requests it has withdrawn whose
outcome CANCELLED it has still to be told (notes/assumptions/50). -/
structure Csq where
  state : CsqState
  fedB : Bool
  shedCause : Option ShedCause
  mode : Option RetransferMode
  monitor : Monitor
  confirmTimer : Timer
  confirmLeft : Option Nat
  transferTest : Bool
  inhibit : Bool
  delayRunOut : Bool
  startFailed : Bool
  blocked : Bool
  retransferDelay : Timer
  overlapBackup : Timer
  startDelay : Timer
  startTimer : Timer
  cooldown : Timer
  shedDelay : Timer
  restoreWait : Timer
  overloadTimer : Timer
  overloadExpired : Bool
  shedSettle : Timer
  holding : Bool
  ownOpen : Bool
  seenBreaker : BreakerState
  seenShed : List StationNo
  restoreTaken : Bool
  withdrawn : Nat
deriving DecidableEq, Repr

/-! ### Disturbance recorder -/

/-- A capture block record (R179); its next link is the order of its home's list. -/
structure Block where
  sets : List (Vector Int 8)
  cycle : Nat
  gap : Bool
  clipped : Bool
  trigger : Bool
deriving DecidableEq, Repr

/-- A block whose contents have no meaning (R179, R194). -/
def Block.blank : Block := { sets := [], cycle := 0, gap := false, clipped := false, trigger := false }

/-- The number of a capture block, 0 to 95. -/
abbrev BlockNo := Fin 96

/-- A record descriptor (R181). Total blocks is the length of the chain. -/
structure Descriptor where
  seq : BitVec 16
  filling : Bool
  kind : CauseKind
  detail : Byte
  start : Time
  preCount : Nat
  trigPos : Nat
  shortPre : Bool
  extended : Bool
  truncated : Bool
  chain : List BlockNo
deriving DecidableEq, Repr

/-- The Disturbance Recorder. `markNext` says that a trigger found no block to mark, so that the next block stored
into the FILLING record is to be marked (R182). -/
structure Drc where
  blocks : Vector Block 96
  free : List BlockNo
  ring : List BlockNo
  records : List Descriptor
  postCount : Nat
  markNext : Bool
  seqCounter : BitVec 16
  full : Bool
  missed : BitVec 16
  overwritten : BitVec 16
  gin : Vector Bool 4
deriving DecidableEq, Repr

/-! ### Station service controller -/

/-- The Station Service Controller. Input i has `debounced[i]` and `debounceTimers[i]`; its raw level is a pin.
`attempts` counts the settings read attempts begun, `reading` says that one is in progress. -/
structure Ssc where
  station : StationState
  clamped : Bool
  returnState : Option StationState
  debounced : Vector Bool 15
  debounceTimers : Vector Timer 15
  runRequest : Bool
  attempts : Nat
  reading : Bool
  readRetry : Timer
  presenceTimer : Timer
  convertersLost : Bool
deriving DecidableEq, Repr

/-- The input pins, and what is fixed in the part. -/
structure Pins where
  straps : BitVec 5
  raw : Vector Bool 15
  overTemp : Bool
  identity : BitVec 48
deriving DecidableEq, Repr

/-! ### Deliveries between blocks -/

/-- What one block has published to another, or claimed at it, and the other has not yet taken: the manual gives
each taking as an event of the taking block (notes/assumptions/3). A publication of the PES says whether it follows a
cycle evaluation (R160). -/
inductive Delivery where
  | cmeBuffer | drcBuffer
  | pesRecord | synRecord | lscRecord | csqRecord | ptbRecord | sscRecord
  | tripClaim (cause : ElementNo) (detail : Byte)
  | openClaim (purpose : OpenPurpose)
  | closeClaim (purpose : ClosePurpose)
  | drcTrigger (kind : PesTrigger) (element : ElementNo)
  | pesConflict (n : StationNo)
  | pesStation (fromState toState : StationState)
  | synStation (fromState toState : StationState)
  | lscStation (fromState toState : StationState)
  | cdsStation (toState : StationState)
  | csqAutoEntry | csqAutoExit
  | synBreaker | lscBreaker | csqBreaker | cdsBreaker
  | synView | lscView | csqView
  | lscSyn
  | csqSyn (outcome : Option SynOutcome)
  | csqLsc
  | csqPes (afterCycle : Bool)
  | ptb (source : Source)
deriving DecidableEq, Repr

/-! ### The state -/

/-- The whole station. `freeCount` is the model's own counter of free values drawn (notes/assumptions/8). -/
structure State where
  localTime : Time
  pins : Pins
  settings : Option Settings
  siu : Siu
  cme : Cme
  pes : Pes
  bkc : Bkc
  cds : Cds
  sli : Sli
  ptb : Ptb
  syn : Syn
  lsc : Lsc
  csq : Csq
  drc : Drc
  ssc : Ssc
  due : List Delivery
  freeCount : Nat
  pending : List Instr
deriving DecidableEq, Repr

/-! ### Reset values of the blocks -/

/-- R6. -/
def Siu.reset : Siu :=
  { bufA := Buffer.empty, bufB := Buffer.empty, fillB := false, handedB := none, count := 0, status := none }

/-- R21. -/
def Cme.reset : Cme :=
  { record := none, lineHist := History.empty, busHist := History.empty, warmCount := 0 }

/-- R67; the breaker state and the lockout flag before the end of START are the model's (notes/assumptions/4). -/
def Bkc.reset : Bkc :=
  { state := .opened, lockout := false, failedToClose := false, stuckAlarm := false,
    closeCircuitFault := false, lastTrip := none, lastPurpose := none, bfTimer := none, bfFlag := false,
    recheckTimer := none, discrepancyTimer := none, closePulse := none, closingTimer := none,
    tripPulse := none, stuckTimer := none, lockoutPulse := none }

/-- R81; the present drive level is undefined until the first pulse (notes/assumptions/4). -/
def Cds.reset : Cds :=
  { tripOut := false, closeOut := false, level := .normal, lowered := false, reduced := false, run := none,
    steps := Vector.replicate 4 .notRun, tripResult := .unknown, closeResult := .unknown, lastRun := none,
    periodTimer := none, retryTimer := none, periodStarted := false }

/-- The link counters after a reset (R101). -/
def Counters.zero : Counters := { txErrors := 0, rxCrc := 0, rxFormat := 0, overruns := 0, dropped := 0 }

/-- R101: a strap reading of 0 is taken as 31. -/
def strapNumber (straps : BitVec 5) : StationNo := if straps = 0 then 31 else straps.toFin

/-- R101. -/
def Sli.reset (straps : BitVec 5) : Sli :=
  { ownNumber := strapNumber straps, bfSlot := none, noticeSlot := none, claimSlot := none, reportSlot := none,
    events := [], data := [], presenceSlot := none, flight := none, watching := false, lineFree := false,
    counters := Counters.zero, eventsLost := false, conflict := none, conflictTimer := none,
    presenceTimer := none, presenceLeft := 0, echo := { count := 0, body := none, detail := none } }

/-- R120. -/
def Ptb.reset : Ptb :=
  { entries := Vector.replicate 32 Entry.empty, ownBreaker := none, ownSequence := none, ownClaim := none,
    ownService := none, ownMeasured := none, reportTimer := none, addMark := none }

/-- R140. -/
def Syn.reset : Syn :=
  { state := .idle, request := none, attempt := 1, closeInFlight := false, permitCount := 0, deadCount := 0,
    claim := none, winner := none, syncTimer := none, retryTimer := none, holdTimer := none, yieldTimer := none,
    refusalTimer := none, avrSpacing := none, avrPulse := none, avrRaise := false, avrLower := false,
    failedAlarm := false, closeTaken := false, lockoutSeen := false }

/-- R156. -/
def Lsc.reset : Lsc :=
  { mode := .zero, resume := none, bias := 0, ramp := none, te := none, reason := none, openClaimed := false,
    shareTimer := none, unloadTimer := none, overlap := none, duty := 500 }

/-- R177. -/
def Csq.reset : Csq :=
  { state := .inactive, fedB := false, shedCause := none, mode := none, monitor := .healthy,
    confirmTimer := none, confirmLeft := none, transferTest := false, inhibit := false, delayRunOut := false,
    startFailed := false, blocked := false, retransferDelay := none, overlapBackup := none, startDelay := none,
    startTimer := none, cooldown := none, shedDelay := none, restoreWait := none, overloadTimer := none,
    overloadExpired := false, shedSettle := none, holding := false, ownOpen := false, seenBreaker := .opened,
    seenShed := [], restoreTaken := false, withdrawn := 0 }

/-- R194: all 96 blocks in the free list, in block-number order. DESIGN CHOICE (unsafe; notes/assumptions/4): the held
levels of GIN1 to GIN4 until the end of START, and the post count while no record is FILLING. -/
def Drc.reset : Drc :=
  { blocks := Vector.replicate 96 Block.blank, free := List.finRange 96, ring := [], records := [],
    postCount := 0, markNext := false, seqCounter := 0, full := false, missed := 0, overwritten := 0,
    gin := Vector.replicate 4 false }

/-- R205: the first read attempt begins at once. -/
def Ssc.reset (raw : Vector Bool 15) : Ssc :=
  { station := .start, clamped := false, returnState := none, debounced := raw,
    debounceTimers := Vector.replicate 15 none, runRequest := false, attempts := 1, reading := true,
    readRetry := none, presenceTimer := none, convertersLost := false }

/-- Every block in its reset state, with the pins as they stand; the local time counts from the end of the reset
(R205). -/
def State.ofPins (pins : Pins) : State :=
  { localTime := 0, pins := pins, settings := none, siu := Siu.reset, cme := Cme.reset, pes := Pes.reset,
    bkc := Bkc.reset, cds := Cds.reset, sli := Sli.reset pins.straps, ptb := Ptb.reset, syn := Syn.reset,
    lsc := Lsc.reset, csq := Csq.reset, drc := Drc.reset, ssc := Ssc.reset pins.raw, due := [], freeCount := 0,
    pending := [] }

/-- The machine right after power-on, with every pin at level 0 and the factory identity 0 (the levels are the
cubicle's, not the part's: notes/assumptions/4). -/
def State.reset : State :=
  State.ofPins { straps := 0, raw := Vector.replicate 15 false, overTemp := false, identity := 0 }

/-! ### Stops -/

/-- The faults of a step. The manual describes no event after which the part stops, so there is none; no command
raises one. -/
inductive Fault where
deriving DecidableEq, Repr

/-- The refusals of a step. -/
inductive Refusal where
  /-- Raised by the dispatcher for a command that has no meaning yet; safe, because nothing is claimed of it. -/
  | notModelled (mnemonic : String)
deriving DecidableEq, Repr

end Sys2Proof.Machine
end

