-- ==== Sys2Proof/Machine/Arith.lean ====
section
/-! DEFINITION. The integer arithmetic of the manual: clamping, the integer square root, the reduction of an angle,
counters that stop at their limit, and the two cyclic redundancy checks. Division truncates toward zero
(`Int.tdiv`), as the conventions of the Introduction say. -/

namespace Sys2Proof.Machine

/-- The nearer limit when `x` lies outside `lo..hi`, and `x` otherwise. -/
def clampInt (lo hi x : Int) : Int := max lo (min hi x)

/-- The digits of the square root of `n` from bit `k - 1` down, added to the root `r` found so far. -/
def isqrtFrom (n : Nat) : Nat → Nat → Nat
  | 0, r => r
  | k + 1, r => if (r + 2 ^ k) * (r + 2 ^ k) ≤ n then isqrtFrom n k (r + 2 ^ k) else isqrtFrom n k r

/-- The integer square root of a number below 2^32: the largest integer whose square does not exceed it (R9). -/
def isqrt (n : Nat) : Nat := isqrtFrom n 16 0

/-- The representative `d` of `x` modulo `period` with `-period ≤ 2d < period`: the outcome of the two while loops
of R16. -/
def reduceHalfOpen (period x : Int) : Int :=
  let r := x.emod period
  if 2 * r ≥ period then r - period else r

/-- The representative of `x` modulo 36000 in -17999..18000 (R127). -/
def reduceAngle (x : Int) : Int := (x + 17999).emod 36000 - 17999

/-- A 16-bit counter that stops at 65535 (R100, R178). -/
def stopAt65535 (c : BitVec 16) : BitVec 16 := if c = 65535 then c else c + 1

/-- One bit of a cyclic redundancy check: the register is shifted left, and combined with the generator word when
its top bit differed from the bit (R87). -/
def crcBit {w : Nat} (generator register : BitVec w) (bit : Bool) : BitVec w :=
  if register.msb = bit then register <<< 1 else (register <<< 1) ^^^ generator

/-- The eight bits of a byte, most significant first. -/
def bitsOf (b : Byte) : List Bool :=
  [b.getLsbD 7, b.getLsbD 6, b.getLsbD 5, b.getLsbD 4, b.getLsbD 3, b.getLsbD 2, b.getLsbD 1, b.getLsbD 0]

/-- A check over a list of bytes, each most significant bit first. -/
def crcBytes {w : Nat} (generator start : BitVec w) (bytes : List Byte) : BitVec w :=
  bytes.foldl (fun reg b => (bitsOf b).foldl (crcBit generator) reg) start

/-- The CRC-16 of frames and of the settings image: generator 2B4D hex, start FFFF hex, not inverted (R87, R196). -/
def crc16 (bytes : List Byte) : BitVec 16 := crcBytes 0x2B4D 0xFFFF bytes

/-- The request check: a CRC-8 with generator 4D hex and start FF hex (R93). -/
def crc8 (bytes : List Byte) : BitVec 8 := crcBytes 0x4D 0xFF bytes

/-- The two bytes of a 16-bit field, most significant first (R206). -/
def be16 (x : BitVec 16) : List Byte := [x.extractLsb' 8 8, x.extractLsb' 0 8]

/-- The four bytes of a 32-bit field, most significant first. -/
def be32 (x : BitVec 32) : List Byte :=
  [x.extractLsb' 24 8, x.extractLsb' 16 8, x.extractLsb' 8 8, x.extractLsb' 0 8]

/-- The six bytes of the 48-bit identity, most significant first (R207). -/
def be48 (x : BitVec 48) : List Byte :=
  [x.extractLsb' 40 8, x.extractLsb' 32 8, x.extractLsb' 24 8, x.extractLsb' 16 8, x.extractLsb' 8 8,
   x.extractLsb' 0 8]

/-- The 16-bit field at offset `i`. -/
def read16 (at' : Nat → Byte) (i : Nat) : BitVec 16 := at' i ++ at' (i + 1)

/-- The 32-bit field at offset `i`. -/
def read32 (at' : Nat → Byte) (i : Nat) : BitVec 32 := at' i ++ at' (i + 1) ++ at' (i + 2) ++ at' (i + 3)

/-- The 48-bit field at offset `i`. -/
def read48 (at' : Nat → Byte) (i : Nat) : BitVec 48 :=
  at' i ++ at' (i + 1) ++ at' (i + 2) ++ at' (i + 3) ++ at' (i + 4) ++ at' (i + 5)

/-- A one-bit field. -/
def bit1 (b : Bool) : BitVec 1 := BitVec.ofBool b

end Sys2Proof.Machine
end

