-- ==== Sys2Proof/Machine/Flags.lean ====
section
/-! DEFINITION. The flags and conditions that the blocks compute from one record or one structure: element numbers,
breaker states as closed or open, thresholds, the sets the PES publishes, the SYN's claim field and correction flag,
the role detail and the alarm conditions. -/

namespace Sys2Proof

/-! ### Section sets and station states -/

/-- Both sections. -/
def SectionSet.both : SectionSet := { a := true, b := true }

/-- No section. -/
def SectionSet.empty : SectionSet := { a := false, b := false }

/-- Section B alone. -/
def SectionSet.onlyB : SectionSet := { a := false, b := true }

/-- Whether two section sets have a section in common. -/
def SectionSet.overlaps (x y : SectionSet) : Bool := (x.a && y.a) || (x.b && y.b)

/-- Protection is active in WARMUP, AUTO, MANUAL, TEST and ADDRESS_CONFLICT (R25). -/
def StationState.protects : StationState → Bool
  | .warmup | .auto | .manual | .test | .addressConflict => true
  | .start | .settingsFault | .presence => false

/-- The states in which the part is at work with settings in force: every one but START and SETTINGS_FAULT. -/
def StationState.atWork : StationState → Bool
  | .start | .settingsFault => false
  | _ => true

end Sys2Proof

namespace Sys2Proof.Machine

/-! ### Indexes -/

/-- The place of an element in the element vector: its number less one. -/
def elementIdx : ElementNo → Fin 10
  | .e1 => 0 | .e2 => 1 | .e3 => 2 | .e4 => 3 | .e5 => 4
  | .e6 => 5 | .e7 => 6 | .e8 => 7 | .e9 => 8 | .e10 => 9

/-- An element's number, 1 to 10. -/
def elementNumber (e : ElementNo) : Nat := (elementIdx e).val + 1

/-- The ten elements in the order of their numbers. -/
def allElements : List ElementNo := [.e1, .e2, .e3, .e4, .e5, .e6, .e7, .e8, .e9, .e10]

/-- The place of an input: its input number (R206). -/
def inputIdx : Input → Fin 15
  | .bkrClosed => 0 | .bkrOpen => 1 | .rackedIn => 2 | .springOk => 3 | .remotePermit => 4
  | .localOpen => 5 | .localClose => 6 | .lockoutReset => 7 | .extTrip => 8 | .lockoutIn => 9
  | .genReady => 10 | .gin1 => 11 | .gin2 => 12 | .gin3 => 13 | .gin4 => 14

/-- The debounced level of an input (R201). -/
def State.input (s : State) (i : Input) : Bool := s.ssc.debounced[inputIdx i]

/-! ### Section sets -/

/-- The own section set: both sections for a TIE, else the section set in force. -/
def StationSettings.sections (st : StationSettings) : SectionSet :=
  if st.role = .tie then SectionSet.both else { a := !st.sectionB, b := st.sectionB }

/-! ### Station and breaker states -/

/-- R115: whether a breaker state counts as closed. -/
def BreakerState.countsClosed : BreakerState → Bool
  | .closed | .opening | .stuckClosed | .discrepant => true
  | .opened | .closing | .withdrawn => false

/-- OPEN or WITHDRAWN. -/
def BreakerState.isOpenOrOut : BreakerState → Bool
  | .opened | .withdrawn => true
  | _ => false

/-! ### Thresholds computed at the end of START (R17, R24, R59, R142) -/

def StationSettings.liveThreshold (st : StationSettings) : Nat := st.vnom * st.livePm / 1000

def StationSettings.deadThreshold (st : StationSettings) : Nat := st.vnom * st.deadPm / 1000

/-- Samples per second: 48 × fnom (R1). -/
def StationSettings.sampleRate (st : StationSettings) : Nat := 48 * st.fnom

/-- PU² of element 5. -/
def PesSettings.pu5Squared (p : PesSettings) : Nat := p.pu5 * p.pu5

/-- A_full = TD × PU² (R24). -/
def PesSettings.accFull (p : PesSettings) : Nat := p.td * p.pu5Squared

/-- The clamp limit 64 × PU² (R30). -/
def PesSettings.clampLimit (p : PesSettings) : Nat := 64 * p.pu5Squared

/-- The decay step D, the larger of 1 and A_full / RT (R30). -/
def PesSettings.decayStep (p : PesSettings) : Nat := max 1 (p.accFull / p.rt)

/-- BFPU² (R59). -/
def BreakerSettings.bfpuSquared (b : BreakerSettings) : Nat := b.bfpu * b.bfpu

/-- The ramp steps per share interval: rate / 50, and ten times the unload step for an overlap (R142). -/
def LscSettings.softStep (l : LscSettings) : Nat := l.softRate / 50

def LscSettings.unloadStep (l : LscSettings) : Nat := l.unloadRate / 50

def LscSettings.overlapStep (l : LscSettings) : Nat := 10 * l.unloadStep

/-! ### What the PES publishes (R22, R23) -/

/-- The action of an element as it stands in force. -/
def PesSettings.action (p : PesSettings) : ElementNo → Action
  | .e7 => p.action7 | .e8 => p.action8 | .e9 => p.action9 | .e10 => p.action10
  | _ => .trip

/-- An element is in service when its enable is set, its action is not DISABLED, and, for element 6, the station
is a GENERATOR (R23). -/
def Settings.inService (st : Settings) (e : ElementNo) : Bool :=
  st.pes.enables.getLsbD (elementIdx e).val && st.pes.action e != .disabled &&
    (e != .e6 || st.station.role = .generator)

/-- The state of an element. -/
def Pes.el (p : Pes) (e : ElementNo) : Element := p.elements[elementIdx e]

/-- Picked up: PICKED_UP or OPERATED. -/
def Element.isPickedUp (x : Element) : Bool := x.state != .dropped

/-- A set of elements as bits, bit n - 1 for element n (R208). -/
def elementSet (f : ElementNo → Bool) : BitVec 10 :=
  bit1 (f .e10) ++ bit1 (f .e9) ++ bit1 (f .e8) ++ bit1 (f .e7) ++ bit1 (f .e6) ++ bit1 (f .e5) ++
    bit1 (f .e4) ++ bit1 (f .e3) ++ bit1 (f .e2) ++ bit1 (f .e1)

/-- The published set of picked-up elements. -/
def Pes.pickedUpSet (p : Pes) : BitVec 10 := elementSet fun e => (p.el e).isPickedUp

/-- The published set of operated elements. -/
def Pes.operatedSet (p : Pes) : BitVec 10 := elementSet fun e => (p.el e).state == .operated

/-- The published held flag. -/
def Pes.heldFlag (p : Pes) : Bool := allElements.any fun e => (p.el e).held

/-- Whether the published set of operated TRIP-action elements holds some element (R61). -/
def tripOperated (st : Settings) (p : Pes) : Bool :=
  allElements.any fun e => (p.el e).state == .operated && st.pes.action e == .trip

/-- The elements in service whose action is SOURCE, on an INCOMER (R23, R160). -/
def Settings.sourceElements (st : Settings) : List ElementNo :=
  allElements.filter fun e => st.inService e && st.pes.action e == .source

/-! ### What the SYN publishes (R122) -/

/-- The claim field: NONE without a claim record, CLAIMING while it is PENDING or HOLDING, WON while it is WON. -/
def Syn.claimField (y : Syn) : ClaimField :=
  match y.claim with
  | none => .none
  | some c => if c.phase = .won then .won c.sections else .claiming c.sections

/-- The correction flag: ACTIVE in SYNCHRONIZING with a request in AUTO mode and no close in flight. -/
def Syn.correction (y : Syn) : Bool :=
  y.state == .synchronizing && y.request.any (fun r => r.mode == .auto) && !y.closeInFlight

/-! ### Measurement conditions -/

/-- The latest record, when it is not WARMUP. That the CSQ reads no earlier one in its place (R157) is a DESIGN CHOICE
(unsafe; notes/assumptions/70). -/
def State.goodRecord (s : State) : Option Record := s.cme.record.filter fun r => !r.warmup

/-- The load p of the latest record, when that record is not WARMUP and holds it. -/
def State.goodLoad (s : State) : Option Int := s.goodRecord.bind fun r => r.load

/-- slip = f_line - f_bus, when both are present (R8). -/
def Record.slip (r : Record) : Option Int :=
  match r.fLine, r.fBus with
  | some l, some b => some (l - b)
  | _, _ => none

/-- f_line present and within 500 mHz of fnom × 1000 (R132, R167). -/
def Record.nearNominal (r : Record) (fnom : Nat) : Bool :=
  match r.fLine with
  | some f => decide ((f - fnom * 1000).natAbs ≤ 500)
  | none => false

/-- Whether some phase (channels 4, 5, 6) of a record that is not WARMUP has an MS present above a limit (R59). -/
def State.phaseAbove (s : State) (limit : Nat) : Bool :=
  match s.goodRecord with
  | none => false
  | some r => r.ms[4].any (· > limit) || r.ms[5].any (· > limit) || r.ms[6].any (· > limit)

/-! ### Coil circuits and alarms -/

/-- A faulty circuit result (R77). -/
def CircuitResult.faulty : CircuitResult → Bool
  | .openCircuit | .short | .highResistance | .driverFault => true
  | .unknown | .ok => false

/-- Some alarm condition of R203 stands. -/
def State.alarmCondition (s : State) : Bool :=
  (s.ssc.station.atWork && s.bkc.state == .discrepant) || s.bkc.failedToClose || s.bkc.stuckAlarm ||
    s.cds.tripResult.faulty || s.cds.closeResult.faulty ||
    s.csq.startFailed || s.csq.blocked || s.syn.failedAlarm || s.ssc.convertersLost ||
    s.ssc.station == .addressConflict

/-- The ALARM output: energized while no condition stands, and de-energized in START and SETTINGS_FAULT (R203). -/
def State.alarm (s : State) : Bool := s.ssc.station.atWork && !s.alarmCondition

/-- The LOCKOUT_SET and LOCKOUT_CLR outputs: energized while their pulse runs (R62). -/
def State.lockoutSetOut (s : State) : Bool := s.bkc.lockoutPulse.any fun p => p.onSet

def State.lockoutClrOut (s : State) : Bool := s.bkc.lockoutPulse.any fun p => !p.onSet

/-! ### Sequence states -/

/-- The role detail (R157, R208). The mode stands in RETRANSFER, the shed cause in SHED and RESTORING. -/
def Csq.detail (c : Csq) (role : Role) : RoleDetail :=
  match role with
  | .incomer => .incomer (some c.monitor) c.inhibit c.transferTest (c.mode == some .closedMode)
  | .generator => .generator
  | .tie => .tie { a := false, b := c.fedB }
  | .feeder => .feeder (c.shedCause == some .overload)

/-- The role that a role detail belongs to. -/
def RoleDetail.role : RoleDetail → Role
  | .incomer _ _ _ _ => .incomer
  | .generator => .generator
  | .tie _ => .tie
  | .feeder _ => .feeder

/-- An INCOMER's retransfer mode is CLOSED (R208). -/
def RoleDetail.modeClosed : RoleDetail → Bool
  | .incomer _ _ _ closedMode => closedMode
  | _ => false

/-- READY, and the two states that a generator shows in its place while the SYN works (R168). -/
def CsqState.inReady : CsqState → Bool
  | .ready | .claiming | .synchronizing => true
  | _ => false

/-- The LSC stands in UNLOAD, or in HOLD resuming UNLOAD (R169). -/
def Lsc.unloading (l : Lsc) : Bool := l.mode == .unload || (l.mode == .hold && l.resume == some .unload)

/-- The LSC stands in SOFT_LOAD or SHARE, or in HOLD resuming one of them (R169). -/
def Lsc.carrying (l : Lsc) : Bool :=
  l.mode == .softLoad || l.mode == .share ||
    (l.mode == .hold && (l.resume == some .softLoad || l.resume == some .share))

/-! ### Contacts -/

/-- Contact positions (R45). -/
inductive ContactPosition where
  | withdrawn | opened | closed | transit | contradictory
deriving DecidableEq, Repr

/-- The contact position from the debounced contacts (R45). -/
def State.contacts (s : State) : ContactPosition :=
  if !s.input .rackedIn then .withdrawn
  else
    match s.input .bkrClosed, s.input .bkrOpen with
    | false, true => .opened
    | true, false => .closed
    | false, false => .transit
    | true, true => .contradictory

/-- The breaker state derived from a contact position (R45). -/
def ContactPosition.derived : ContactPosition → BreakerState
  | .opened => .opened
  | .closed => .closed
  | .transit | .contradictory => .discrepant
  | .withdrawn => .withdrawn

end Sys2Proof.Machine
end

