-- ==== Sys2Proof/Machine/Operands.lean ====
section
/-! DEFINITION. The layouts of the chapter Formats and Connections: the converter word, the codes of the enumerations,
the report payload with its encoder and decoder, the section-set byte, and the frame with its header and CRC. -/

namespace Sys2Proof.Machine

/-! ### The converter word (R2, R207) -/

/-- The sample field, bits 23..8, signed. -/
def wordSample (w : BitVec 24) : Int := (w.extractLsb' 8 16).toInt

/-- The channel tag, bits 7..5. -/
def wordTag (w : BitVec 24) : Nat := (w.extractLsb' 5 3).toNat

/-- Whether a word is valid in the slot of a channel: its tag is the channel's and its VALID field is set. -/
def wordValid (channel : Nat) (w : BitVec 24) : Bool := decide (wordTag w = channel) && w.getLsbD 4

/-- The stored sample of a word in the slot of a channel, by the table of R2. -/
def storedSample (channel : Nat) (w : BitVec 24) : Sample :=
  if !wordValid channel w then { value := 0, valid := false }
  else if w.getLsbD 3 then { value := if wordSample w ≥ 0 then 32767 else -32767, valid := true }
  else if wordSample w = -32768 then { value := -32767, valid := true }
  else { value := wordSample w, valid := true }

/-- Whether a word marks its channel CLIPPED (R2). -/
def wordClips (channel : Nat) (w : BitVec 24) : Bool :=
  wordValid channel w && (w.getLsbD 3 || decide (wordSample w = -32768))

/-! ### Codes (R206) -/

def Role.code : Role → BitVec 2
  | .incomer => 0 | .generator => 1 | .tie => 2 | .feeder => 3

def roleOfCode (c : BitVec 2) : Role :=
  if c = 0 then .incomer else if c = 1 then .generator else if c = 2 then .tie else .feeder

/-- Bit 0 section A, bit 1 section B. -/
def sectionBits (x : SectionSet) : BitVec 2 := bit1 x.b ++ bit1 x.a

def sectionsOfBits (c : BitVec 2) : SectionSet := { a := c.getLsbD 0, b := c.getLsbD 1 }

/-- A section-set byte; its other bits are disregarded by a receiver. -/
def sectionByte (x : SectionSet) : Byte := 0#6 ++ sectionBits x

def sectionsOfByte (b : Byte) : SectionSet := sectionsOfBits (b.extractLsb' 0 2)

def serviceCode : StationState → BitVec 3
  | .start => 0 | .settingsFault => 1 | .presence => 2 | .warmup => 3 | .auto => 4 | .manual => 5 | .test => 6
  | .addressConflict => 7

def serviceOfCode (c : BitVec 3) : StationState :=
  if c = 0 then .start else if c = 1 then .settingsFault else if c = 2 then .presence else if c = 3 then .warmup
  else if c = 4 then .auto else if c = 5 then .manual else if c = 6 then .test else .addressConflict

def BreakerState.code : BreakerState → BitVec 3
  | .opened => 0 | .closing => 1 | .closed => 2 | .opening => 3 | .stuckClosed => 4 | .discrepant => 5
  | .withdrawn => 6

/-- A code beyond the list is held absent (R206); so below. -/
def breakerOfCode (c : BitVec 3) : Option BreakerState :=
  if c = 0 then some .opened else if c = 1 then some .closing else if c = 2 then some .closed
  else if c = 3 then some .opening else if c = 4 then some .stuckClosed else if c = 5 then some .discrepant
  else if c = 6 then some .withdrawn else none

def LiveState.code : LiveState → BitVec 2
  | .live => 0 | .dead => 1 | .indeterminate => 2 | .unknown => 3

def liveOfCode (c : BitVec 2) : LiveState :=
  if c = 0 then .live else if c = 1 then .dead else if c = 2 then .indeterminate else .unknown

/-- INACTIVE, then the role's states in the order of the sequencer table. -/
def CsqState.code : CsqState → Byte
  | .inactive => 0
  | .incNormal => 1 | .sourceLost => 2 | .returning => 3 | .retransfer => 4 | .overlap => 5 | .blocked => 6
  | .stopped => 1 | .starting => 2 | .ready => 3 | .claiming => 4 | .synchronizing => 5 | .online => 6
  | .unloading => 7 | .cooldown => 8 | .startFailed => 9
  | .openNormal => 1 | .closingAuto => 2 | .closedAuto => 3 | .closedManual => 4
  | .feederNormal => 1 | .shed => 2 | .restoring => 3 | .openManual => 4 | .tripped => 5

/-- The sequence states of a role, in the order of the sequencer table. -/
def roleStates : Role → List CsqState
  | .incomer => [.incNormal, .sourceLost, .returning, .retransfer, .overlap, .blocked]
  | .generator =>
    [.stopped, .starting, .ready, .claiming, .synchronizing, .online, .unloading, .cooldown, .startFailed]
  | .tie => [.openNormal, .closingAuto, .closedAuto, .closedManual]
  | .feeder => [.feederNormal, .shed, .restoring, .openManual, .tripped]

def csqOfCode (role : Role) (c : Byte) : Option CsqState :=
  (CsqState.inactive :: roleStates role)[c.toNat]?

def CircuitResult.code : CircuitResult → BitVec 3
  | .unknown => 0 | .ok => 1 | .openCircuit => 2 | .short => 3 | .highResistance => 4 | .driverFault => 5

def circuitOfCode (c : BitVec 3) : Option CircuitResult :=
  if c = 0 then some .unknown else if c = 1 then some .ok else if c = 2 then some .openCircuit
  else if c = 3 then some .short else if c = 4 then some .highResistance else if c = 5 then some .driverFault
  else none

def RunOutcome.code : RunOutcome → BitVec 3
  | .ok => 0 | .openCircuit => 1 | .short => 2 | .highResistance => 3 | .driverFault => 4 | .aborted => 5
  | .notApplicable => 6

def outcomeOfCode (c : BitVec 3) : Option RunOutcome :=
  if c = 0 then some .ok else if c = 1 then some .openCircuit else if c = 2 then some .short
  else if c = 3 then some .highResistance else if c = 4 then some .driverFault else if c = 5 then some .aborted
  else if c = 6 then some .notApplicable else none

def RunCircuit.code : RunCircuit → BitVec 2
  | .noCircuit => 0 | .trip => 1 | .close => 2

def runCircuitOfCode (c : BitVec 2) : Option RunCircuit :=
  if c = 0 then some .noCircuit else if c = 1 then some .trip else if c = 2 then some .close else none

def CauseKind.code : CauseKind → Byte
  | .pickup => 0 | .trip => 1 | .input => 2 | .peer => 3 | .request => 4

def Result.code : Result → Byte
  | .taken => 0 | .refusedState => 1 | .refusedRemote => 2 | .refusedInterlock => 3 | .refusedLockout => 4
  | .busy => 5 | .badCheck => 6 | .badArgument => 7 | .notApplicable => 8

def resultOfCode (c : Byte) : Option Result :=
  if c = 0 then some .taken else if c = 1 then some .refusedState else if c = 2 then some .refusedRemote
  else if c = 3 then some .refusedInterlock else if c = 4 then some .refusedLockout else if c = 5 then some .busy
  else if c = 6 then some .badCheck else if c = 7 then some .badArgument
  else if c = 8 then some .notApplicable else none

def EchoDetail.code : EchoDetail → Byte
  | .noRecord => 1 | .notWritten => 2

/-- DESIGN CHOICE (unsafe; notes/assumptions/59): a detail that is present with code 0, None, is held as an absent one. -/
def detailOfCode (c : Byte) : Option EchoDetail :=
  if c = 1 then some .noRecord else if c = 2 then some .notWritten else none

/-- The three monitor states, coded from 0; code 3 is beyond the list. -/
def Monitor.code : Monitor → BitVec 2
  | .healthy => 0 | .suspect => 1 | .failed => 2

def monitorOfCode (c : BitVec 2) : Option Monitor :=
  if c = 0 then some .healthy else if c = 1 then some .suspect else if c = 2 then some .failed else none

/-- The role detail byte (R208). -/
def RoleDetail.code : RoleDetail → Byte
  | .incomer monitor inhibit transferTest closedMode =>
    0#3 ++ bit1 closedMode ++ bit1 transferTest ++ bit1 inhibit ++ (monitor.getD .healthy).code
  | .generator => 0
  | .tie fed => sectionByte fed
  | .feeder overload => 0#7 ++ bit1 overload

/-- The role detail that a role's byte carries; the bits that the role's layout does not assign are disregarded. -/
def roleDetailOfCode (role : Role) (c : Byte) : RoleDetail :=
  match role with
  | .incomer => .incomer (monitorOfCode (c.extractLsb' 0 2)) (c.getLsbD 2) (c.getLsbD 3) (c.getLsbD 4)
  | .generator => .generator
  | .tie => .tie (sectionsOfByte c)
  | .feeder => .feeder (c.getLsbD 0)

/-- The claim field's two bits, and the section set that goes with it. -/
def claimCode : ClaimField → BitVec 2
  | .none => 0 | .claiming _ => 1 | .won _ => 2 | .withdrawn => 0

def claimSections : ClaimField → SectionSet
  | .claiming x => x
  | .won x => x
  | _ => SectionSet.empty

def claimOfCode (c : BitVec 2) (x : SectionSet) : Option ClaimField :=
  if c = 0 then some .none else if c = 1 then some (.claiming x) else if c = 2 then some (.won x) else none

/-- How many request kinds the codes table lists. -/
def requestKinds : Nat := 14

/-! ### The report payload (R208, R209) -/

/-- A 16-bit signed field, 0 when absent. -/
def opt16 : Option Int → BitVec 16
  | none => 0
  | some v => BitVec.ofInt 16 v

/-- A 32-bit field, 0 when absent. -/
def opt32 : Option Int → BitVec 32
  | none => 0
  | some v => BitVec.ofInt 32 v

/-- The presence mask (R209). -/
def presenceMask (b : ReportBody) : BitVec 16 :=
  0#4 ++ bit1 b.echoDetail.isSome ++ bit1 b.echo.isSome ++ bit1 b.newestSeq.isSome ++ bit1 b.lastRun.isSome ++
    bit1 b.slip.isSome ++ bit1 b.theta.isSome ++ bit1 b.feeder.isSome ++ bit1 b.ratedKw.isSome ++
    bit1 b.load.isSome ++ bit1 b.fBus.isSome ++ bit1 b.fLine.isSome ++ bit1 b.lastTrip.isSome

/-- The bytes of the link counters (R208). -/
def counterBytes (c : Counters) : List Byte :=
  be16 c.txErrors ++ be16 c.rxCrc ++ be16 c.rxFormat ++ be16 c.overruns ++ be16 c.dropped

/-- The bytes 0 to 2: codes and flags. -/
def headBytes (service : StationState) (b : ReportBody) : List Byte :=
  [b.role.code ++ sectionBits b.sections ++ 0#1 ++ serviceCode service,
   bit1 b.clamped ++ bit1 b.lockout ++ bit1 b.bf ++ bit1 b.failedToClose ++ bit1 b.stuckAlarm ++
     bit1 b.closeCircuitFault ++ bit1 b.driveReduced ++ bit1 b.eventsLost,
   0#1 ++ (b.breaker.getD .opened).code ++ b.line.code ++ b.bus.code]

/-- The bytes 5 to 25: last trip cause, measured quantities, ratings, sequence and claim. -/
def middleBytes (b : ReportBody) : List Byte :=
  [(b.lastTrip.getD (0, 0)).1, (b.lastTrip.getD (0, 0)).2] ++ be32 (opt32 b.fLine) ++ be32 (opt32 b.fBus) ++
    be16 (opt16 b.load) ++ be16 (BitVec.ofNat 16 (b.ratedKw.getD 0)) ++
    [BitVec.ofNat 8 (b.feeder.getD (0, 0)).1] ++ be16 (BitVec.ofNat 16 (b.feeder.getD (0, 0)).2) ++
    [(b.csq.getD .inactive).code, b.roleDetail.code,
     0#5 ++ bit1 b.syncFailed ++ bit1 b.blocked ++ bit1 b.startFailed,
     0#2 ++ claimCode (b.claim.getD .none) ++ 0#2 ++ sectionBits (claimSections (b.claim.getD .none))]

/-- The bytes 26 to 47: angle and slip, element sets, coil circuits, recorder summary and echo. -/
def tailBytes (b : ReportBody) : List Byte :=
  be16 (opt16 b.theta) ++ be16 (opt16 b.slip) ++ be16 (0#6 ++ b.pickedUp) ++
    be16 (bit1 b.held ++ 0#5 ++ b.operated) ++
    [0#1 ++ (b.tripCircuit.getD .unknown).code ++ 0#1 ++ (b.closeCircuit.getD .unknown).code,
     0#1 ++ ((b.lastRun.bind fun r => r.circuit).getD .noCircuit).code ++ 0#2 ++
       ((b.lastRun.bind fun r => r.outcome).getD .ok).code] ++
    be32 ((b.lastRun.map fun r => r.time).getD 0) ++
    [bit1 b.full ++ 0#3 ++ BitVec.ofNat 4 b.recordsHeld] ++ be16 (b.newestSeq.getD 0) ++
    [(b.echo.map fun e => e.origin).getD 0, (b.echo.bind fun e => e.kind).getD 0,
     ((b.echo.bind fun e => e.result).map fun r => r.code).getD 0, b.echoCount,
     (b.echoDetail.map fun d => d.code).getD 0]

/-- The 58 bytes of a report (R208). In SETTINGS_FAULT every field but the service state is absent (R105). -/
def encodeReport (r : Report) : List Byte :=
  match r.body with
  | none => (0#5 ++ serviceCode r.service) :: List.replicate 57 0
  | some b =>
    headBytes r.service b ++ be16 (presenceMask b) ++ middleBytes b ++ tailBytes b ++ counterBytes b.counters

/-- A field listed at bit `k` of the presence mask. -/
def whenPresent {α : Type} (mask : BitVec 16) (k : Nat) (x : α) : Option α := if mask.getLsbD k then some x else none

/-- The fields of a received report, given its role and its presence mask. -/
def decodeBody (at' : Nat → Byte) (role : Role) (mask : BitVec 16) : ReportBody :=
  { role := role
    sections := sectionsOfBits ((at' 0).extractLsb' 4 2)
    clamped := (at' 1).getLsbD 7
    lockout := (at' 1).getLsbD 6
    bf := (at' 1).getLsbD 5
    failedToClose := (at' 1).getLsbD 4
    stuckAlarm := (at' 1).getLsbD 3
    closeCircuitFault := (at' 1).getLsbD 2
    driveReduced := (at' 1).getLsbD 1
    eventsLost := (at' 1).getLsbD 0
    breaker := breakerOfCode ((at' 2).extractLsb' 4 3)
    line := liveOfCode ((at' 2).extractLsb' 2 2)
    bus := liveOfCode ((at' 2).extractLsb' 0 2)
    lastTrip := whenPresent mask 0 (at' 5, at' 6)
    fLine := whenPresent mask 1 (read32 at' 7).toNat
    fBus := whenPresent mask 2 (read32 at' 11).toNat
    load := whenPresent mask 3 (read16 at' 15).toInt
    ratedKw := whenPresent mask 4 (read16 at' 17).toNat
    feeder := whenPresent mask 5 ((at' 19).toNat, (read16 at' 20).toNat)
    csq := csqOfCode role (at' 22)
    roleDetail := roleDetailOfCode role (at' 23)
    startFailed := (at' 24).getLsbD 0
    blocked := (at' 24).getLsbD 1
    syncFailed := (at' 24).getLsbD 2
    claim := claimOfCode ((at' 25).extractLsb' 4 2) (sectionsOfBits ((at' 25).extractLsb' 0 2))
    theta := whenPresent mask 6 (read16 at' 26).toInt
    slip := whenPresent mask 7 (read16 at' 28).toInt
    pickedUp := (read16 at' 30).extractLsb' 0 10
    operated := (read16 at' 32).extractLsb' 0 10
    held := (at' 32).getLsbD 7
    tripCircuit := circuitOfCode ((at' 34).extractLsb' 4 3)
    closeCircuit := circuitOfCode ((at' 34).extractLsb' 0 3)
    lastRun := whenPresent mask 8
      { circuit := runCircuitOfCode ((at' 35).extractLsb' 5 2), outcome := outcomeOfCode ((at' 35).extractLsb' 0 3),
        time := read32 at' 36 }
    recordsHeld := ((at' 40).extractLsb' 0 4).toNat
    full := (at' 40).getLsbD 7
    newestSeq := whenPresent mask 9 (read16 at' 41)
    echo := whenPresent mask 10
      { origin := at' 43, kind := if (at' 44).toNat < requestKinds then some (at' 44) else none,
        result := resultOfCode (at' 45) }
    echoCount := at' 46
    echoDetail := (whenPresent mask 11 ()).bind fun _ => detailOfCode (at' 47)
    counters :=
      { txErrors := read16 at' 48, rxCrc := read16 at' 50, rxFormat := read16 at' 52, overruns := read16 at' 54,
        dropped := read16 at' 56 } }

/-- The report in a payload (R206, R209). A report in SETTINGS_FAULT holds the service state alone. -/
def decodeReport (payload : List Byte) : Report :=
  let at' : Nat → Byte := fun i => payload.getD i 0
  let service := serviceOfCode ((at' 0).extractLsb' 0 3)
  if service = .settingsFault then { service := service, body := none }
  else { service := service, body := some (decodeBody at' (roleOfCode ((at' 0).extractLsb' 6 2)) (read16 at' 3)) }

/-! ### Frames (R84, R87, R207) -/

/-- The header byte: the class in bits 7..5, the station number in bits 4..0. -/
def headerByte (cls : BitVec 3) (number : StationNo) : Byte := cls ++ BitVec.ofFin (w := 5) number

/-- A frame: header, identity where the class has one, kind, length, payload and the CRC-16 over all of them. -/
def frameBytes (cls : BitVec 3) (number : StationNo) (identity : List Byte) (kind : Byte) (payload : List Byte) :
    List Byte :=
  let covered := headerByte cls number :: (identity ++ [kind, BitVec.ofNat 8 payload.length] ++ payload)
  covered ++ be16 (crc16 covered)

/-- The payload lengths a kind of a class admits, or none when the kind byte names no kind of the class (R88, R207). -/
def kindLengths (cls : BitVec 3) (kind : Byte) : Option (List Nat) :=
  if cls = 0 then if kind = 0 then some [2] else if kind = 1 then some [1] else none
  else if cls = 1 then if kind = 0 then some [1] else if kind = 1 then some [0] else none
  else if cls = 2 then if kind = 0 then some [4, 5, 6, 7, 8, 9, 10, 11, 12] else none
  else if cls = 3 then if kind = 0 then some [58] else none
  else if cls = 4 then if kind = 0 then some [6] else if kind = 1 then some [4] else none
  else if cls = 5 then if kind = 0 then some [103] else if kind = 1 then some [104] else none
  else if cls = 6 then if kind = 0 then some [0] else none
  else if kind = 0 then some [1] else none

/-- The counts that a discarded frame may raise (R88). -/
inductive DiscardCount where
  | crc | format
deriving DecidableEq, Repr

/-- R88: the count that the first fault of a frame raises, none for a good frame. The frame is given as the whole
bytes read of it before the line fell recessive or the receiver gave it up. -/
def discardFault (heard : List Byte) : Option DiscardCount :=
  match heard with
  | [] => some .format
  | header :: rest =>
    let cls : BitVec 3 := header.extractLsb' 5 3
    let identityBytes := if cls = 6 ∨ cls = 7 then 6 else 0
    let body := rest.drop identityBytes
    match body with
    | kind :: len :: _ =>
      let covered := 1 + identityBytes + 2 + len.toNat
      if len.toNat > 104 then some .format
      else if heard.length < covered + 2 then some .format
      else if crc16 (heard.take covered) ≠ read16 (fun i => heard.getD i 0) covered then some .crc
      else
        match kindLengths cls kind with
        | none => some .format
        | some lens => if lens.contains len.toNat then none else some .format
    | _ => some .format

end Sys2Proof.Machine
end

