-- ==== Sys2Proof/Machine/Ops.lean ====
section
/-! DEFINITION. The shared operations on the state: the local time and the timers, the deliveries between blocks,
what a block publishes after an event, and the slots and queues of the station link with the frame of each item. -/

namespace Sys2Proof.Machine

/-- The outcome type of a command. -/
abbrev Outcome := Host.Outcome State Fault Refusal

/-! ### Blocks of the state -/

def State.withSettings (s : State) (x : Option Settings) : State := { s with settings := x }
def State.withPins (s : State) (x : Pins) : State := { s with pins := x }
def State.withSiu (s : State) (x : Siu) : State := { s with siu := x }
def State.withCme (s : State) (x : Cme) : State := { s with cme := x }
def State.withPes (s : State) (x : Pes) : State := { s with pes := x }
def State.withBkc (s : State) (x : Bkc) : State := { s with bkc := x }
def State.withCds (s : State) (x : Cds) : State := { s with cds := x }
def State.withSli (s : State) (x : Sli) : State := { s with sli := x }
def State.withPtb (s : State) (x : Ptb) : State := { s with ptb := x }
def State.withSyn (s : State) (x : Syn) : State := { s with syn := x }
def State.withLsc (s : State) (x : Lsc) : State := { s with lsc := x }
def State.withCsq (s : State) (x : Csq) : State := { s with csq := x }
def State.withDrc (s : State) (x : Drc) : State := { s with drc := x }
def State.withSsc (s : State) (x : Ssc) : State := { s with ssc := x }
def State.withTime (s : State) (x : Time) : State := { s with localTime := x }
def State.withDue (s : State) (x : List Delivery) : State := { s with due := x }
def State.withFree (s : State) (x : Nat) : State := { s with freeCount := x }
def State.withPending (s : State) (x : List Instr) : State := { s with pending := x }

/-! ### Time (notes/assumptions/5) -/

/-- A timer started now for `ms` milliseconds. -/
def State.after (s : State) (ms : Nat) : Timer := some (s.localTime + BitVec.ofNat 32 ms)

/-- The milliseconds from `t` to the present local time, modulo 2^32. -/
def State.since (s : State) (t : Time) : Nat := (s.localTime - t).toNat

/-- The local time reaches `due`, unless it stands past it already. -/
def State.reach (s : State) (due : Time) : State :=
  if (due - s.localTime).toNat < 2147483648 then s.withTime due else s

/-- The expiry of a timer: without a running timer there is no such event; otherwise the local time reaches the
expiry and the owner acts. -/
def expire (t : Timer) (s : State) (act : State → State) : State :=
  match t with
  | none => s
  | some due => act (s.reach due)

/-- What a block does while settings are in force; before that it is not at work. -/
def State.inForce (s : State) (act : Settings → State → State) : State :=
  match s.settings with
  | none => s
  | some st => act st s

/-! ### Deliveries (notes/assumptions/3) -/

/-- A claim, trigger, outcome or change with its contents: each is delivered on its own. -/
def State.send (s : State) (d : Delivery) : State := s.withDue (s.due ++ [d])

/-- A publication without contents: its reader reads what was published last, so one waiting delivery is enough. -/
def State.notify (s : State) (d : Delivery) : State := if s.due.contains d then s else s.send d

/-- The reader takes a delivery. -/
def State.take (s : State) (d : Delivery) : State := s.withDue (s.due.erase d)

/-- Several publications. -/
def State.notifyAll (s : State) (ds : List Delivery) : State := ds.foldl State.notify s

/-- Several deliveries with contents. -/
def State.sendAll (s : State) (ds : List Delivery) : State := s.withDue (s.due ++ ds)

/-! ### Publications after an event -/

/-- The role in force, INCOMER before the end of START (no reader is at work then). -/
def State.role (s : State) : Role := (s.settings.map fun st => st.station.role).getD .incomer

/-- What the CSQ publishes: state, role detail and the latched sequence alarms, with the mirror of the SYN's alarm
(R157, R176). -/
def State.sequence (s : State) : OwnSequence :=
  { state := s.csq.state, detail := s.csq.detail s.role, startFailed := s.csq.startFailed, blocked := s.csq.blocked,
    syncFailed := s.syn.failedAlarm }

/-- What the BKC publishes to the PTB (R102). -/
def State.breakerReport (s : State) : OwnBreaker :=
  { state := s.bkc.state, lockout := s.bkc.lockout, bf := s.bkc.bfFlag, lastTrip := s.bkc.lastTrip,
    failedToClose := s.bkc.failedToClose, stuckAlarm := s.bkc.stuckAlarm,
    closeCircuitFault := s.bkc.closeCircuitFault }

/-- The fields of the table of R44: the timers that it does not name are left out, and the discrepancy timer is IDLE or
RUNNING. -/
def Bkc.recordFields (b : Bkc) : Bkc :=
  { b with
    recheckTimer := none, closePulse := none, closingTimer := none, tripPulse := none, stuckTimer := none,
    lockoutPulse := none, discrepancyTimer := b.discrepancyTimer.map fun _ => 0 }

/-- A field of the breaker record changed: it is published to the PTB, CSQ, SYN, LSC and CDS (R44). -/
def publishBreaker (old s : State) : State :=
  if old.bkc.recordFields = s.bkc.recordFields ∧ old.cds.tripOut = s.cds.tripOut ∧ old.cds.closeOut = s.cds.closeOut then s
  else s.notifyAll [.ptb .bkc, .csqBreaker, .synBreaker, .lscBreaker, .cdsBreaker]

/-- The station state changed: every block takes the change as an event of its own (chapter Service States). -/
def publishStation (old s : State) : State :=
  if old.ssc.station = s.ssc.station then s
  else
    (s.sendAll ([.pesStation old.ssc.station s.ssc.station, .synStation old.ssc.station s.ssc.station,
        .lscStation old.ssc.station s.ssc.station, .cdsStation s.ssc.station] ++
      (if old.ssc.station = .auto then [.csqAutoExit] else []) ++
      (if s.ssc.station = .auto then [.csqAutoEntry] else []))).notify (.ptb .ssc)

/-- The CSQ's publication (R157). -/
def publishSequence (old s : State) : State :=
  if old.sequence = s.sequence then s else s.notify (.ptb .csq)

/-- The SYN's publication (R121). -/
def publishSyn (old s : State) : State :=
  if old.syn.state = s.syn.state ∧ old.syn.claimField = s.syn.claimField ∧
      old.syn.correction = s.syn.correction then s
  else s.notifyAll [.ptb .syn, .lscSyn, .csqSyn none]

/-- The LSC's publication (R141). -/
def publishLsc (old s : State) : State :=
  if old.lsc.mode = s.lsc.mode ∧ old.lsc.resume = s.lsc.resume ∧ old.lsc.reason = s.lsc.reason ∧
      old.lsc.openClaimed = s.lsc.openClaimed then s
  else s.notify .csqLsc

/-- After an event each block publishes what the event changed of what it publishes. -/
def publish (old s : State) : State :=
  publishLsc old (publishSyn old (publishSequence old (publishStation old (publishBreaker old s))))

/-! ### The ZERO conditions (R144) -/

/-- A ZERO condition of R144 holds. Before the settings are in force the station is in START or SETTINGS_FAULT. -/
def State.zeroHolds (s : State) : Bool :=
  s.settings.all (fun st => st.station.role != .generator) ||
    !(s.ssc.station == .auto || s.ssc.station == .addressConflict) ||
    (s.bkc.state.isOpenOrOut && s.syn.state != .synchronizing)

/-- The entry into ZERO (R144); the overlap deadline, the share interval timer and the duty of the output period now
running are left. -/
def Lsc.toZero (l : Lsc) : Lsc :=
  { l with
    mode := .zero, resume := none, bias := 0, ramp := none, te := none, reason := none, openClaimed := false,
    unloadTimer := none }

/-- The test of the ZERO conditions. -/
def testZero (s : State) : State := if s.zeroHolds then s.withLsc s.lsc.toZero else s

/-- A new group view is published to the SYN, LSC and CSQ (R119). -/
def State.publishView (s : State) : State := s.notifyAll [.synView, .lscView, .csqView]

/-! ### The next frame (R83, R84, R91) -/

/-- A slot or queue holds an item. -/
def Sli.holds (l : Sli) : Slot → Bool
  | .bf => l.bfSlot.isSome
  | .notice => l.noticeSlot.isSome
  | .claim => l.claimSlot.isSome
  | .report => l.reportSlot.isSome
  | .events => !l.events.isEmpty
  | .data => !l.data.isEmpty
  | .presence => l.presenceSlot.isSome

/-- The slots and queues in the order of the choice (R91). In conflict only CONFLICT frames are sent (R98). -/
def Sli.order (l : Sli) : List Slot :=
  if l.conflict.isSome then [.presence] else [.bf, .notice, .claim, .report, .events, .data, .presence]

/-- The slot or queue whose item is sent next (R91). -/
def Sli.choice (l : Sli) : Option Slot := l.order.find? l.holds

/-- The frame of an event (R207). -/
def eventFrame (own : StationNo) : EventItem → List Byte
  | .inputChange i level t =>
    frameBytes 4 own [] 0 ([BitVec.ofNat 8 (inputIdx i).val, 0#7 ++ bit1 level] ++ be32 t)
  | .captureTrigger seq kind detail => frameBytes 4 own [] 1 (be16 seq ++ [kind.code, detail])

/-- The frame of a claim item. -/
def claimItemFrame (own : StationNo) : ClaimItem → List Byte
  | .claim sections => frameBytes 1 own [] 0 [sectionByte sections]
  | .withdraw => frameBytes 1 own [] 1 []

/-- A PRESENCE or CONFLICT frame: a CONFLICT frame carries station field 0 (R84, R98). -/
def presenceFrame (own : StationNo) (identity : BitVec 48) : PresenceItem → List Byte
  | .presence => frameBytes 6 own (be48 identity) 0 []
  | .conflict n => frameBytes 7 0 (be48 identity) 0 [BitVec.ofNat 8 n.val]

/-- The frame of the item at the front of a slot or queue, with the own number as it stands. -/
def Sli.frame (l : Sli) (identity : BitVec 48) : Slot → List Byte
  | .bf => (l.bfSlot.map fun x => frameBytes 0 l.ownNumber [] 1 [sectionByte x]).getD []
  | .notice =>
    (l.noticeSlot.map fun c =>
      frameBytes 0 l.ownNumber [] 0 [BitVec.ofNat 8 (elementNumber c.element), c.detail]).getD []
  | .claim => (l.claimSlot.map (claimItemFrame l.ownNumber)).getD []
  | .report => (l.reportSlot.map fun r => frameBytes 3 l.ownNumber [] 0 (encodeReport r)).getD []
  | .events => (l.events.head?.map (eventFrame l.ownNumber)).getD []
  | .data => (l.data.head?.map fun d => frameBytes 5 l.ownNumber [] (0#7 ++ bit1 d.block) d.payload).getD []
  | .presence => (l.presenceSlot.map (presenceFrame l.ownNumber identity)).getD []

/-- The report waiting carries EVENTS_LOST. -/
def Sli.reportCarriesLost (l : Sli) : Bool := l.reportSlot.any fun r => r.body.any fun b => b.eventsLost

/-- The frame of the chosen item begins: the item is in flight (R91). -/
def Sli.begin (l : Sli) (identity : BitVec 48) (slot : Slot) : Sli :=
  { l with
    lineFree := false
    flight := some
      { slot := slot, replaced := false, carriesLost := slot == .report && l.reportCarriesLost,
        frame := l.frame identity slot } }

/-- The slot or queue whose item begins its frame now: after START, with the line free and nothing in flight (R83). -/
def State.nextSlot (s : State) : Option Slot :=
  if s.ssc.station ≠ .start ∧ s.sli.lineFree = true ∧ s.sli.flight = none then s.sli.choice else none

/-- A station that has something to send while the line is free begins its frame (R83). DESIGN CHOICE (unsafe;
notes/assumptions/49): no command tells of the first bit of another station's frame, so the frame begins at the end of
the command that placed the item or freed the line; `Sli.hear` takes it back where the line was busy by then. -/
def State.takeLine (s : State) : State :=
  match s.nextSlot with
  | some slot => s.withSli (s.sli.begin s.pins.identity slot)
  | none => s

/-! ### Slots and queues (R90, R91, R92, R98) -/

/-- The item of a slot is replaced or removed: an item of that slot in flight runs to its end, marked so. -/
def Sli.touch (l : Sli) (slot : Slot) : Sli :=
  match l.flight with
  | some f => if f.slot = slot then { l with flight := some { f with replaced := true } } else l
  | none => l

/-- Whether the item that now waits in a slot is the one in flight. -/
def Sli.inFlight (l : Sli) (slot : Slot) : Bool := l.flight.any fun f => f.slot == slot && !f.replaced

/-- While the SLI is in conflict an item is discarded at its placing (R98). -/
def Sli.whenOnAir (l : Sli) (place : Sli → Sli) : Sli := if l.conflict.isSome then l else place l

/-- A BF_TRANSFER notice is placed in the BF slot. -/
def Sli.placeBf (l : Sli) (x : SectionSet) : Sli :=
  l.whenOnAir fun l => { l.touch .bf with bfSlot := some x }

/-- A TRIP notice is placed in the notice slot (R39). -/
def Sli.placeNotice (l : Sli) (x : TripCause) : Sli :=
  l.whenOnAir fun l => { l.touch .notice with noticeSlot := some x }

/-- A CLAIM or CLAIM_WITHDRAW is placed in the claim slot. -/
def Sli.placeClaim (l : Sli) (x : ClaimItem) : Sli :=
  l.whenOnAir fun l => { l.touch .claim with claimSlot := some x }

/-- The SYN empties the claim slot. -/
def Sli.emptyClaim (l : Sli) : Sli := { l.touch .claim with claimSlot := none }

/-- One more report overrun, if there was one (R100). -/
def Counters.overrun (k : Counters) (counts : Bool) : Counters :=
  { k with overruns := if counts then stopAt65535 k.overruns else k.overruns }

/-- A REPORT is placed: a replaced report that was not in flight counts an overrun (R91, R100). -/
def Sli.placeReport (l : Sli) (x : Report) : Sli :=
  l.whenOnAir fun l =>
    { l.touch .report with
      reportSlot := some x
      counters := l.counters.overrun (l.reportSlot.isSome && !l.inFlight .report) }

/-- An event is dropped: the count rises and EVENTS_LOST is set (R92, R98). -/
def Sli.dropEvent (l : Sli) : Sli :=
  { l with eventsLost := true, counters := { l.counters with dropped := stopAt65535 l.counters.dropped } }

/-- An event is placed in the event queue, dropped when the queue holds 8, and discarded and counted in conflict. -/
def Sli.placeEvent (l : Sli) (x : EventItem) : Sli :=
  if l.conflict.isSome ∨ 8 ≤ l.events.length then l.dropEvent else { l with events := l.events ++ [x] }

/-- Whether the data queue has room (R92). -/
def Sli.dataRoom (l : Sli) : Bool := decide (l.data.length < 2)

/-- A DATA frame is placed in the data queue. -/
def Sli.placeData (l : Sli) (x : DataItem) : Sli := l.whenOnAir fun l => { l with data := l.data ++ [x] }

/-! ### The end of a command -/

/-- What ends every command. The ZERO conditions take effect at the event that makes them true, whichever block's event
that is (R144), and an item placed while the line is free begins its frame (R83). -/
def settle (s : State) : State := (testZero s).takeLine

/-- The outcome of a command that takes the station from `old` to `s`. -/
def done (old s : State) : Outcome := .next (publish old (settle s))

/-! ### Local time on a queue that is empty (notes/assumptions/5) -/

/-- One millisecond passes. -/
def State.tick (s : State) : State := s.withTime (s.localTime + 1)

end Sys2Proof.Machine
end

