-- ==== Sys2Proof/Machine/View.lean ====
section
/-! DEFINITION. The group view: the joined flag, the group sections, the member lists and the derived sets, computed
from the peer entries and the own report record (R115 to R118). The view last published is the one computed from the
table as it stands, because the PTB publishes at each of its events that changes what the view is computed from. -/

namespace Sys2Proof.Machine

/-- A member of a section: its number and its entry. -/
structure Member where
  number : StationNo
  entry : Entry
deriving DecidableEq, Repr

/-- The fields of an entry's report contents, when it holds a role. -/
def Entry.body (e : Entry) : Option ReportBody := e.report.bind fun r => r.body

/-- FRESH or STALE. -/
def Entry.present (e : Entry) : Bool := e.state == .fresh || e.state == .stale

/-- The breaker state an entry's report contents show. -/
def Entry.breaker (e : Entry) : Option BreakerState := e.body.bind fun b => b.breaker

/-- An absent breaker state counts as open (R115). -/
def countsClosed? (b : Option BreakerState) : Bool := b.any BreakerState.countsClosed

/-- The sections a report shows: both for a TIE (R117). -/
def ReportBody.shownSections (b : ReportBody) : SectionSet := if b.role = .tie then SectionSet.both else b.sections

/-- The entry of a station. -/
def State.entry (s : State) (n : StationNo) : Entry := s.ptb.entries[n]

/-- The other stations: the numbers 1 to 31 but for the own one. -/
def State.others (s : State) : List StationNo := (List.finRange 32).filter fun n => n != 0 && n != s.sli.ownNumber

/-- The other stations whose entry is FRESH or STALE. -/
def State.present (s : State) : List Member :=
  (s.others.map fun n => { number := n, entry := s.entry n : Member }).filter fun m => m.entry.present

/-- The own section set, empty before settings are in force. -/
def State.ownSections (s : State) : SectionSet :=
  (s.settings.map fun st => st.station.sections).getD SectionSet.empty

/-- R116: the sections are joined by the own closed tie, or by the closed tie that a FRESH or STALE entry shows. -/
def State.joined (s : State) : Bool :=
  (s.settings.any (fun st => st.station.role == .tie) &&
      s.ptb.ownBreaker.any fun b => b.state.countsClosed) ||
    s.present.any fun m => m.entry.body.any (fun b => b.role == .tie) && countsClosed? m.entry.breaker

/-- R116: the own section set, and the other section when the sections are joined. -/
def State.groupSections (s : State) : SectionSet :=
  if s.settings.isSome && s.joined then SectionSet.both else s.ownSections

/-- R117: the members of the sections of a set, each listed once. -/
def State.members (s : State) (x : SectionSet) : List Member :=
  s.present.filter fun m => m.entry.body.any fun b => b.shownSections.overlaps x

/-- Whether a member's report shows a role. -/
def Member.hasRole (m : Member) (r : Role) : Bool := m.entry.body.any fun b => b.role == r

/-- The CSQ state a member's report shows. -/
def Member.csq (m : Member) : Option CsqState := m.entry.body.bind fun b => b.csq

/-- Whether a member's breaker counts as closed. -/
def Member.closed (m : Member) : Bool := countsClosed? m.entry.breaker

/-- The load p of a member's report. -/
def Member.load (m : Member) : Option Int := m.entry.body.bind fun b => b.load

/-- The rated kW of a member's report. -/
def Member.ratedKw (m : Member) : Option Nat := m.entry.body.bind fun b => b.ratedKw

/-- The priority of a feeder member's report. -/
def Member.priority (m : Member) : Option Nat := (m.entry.body.bind fun b => b.feeder).map fun f => f.1

/-- FRESH. -/
def Member.fresh (m : Member) : Bool := m.entry.state == .fresh

/-! ### The derived sets (R118) -/

def State.closedSources (s : State) (x : SectionSet) : List Member :=
  (s.members x).filter fun m => (m.hasRole .incomer || m.hasRole .generator) && m.closed

def State.onlineGenerators (s : State) (x : SectionSet) : List Member :=
  (s.members x).filter fun m => m.hasRole .generator && m.csq == some .online

def State.incomers (s : State) (x : SectionSet) : List Member :=
  (s.members x).filter fun m => m.hasRole .incomer

def State.closedNormalIncomers (s : State) (x : SectionSet) : List Member :=
  (s.incomers x).filter fun m => m.closed && m.csq == some .incNormal

/-- Insertion of a feeder by rising priority number, then rising station number. -/
def insertFeeder (m : Member) : List Member → List Member
  | [] => [m]
  | k :: ks =>
    if m.priority.getD 0 < k.priority.getD 0 ∨ (m.priority.getD 0 = k.priority.getD 0 ∧ m.number < k.number) then
      m :: k :: ks
    else k :: insertFeeder m ks

/-- Feeders by priority. DESIGN CHOICE (unsafe; notes/assumptions/43): a FEEDER member whose report lacks its priority
has no place in the order and is left out of the set. -/
def State.feedersByPriority (s : State) (x : SectionSet) : List Member :=
  ((s.members x).filter fun m => m.hasRole .feeder && m.priority.isSome).foldr insertFeeder []

/-- Whether a claim field announces a claim on a section of a set. -/
def ClaimField.activeOn (c : ClaimField) (x : SectionSet) : Bool :=
  match c with
  | .claiming y => y.overlaps x
  | .won y => y.overlaps x
  | _ => false

def State.claimsActive (s : State) (x : SectionSet) : List Member :=
  (s.members x).filter fun m => m.entry.claim.activeOn x

/-- Whether a station is a member of the group (R117, R183). -/
def State.inGroup (s : State) (n : StationNo) : Bool := (s.members s.groupSections).any fun m => m.number == n

/-- Whether the group view shows an INCOMER member whose breaker counts as closed. -/
def State.incomerClosed (s : State) : Bool := (s.incomers s.groupSections).any fun m => m.closed

/-- Whether the group view shows a GENERATOR member whose breaker counts as closed. -/
def State.generatorClosed (s : State) : Bool :=
  (s.closedSources s.groupSections).any fun m => m.hasRole .generator

/-- The retransfer mode CLOSED that an INCOMER's report shows (R208). -/
def Member.retransferClosed (m : Member) : Bool := m.entry.body.any fun b => b.roleDetail.modeClosed

/-- The weighted load of a list of generators with load and rating, truncating toward zero (R148, R175). A set whose
ratings sum to 0 has no stated load (notes/assumptions/9). -/
def weightedLoad (xs : List (Int × Nat)) : Int :=
  let num := (xs.map fun x => x.1 * (x.2 : Int)).sum
  let den := (xs.map fun x => x.2).sum
  if den = 0 then Config.loadOverNoRating num else Int.tdiv num (den : Int)

/-- The FRESH members of the ONLINE generators set whose report holds p, with their rated kW (R148, R173, R175). DESIGN
CHOICE (unsafe; notes/assumptions/54): a member whose report holds p but lacks its rated kW is left out. -/
def State.freshLoads (s : State) : List (Int × Nat) :=
  ((s.onlineGenerators s.groupSections).filter fun m => m.fresh).filterMap fun m =>
    match m.load, m.ratedKw with
    | some p, some kw => some (p, kw)
    | _, _ => none

end Sys2Proof.Machine
end

