-- ==== Sys2Proof/Machine/LoadShare.lean ====
section
/-! DEFINITION. The Load Share Controller: the governor bias and its output (R143 to R146), the share target and the
bias integrator (R147 to R151), unloading (R152, R153), the overlap deadline (R154) and ADDRESS_CONFLICT (R155). -/

namespace Sys2Proof.Machine

/-- An event of the LSC: the ZERO conditions are tested first (R144). -/
def lscEvent (act : Settings → State → State) (s : State) : State := (testZero s).inForce act

/-! ### Open claims and ramps -/

/-- An open claim of the LSC, with purpose UNLOAD. -/
def unloadClaim (s : State) : State := s.send (.openClaim .unload)

/-- The claim that ends an unload (R153): the open-claimed flag is set and the unload timer stops; with the flag set
already no further claim follows. -/
def endUnload (s : State) : State :=
  if s.lsc.openClaimed then s.withLsc { s.lsc with unloadTimer := none }
  else (s.withLsc { s.lsc with openClaimed := true, unloadTimer := none }).send (.openClaim .unload)

/-- The start of an unload ramp (R152): the p of the latest record, else the last Te. With neither, the value is not
stated (notes/assumptions/8). -/
def State.unloadRamp (s : State) : Int :=
  match s.goodLoad, s.lsc.te with
  | some p, _ => p
  | none, some te => te
  | none, none => clampInt (-1000) 2000 (Config.rampWithoutTarget s.freeCount)

/-- Whether that start is a free value. -/
def State.rampIsFree (s : State) : Bool := s.goodLoad.isNone && s.lsc.te.isNone

/-- The unload timer's start (R152), also for an unload that a deadline begins in ADDRESS_CONFLICT (R154): R155 stops the
timer at the passage alone. -/
def State.unloadDue (s : State) (st : Settings) : Timer := s.after (1000 * st.lsc.unloadTimeoutS)

/-- An unload starts in the mode it is to be done in, at once or after HOLD (R152, R154). -/
def startUnload (st : Settings) (reason : UnloadReason) (s : State) : State :=
  let l := { s.lsc with ramp := some s.unloadRamp, reason := some reason, unloadTimer := s.unloadDue st }
  let l' := if s.lsc.mode = .hold then { l with resume := some .unload } else { l with mode := .unload }
  (s.withLsc l').withFree (if s.rampIsFree then s.freeCount + 1 else s.freeCount)

/-- Some open claim of the LSC may open the breaker: it is neither OPEN nor WITHDRAWN. -/
def State.breakerIn (s : State) : Bool := !s.bkc.state.isOpenOrOut

/-- An unload order (R152). DESIGN CHOICE (unsafe; notes/assumptions/62): with the breaker OPEN or WITHDRAWN it is
disregarded in SYNC_CORRECT as in ZERO. -/
def unloadOrder (reason : UnloadReason) (s : State) : State :=
  lscEvent (fun st s =>
    if s.lsc.carrying then startUnload st reason s
    else if s.lsc.unloading then s
    else if s.breakerIn then unloadClaim s
    else s) s

/-! ### Coming online (R147) -/

/-- The CSQ tells the LSC that its generator has entered ONLINE. -/
def onlineNotice (s : State) : State :=
  lscEvent (fun _ s =>
    if !s.zeroHolds && s.ssc.station == .auto && (s.lsc.mode == .zero || s.lsc.mode == .syncCorrect) then
      s.withLsc { s.lsc with mode := .softLoad, ramp := some (s.goodLoad.getD 0) }
    else s) s

/-! ### Synchronizing correction (R146) -/

/-- A bias moved by a step of at most 20 either way, within -500..500 (R146, R151). -/
def moveBias (bias step : Int) : Int := clampInt (-500) 500 (bias + clampInt (-20) 20 step)

/-- The slip correction on a record (R146). -/
def correctSlip (l : Lsc) (st : LscSettings) (slip : Int) : Lsc :=
  { l with bias := moveBias l.bias (Int.tdiv ((st.slipTarget - slip) * st.ks) 256) }

/-- LSC_SLIP_CORRECTION (R146). -/
def execLscSlipCorrection (s : State) : Outcome :=
  done s <| lscEvent (fun st s =>
    match s.goodRecord.bind Record.slip with
    | none => s
    | some slip =>
      if s.lsc.mode = .syncCorrect ∧ s.syn.correction = true then s.withLsc (correctSlip s.lsc st.lsc slip) else s)
    (s.take .lscRecord)

/-- LSC_SYN_PUBLICATION (R144, R146). -/
def execLscSynPublication (s : State) : Outcome :=
  done s <| lscEvent (fun _ s =>
    if s.syn.correction && s.lsc.mode == .zero && !s.zeroHolds then
      s.withLsc { s.lsc with mode := .syncCorrect, bias := 0 }
    else s) (s.take .lscSyn)

/-! ### The share target and the errors -/

/-- The target T over the share set: the station itself and the FRESH online generators of its group (R148). -/
def State.shareTarget (s : State) (st : Settings) (p : Int) : Int :=
  weightedLoad ((p, st.station.ratedKw) :: s.freshLoads)

/-- A member's report holds a slip that asks for the common retransfer correction (R150). -/
def Member.retransferSlip (m : Member) : Option Int :=
  if m.fresh && m.csq == some .retransfer && m.retransferClosed then m.entry.body.bind fun b => b.slip else none

/-- The slip reported by the lowest-numbered qualifying incomer of the group (R150). -/
def State.retransferSlip (s : State) : Option Int :=
  ((s.incomers s.groupSections).filterMap Member.retransferSlip).head?

/-- The frequency error e_f (R149, R150). -/
def State.frequencyError (s : State) (st : Settings) : Int :=
  if s.incomerClosed then 0
  else
    match s.retransferSlip with
    | some slip => st.lsc.retransferSlipTarget - -slip
    | none =>
      match s.cme.record.bind fun r => r.fLine with
      | some f => (st.station.fnom : Int) * 1000 - f
      | none => 0

/-! ### The bias integrator (R151) -/

/-- Step 1: the ramp moves one step. -/
def movedRamp (st : LscSettings) (l : Lsc) : Option Int :=
  match l.mode with
  | .softLoad => some (clampInt (-1000) 2000 (l.ramp.getD 0 + st.softStep))
  | .unload =>
    let step : Nat := if l.reason = some .overlap then st.overlapStep else st.unloadStep
    some (clampInt (-1000) 2000 (max 0 (l.ramp.getD 0 - step)))
  | _ => l.ramp

/-- Step 3: the effective target. -/
def effectiveTarget (mode : LscMode) (target : Int) (ramp : Option Int) : Int :=
  match mode with
  | .softLoad => min target (ramp.getD 0)
  | .unload => ramp.getD 0
  | _ => target

/-- Step 5: the step of the integrator before its clamp. -/
def integratorStep (st : LscSettings) (ep ef : Int) : Int := Int.tdiv (ep * st.kp + ef * st.kf) 1024

/-- Steps 1 to 6 with the load p, the target T and the frequency error. -/
def Lsc.integrate (l : Lsc) (st : LscSettings) (p target ef : Int) : Lsc :=
  let ramp := movedRamp st l
  let te := effectiveTarget l.mode target ramp
  let soft := l.mode == .softLoad && decide (target ≤ ramp.getD 0)
  { l with
    mode := if soft then .share else l.mode
    ramp := if soft then none else ramp
    te := some te
    bias := moveBias l.bias (integratorStep st (te - p) ef) }

/-- Step 7: the unload ending test. -/
def unloadTest (st : LscSettings) (p : Int) (s : State) : State :=
  if s.lsc.mode = .unload ∧ p ≤ (st.openThreshold : Int) then endUnload s else s

/-- A share interval in SOFT_LOAD, SHARE or UNLOAD with the load p at hand (R151). -/
def shareStep (st : Settings) (p : Int) (s : State) : State :=
  if s.lsc.mode = .unload ∧ s.lsc.openClaimed = true then s
  else
    unloadTest st.lsc p
      (s.withLsc (s.lsc.integrate st.lsc p (s.shareTarget st p) (s.frequencyError st)))

/-- Into HOLD from the mode it is to resume (R151, R155). -/
def Lsc.toHold (l : Lsc) : Lsc := { l with mode := .hold, resume := some l.mode }

/-- Back from HOLD to the resume mode (R151, R155). -/
def Lsc.fromHold (l : Lsc) : Lsc := { l with mode := l.resume.getD .share, resume := none }

/-- What a share interval does (R151); none acts in ADDRESS_CONFLICT (R155). -/
def shareInterval (st : Settings) (s : State) : State :=
  if s.ssc.station = .addressConflict then s
  else
    match s.lsc.mode with
    | .zero | .syncCorrect => s
    | .softLoad | .share | .unload =>
      match s.goodLoad with
      | none => s.withLsc s.lsc.toHold
      | some p => shareStep st p s
    | .hold =>
      match s.goodLoad with
      | none => s
      | some p => shareStep st p (s.withLsc s.lsc.fromHold)

/-- SHARE_INTERVAL_EXPIRY (R151): the timer runs on continuously in intervals of 20 ms (R141). -/
def execShareIntervalExpiry (s : State) : Outcome :=
  done s <| expire s.lsc.shareTimer s fun s =>
    lscEvent shareInterval (s.withLsc { s.lsc with shareTimer := s.lsc.shareTimer.map fun t => t + 20 })

/-! ### Unload timer and overlap deadline -/

/-- UNLOAD_TIMER_EXPIRY (R153). -/
def execUnloadTimerExpiry (s : State) : Outcome :=
  done s <| expire s.lsc.unloadTimer s fun s =>
    lscEvent (fun _ s => if s.lsc.unloading then endUnload s else s)
      (s.withLsc { s.lsc with unloadTimer := none })

/-- The expiry of the overlap deadline (R154). -/
def overlapExpires (d : OverlapDeadline) (s : State) : State :=
  if !d.claimed && s.breakerIn then
    let s' := s.withLsc { s.lsc with overlap := some { d with running := false, claimed := true } }
    if s'.lsc.unloading then endUnload s' else unloadClaim s'
  else s.withLsc { s.lsc with overlap := some { d with running := false } }

/-- OVERLAP_DEADLINE_EXPIRY (R154). -/
def execOverlapDeadlineExpiry (s : State) : Outcome :=
  done s <|
    match s.lsc.overlap with
    | none => s
    | some d =>
      expire (if d.running then some d.due else none) s fun s => lscEvent (fun _ s => overlapExpires d s) s

/-- The breaker-closed times of the group's INCOMER members in breaker state CLOSED. -/
def State.closedIncomerTimes (s : State) : List Time :=
  ((s.incomers s.groupSections).filter fun m => m.entry.breaker == some .closed).filterMap fun m =>
    m.entry.closedTime

/-- The earliest of a list of times: the one that lies longest before the present local time. -/
def State.earliest (s : State) : List Time → Option Time
  | [] => none
  | t :: rest =>
    match s.earliest rest with
    | none => some t
    | some u => some (if s.since t < s.since u then u else t)

/-- Whether the station can have an overlap deadline: AUTO or ADDRESS_CONFLICT, its breaker neither OPEN nor
WITHDRAWN (R154). -/
def State.overlapPossible (s : State) : Bool :=
  (s.ssc.station == .auto || s.ssc.station == .addressConflict) && s.breakerIn

/-- What the setting of a deadline does to the mode (R154). -/
def turnToOverlap (st : Settings) (s : State) : State :=
  if s.lsc.carrying then startUnload st .overlap s
  else if s.lsc.unloading then s.withLsc { s.lsc with reason := some .overlap }
  else s

/-- A deadline is set from a breaker-closed time; with no time left it expires at that event (R154). -/
def setDeadline (st : Settings) (closed : Time) (s : State) : State :=
  let d : OverlapDeadline :=
    { due := closed + BitVec.ofNat 32 st.lsc.overlapLimitMs, running := true, claimed := false }
  let s' := turnToOverlap st (s.withLsc { s.lsc with overlap := some d })
  if st.lsc.overlapLimitMs ≤ s.since closed then overlapExpires d s' else s'

/-- The overlap test (R154). -/
def overlapTest (st : Settings) (s : State) : State :=
  if st.station.role ≠ .generator then s
  else if !s.overlapPossible then s.withLsc { s.lsc with overlap := none }
  else if s.lsc.overlap.isSome then s
  else
    match s.earliest s.closedIncomerTimes with
    | some closed => setDeadline st closed s
    | none => s

/-- LSC_VIEW_EVENT (R154). -/
def execLscViewEvent (s : State) : Outcome := done s (lscEvent overlapTest (s.take .lscView))

/-- LSC_BREAKER_RECORD (R144, R154). -/
def execLscBreakerRecord (s : State) : Outcome := done s (lscEvent overlapTest (s.take .lscBreaker))

/-! ### ADDRESS_CONFLICT (R155) -/

/-- The passage into ADDRESS_CONFLICT: the modes that carry load are held, and the unload timer stops. -/
def Lsc.enterConflict (l : Lsc) : Lsc :=
  match l.mode with
  | .softLoad | .share | .unload => { l.toHold with unloadTimer := none }
  | _ => { l with unloadTimer := none }

/-- The return to AUTO: HOLD ends, and an unload's timer starts again for its full length, whether the unload was still
held or a share interval after the return has resumed it already (DEDUCED, unsafe; notes/assumptions/16). -/
def leaveConflict (st : Settings) (s : State) : State :=
  let l := if s.lsc.mode = .hold then s.lsc.fromHold else s.lsc
  s.withLsc { l with unloadTimer := if l.mode = .unload then s.unloadDue st else l.unloadTimer }

/-- LSC_STATION_STATE_CHANGE (R144, R154, R155). -/
def execLscStationStateChange (fromState toState : StationState) (s : State) : Outcome :=
  done s <| lscEvent (fun st s =>
    overlapTest st
      (if toState = .addressConflict then s.withLsc s.lsc.enterConflict
       else if fromState = .addressConflict ∧ toState = .auto then leaveConflict st s
       else s)) (s.take (.lscStation fromState toState))

/-! ### The output -/

/-- GOV_BIAS_PERIOD_START: a period of the output begins with the duty 500 + bias (R145). -/
def execGovBiasPeriodStart (s : State) : Outcome := done s (s.withLsc { s.lsc with duty := 500 + s.lsc.bias })

end Sys2Proof.Machine
end

