-- ==== Sys2Proof/Machine/Synchronizer.lean ====
section
/-! DEFINITION. The Synchronizer and Dead-Bus Claim: close requests (R121 to R124), the dead count and the sync permit
(R125 to R128), voltage-regulator pulses (R130), the sync timeout (R131) and the dead-bus claim (R132 to R139). -/

namespace Sys2Proof.Machine

/-! ### Claims -/

/-- R132: the group sections for an INCOMER or GENERATOR, section B for a TIE. -/
def State.wantedSections (s : State) (st : StationSettings) : SectionSet :=
  if st.role = .tie then SectionSet.onlyB else s.groupSections

/-- The condition of R132 on a GENERATOR. -/
def State.generatorReady (s : State) (st : StationSettings) : Bool :=
  st.role != .generator || (s.input .genReady && s.cme.record.any fun r => r.nearNominal st.fnom)

/-- Eligibility for a claim (R132). DESIGN CHOICE (unsafe; notes/assumptions/52): the list of R132 decides alone, also after a
breaker that left CLOSING without a record of CLOSED or OPEN, where R128 keeps the SYN in SYNCHRONIZING. -/
def State.eligible (s : State) (st : StationSettings) : Bool :=
  s.syn.state == .synchronizing && s.syn.deadCount == 3 && s.cme.record.any (fun r => r.line == .live) &&
    s.syn.refusalTimer.isNone && !s.syn.closeInFlight &&
    (s.closedSources (s.wantedSections st)).isEmpty && (s.claimsActive (s.wantedSections st)).isEmpty &&
    s.generatorReady st

/-- Both AVR outputs are de-energized (R130). -/
def Syn.avrOff (y : Syn) : Syn := { y with avrRaise := false, avrLower := false, avrPulse := none }

/-- The making of a claim (R133). -/
def makeClaim (sections : SectionSet) (s : State) : State :=
  (s.withSli (s.sli.placeClaim (.claim sections))).withSyn
    { s.syn.avrOff with state := .claiming, claim := some { sections := sections, phase := .pending } }

/-- Eligibility is judged, and an eligible SYN makes its claim at the same event (R132, R133). -/
def judgeEligible (s : State) : State :=
  s.inForce fun st s =>
    if s.eligible st.station then makeClaim (s.wantedSections st.station) s else s

/-- Whether the CLAIM still waits in its slot: not begun on the line, or waiting again after a lost arbitration. -/
def Sli.claimWaits (l : Sli) : Bool :=
  match l.claimSlot with
  | some (.claim _) => !l.inFlight .claim
  | _ => false

/-- The claim slot after the SYN gives up its claim: emptied, or given a CLAIM_WITHDRAW (R135). -/
def Sli.giveUpClaim (l : Sli) : Sli := if l.claimWaits then l.emptyClaim else l.placeClaim .withdraw

/-- The claim record becomes none and the hold timer stops. -/
def Syn.dropClaim (y : Syn) : Syn := { y with claim := none, holdTimer := none }

/-- The SYN gives up its claim, when it has one (R135). -/
def giveUpClaim (s : State) : State :=
  if s.syn.claim.isSome then (s.withSli s.sli.giveUpClaim).withSyn s.syn.dropClaim else s

/-- Back to SYNCHRONIZING from CLAIMING or YIELDED, with the consecutive-permit count 0 (R136, R139). -/
def Syn.resume (y : Syn) : Syn :=
  { y with state := .synchronizing, permitCount := 0, winner := none, yieldTimer := none }

/-- The withdrawal of R136: eligibility is judged at the same event. -/
def withdrawClaim (s : State) : State :=
  let s' := giveUpClaim s
  judgeEligible (s'.withSyn s'.syn.resume)

/-- The end of YIELDED with eligibility judged at that event (R139). -/
def leaveYielded (s : State) : State := judgeEligible (s.withSyn s.syn.resume)

/-- The stations below a bound that the claims-active set of the claim sections lists with a claim on a section of a
set (R134). -/
def State.lowerClaims (s : State) (wanted x : SectionSet) (bound : StationNo) : List StationNo :=
  (((s.claimsActive wanted).filter fun m => m.entry.claim.activeOn x).map fun m => m.number).filter
    fun n => decide (n < bound)

/-- The lowest number of a list. -/
def lowest : List StationNo → Option StationNo
  | [] => none
  | n :: rest =>
    match lowest rest with
    | none => some n
    | some m => some (if n < m then n else m)

/-- A yield to the lowest of the claiming stations that the SYN has learned of (R134). -/
def yieldTo (claimants : List StationNo) (s : State) : State :=
  let s' := giveUpClaim s
  s'.withSyn { s'.syn.avrOff with state := .yielded, winner := lowest claimants, yieldTimer := s'.after 2000 }

/-! ### Requests -/

/-- What ends with a request: its timers, the count, the AVR outputs and the request itself (R124). -/
def Syn.endRequest (y : Syn) (failed : Bool) : Syn :=
  { y.avrOff with
    state := if failed then .syncFailed else .idle
    request := none, permitCount := 0, winner := none, syncTimer := none, retryTimer := none, holdTimer := none,
    yieldTimer := none, refusalTimer := none, closeTaken := false, failedAlarm := y.failedAlarm || failed }

/-- The claim at the end of a request: a WON claim whose breaker shows CLOSED becomes none without a frame (R138),
any other is given up as R135 states. -/
def endClaim (outcome : SynOutcome) (s : State) : State :=
  match s.syn.claim with
  | none => s
  | some c => if outcome = .closed ∧ c.phase = .won then s.withSyn s.syn.dropClaim else giveUpClaim s

/-- A held request ends (R124). -/
def endRequest (outcome : SynOutcome) (s : State) : State :=
  let s' := endClaim outcome s
  s'.withSyn (s'.syn.endRequest (outcome == .syncFailed))

/-- A held request ends, and its outcome is told to the CSQ. -/
def endTold (outcome : SynOutcome) (s : State) : State :=
  if s.syn.request.isSome then (endRequest outcome s).send (.csqSyn (some outcome)) else s

/-- The BKC takes an open claim, or a trip claim other than in CLOSING, or the station state changes (R124). -/
def synCancel (s : State) : State := endTold .cancelled s

/-- A close of the held request was taken by the BKC, or one is in flight: the breaker record OPEN ends the request as
CLOSE_FAILED (R124). -/
def Syn.closeAwaited (y : Syn) : Bool := y.closeTaken || y.closeInFlight

/-- A trip during CLOSING of a close that the held request waits for: the request stands until the breaker record shows
OPEN, and the lockout that this trip sets does not end it (R124, R138). -/
def Syn.tripped (y : Syn) : Syn := { y with closeTaken := true, lockoutSeen := true }

/-- The BKC takes a trip claim, in CLOSING or not. DEDUCED (unsafe; notes/assumptions/61): R124 gives CANCELLED for a trip
taken, and R124 and R138 give CLOSE_FAILED, at the record that shows OPEN, for a trip during CLOSING; the latter rule is
the more special one, and of a close that the request waits for it alone decides. -/
def synTrip (closing : Bool) (s : State) : State :=
  if closing && s.syn.closeAwaited && s.syn.request.isSome then s.withSyn s.syn.tripped else synCancel s

/-- The SYN holds a SEQUENCE request. -/
def State.sequenceHeld (s : State) : Bool := s.syn.request.any fun r => r.requester == .sequence

/-- The CSQ withdraws a SEQUENCE request (R124). -/
def synWithdraw (s : State) : State := if s.sequenceHeld then endTold .cancelled s else s

/-- The correction mode of a request taken now (R123). -/
def State.correctionMode (s : State) (st : StationSettings) : CorrectionMode :=
  if st.role = .generator ∧ s.ssc.station = .auto then .auto else .checkOnly

/-- A request taken from IDLE (R123). -/
def takeRequest (requester : Requester) (st : Settings) (s : State) : State :=
  judgeEligible (s.withSyn { s.syn with
    state := .synchronizing, request := some { requester := requester, mode := s.correctionMode st.station },
    attempt := 1, permitCount := 0, syncTimer := s.after 60000, closeTaken := false })

/-- The answer to an operator request (R123). -/
def State.operatorAnswer (s : State) : Result :=
  if s.syn.state = .syncFailed then .refusedState else if s.syn.request.isSome then .busy else .taken

/-- A close request of the CSQ (R123). DESIGN CHOICE (unsafe; notes/assumptions/68): one that finds the SYN IDLE in the
retry wait, with an OPERATOR request held, is no taking from IDLE: the held request continues with its attempt and its
retry timer, and becomes the CSQ's. -/
def sequenceRequest (s : State) : State :=
  s.inForce fun st s =>
    if s.syn.state = .syncFailed then s
    else
      match s.syn.request with
      | none => takeRequest .sequence st s
      | some r => s.withSyn { s.syn with request := some { r with requester := .sequence } }

/-! ### The permit and the voltage regulator -/

/-- Line and bus both LIVE. -/
def Record.bothLive (r : Record) : Bool := r.line == .live && r.bus == .live

/-- ΔVs = (RMS0 - RMS3) × 1000 / RMS3 (R130); its magnitude is the ΔV of R126. -/
def Record.voltageDifference (r : Record) : Int :=
  let bus : Int := (r.rms[3].getD 0 : Nat)
  Int.tdiv (((r.rms[0].getD 0 : Nat) - bus) * 1000) bus

/-- adv = slip × Tc × 36 / 1000 (R127). -/
def advance (slip : Int) (tc : Nat) : Int := Int.tdiv (slip * tc * 36) 1000

/-- θp (R127). -/
def predicted (theta slip : Int) (tc : Nat) : Int := reduceAngle (theta + advance slip tc)

/-- The sync permit on a record (R126). -/
def permit (st : Settings) (r : Record) : Bool :=
  match r.theta, r.slip with
  | some th, some slip =>
    r.bothLive && decide (r.voltageDifference.natAbs ≤ st.syn.voltageWindow) &&
      decide (slip.natAbs ≤ st.syn.slipWindow) &&
      (st.station.role != .generator || !st.syn.positiveSlipOnly || decide (0 < slip)) &&
      decide ((predicted th slip st.syn.tcMs).natAbs ≤ st.syn.angleWindow) &&
      decide ((predicted th slip st.syn.tcMs).natAbs ≤ th.natAbs)
  | _, _ => false

/-- The evaluation of R128: at a count of 2 a SYNC claim is made. DESIGN CHOICE (unsafe; notes/assumptions/52): a close of
the held request that the BKC has taken ends the evaluations until CLOSED or OPEN (R128) even where the close is no
longer in flight, as after a breaker racked out or a trip during CLOSING (R126 would have them made again). -/
def evaluatePermit (st : Settings) (r : Record) (s : State) : State :=
  if s.syn.closeInFlight || s.syn.closeTaken then s
  else if !permit st r || s.syn.refusalTimer.isSome then s.withSyn { s.syn with permitCount := 0 }
  else if s.syn.permitCount + 1 = 2 then
    (s.withSyn { s.syn with permitCount := 0 }).send (.closeClaim .sync)
  else s.withSyn { s.syn with permitCount := s.syn.permitCount + 1 }

/-- The voltage-regulator check (R130). -/
def avrCheck (st : Settings) (r : Record) (s : State) : State :=
  let dv := r.voltageDifference
  if s.syn.correction && r.bothLive && decide (st.syn.voltageWindow / 2 < dv.natAbs) &&
      s.syn.avrPulse.isNone && s.syn.avrSpacing.isNone then
    s.withSyn { s.syn with
      avrRaise := decide (dv < 0), avrLower := decide (0 < dv),
      avrPulse := s.after (min 500 (dv.natAbs * 10)), avrSpacing := s.after 1000 }
  else s

/-- A claim that may still be withdrawn: PENDING or HOLDING. -/
def Syn.openClaim (y : Syn) : Option Claim := y.claim.filter fun c => c.phase != .won

/-! ### Cycle completions -/

/-- The dead count after a record (R125). -/
def deadAfter (count : Nat) (r : Record) : Nat :=
  if r.warmup then 0 else if r.bus = .dead then min 3 (count + 1) else 0

/-- The checks of CLAIMING at a cycle completion (R136). -/
def claimingCycle (s : State) : State :=
  if s.syn.openClaim.isSome && decide (s.syn.deadCount < 3) then withdrawClaim s else s

/-- SYN_CYCLE_COMPLETION (R125). At a WARMUP record an open claim is withdrawn (R136) and nothing else is done. -/
def execSynCycleCompletion (s : State) : Outcome :=
  done s <| (s.take .synRecord).inForce fun st s =>
    match s.cme.record with
    | none => s
    | some r =>
      let s := s.withSyn { s.syn with
        deadCount := deadAfter s.syn.deadCount r, permitCount := if r.warmup then 0 else s.syn.permitCount }
      match s.syn.state with
      | .synchronizing => if r.warmup then s else judgeEligible (avrCheck st r (evaluatePermit st r s))
      | .claiming => claimingCycle s
      | .yielded => if !r.warmup && r.bus == .live then s.withSyn s.syn.resume else s
      | .idle | .syncFailed => s

/-! ### Views, frames and breaker records -/

/-- The winner's entry shows WITHDRAWN, or NONE with a breaker state other than CLOSED (R139). -/
def State.winnerGone (s : State) : Bool :=
  s.syn.winner.any fun w =>
    (s.entry w).claim == .withdrawn || ((s.entry w).claim == .none && (s.entry w).breaker != some .closed)

/-- A lower claim than the winner's becomes the winner (R139). -/
def lowerWinner (claimants : List StationNo) (s : State) : State :=
  match lowest claimants with
  | none => s
  | some n => if s.syn.winner.all fun w => decide (n < w) then s.withSyn { s.syn with winner := some n } else s

/-- A view with an open claim: the yield of R134 first, else the withdrawals of R136. -/
def claimingView (st : Settings) (c : Claim) (s : State) : State :=
  let lower := s.lowerClaims (s.wantedSections st.station) c.sections s.sli.ownNumber
  if !lower.isEmpty then yieldTo lower s
  else if !(s.closedSources (s.wantedSections st.station)).isEmpty || s.wantedSections st.station != c.sections then
    withdrawClaim s
  else s

/-- A view in YIELDED (R139). DESIGN CHOICE (unsafe; notes/assumptions/53): of a view that shows both a lower overlapping
claim and the winner gone, the lower claim is taken first, and the station waits on for its new winner. -/
def yieldedView (st : Settings) (s : State) : State :=
  let wanted := s.wantedSections st.station
  let s := lowerWinner (s.lowerClaims wanted wanted (s.syn.winner.getD 0)) s
  if s.winnerGone then leaveYielded s else s

/-- SYN_VIEW_EVENT (R132, R134, R136, R139). -/
def execSynViewEvent (s : State) : Outcome :=
  done s <| (s.take .synView).inForce fun st s =>
    match s.syn.state with
    | .synchronizing => judgeEligible s
    | .claiming =>
      match s.syn.openClaim with
      | some c => claimingView st c s
      | none => s
    | .yielded => yieldedView st s
    | .idle | .syncFailed => s

/-- A CLAIM frame that the SLI passes to the SYN (R134, R139). DESIGN CHOICE (unsafe; notes/assumptions/44): in YIELDED,
where the claim record is none, the overlap is measured against the claim sections as they stand. -/
def synClaimFrame (sender : StationNo) (sections : SectionSet) (s : State) : State :=
  s.inForce fun st s =>
    match s.syn.state with
    | .claiming =>
      match s.syn.openClaim with
      | some c =>
        if sender < s.sli.ownNumber ∧ sections.overlaps c.sections = true then
          yieldTo (sender :: s.lowerClaims (s.wantedSections st.station) c.sections s.sli.ownNumber) s
        else s
      | none => s
    | .yielded => if sections.overlaps (s.wantedSections st.station) then lowerWinner [sender] s else s
    | _ => s

/-- A CLAIM_WITHDRAW frame that the SLI passes to the SYN (R139). DESIGN CHOICE (unsafe; notes/assumptions/67): it is
given the state in which the PTB has taken the frame, so that eligibility is judged with the sender's entry WITHDRAWN. -/
def synWithdrawFrame (sender : StationNo) (s : State) : State :=
  if s.syn.state = .yielded ∧ s.syn.winner = some sender then leaveYielded s else s

/-- The CLAIM has left its slot: a PENDING claim becomes HOLDING and the hold starts (R133). -/
def claimLeft (s : State) : State :=
  match s.syn.claim with
  | some c =>
    if c.phase = .pending then
      s.withSyn { s.syn with claim := some { c with phase := .holding }, holdTimer := s.after 60 }
    else s
  | none => s

/-- The outcome that a breaker record gives a held request (R124, R128, R138). A close in flight may be one that an
earlier request left with the BKC (notes/assumptions/17). DESIGN CHOICE (unsafe; notes/assumptions/65): one record, taken
late, can show CLOSED, or OPEN after a close, and with it a lockout newly set; R124 gives no order within one record, and
CLOSED or CLOSE_FAILED is given before CANCELLED. -/
def recordOutcome (s : State) : Option SynOutcome :=
  if s.bkc.state = .closed then some .closed
  else if s.bkc.state = .opened ∧ s.syn.closeAwaited = true then some .closeFailed
  else if s.bkc.lockout && !s.syn.lockoutSeen then some .cancelled
  else none

/-- SYN_BREAKER_RECORD (R124, R128, R138). -/
def execSynBreakerRecord (s : State) : Outcome :=
  done s <|
    let s1 := s.take .synBreaker
    let s2 :=
      match recordOutcome s1 with
      | some o => endTold o s1
      | none => s1
    s2.withSyn { s2.syn with
      closeInFlight := s2.syn.closeInFlight && s2.bkc.state == .closing, lockoutSeen := s2.bkc.lockout }

/-- SYN_STATION_STATE_CHANGE (R124). -/
def execSynStationStateChange (fromState toState : StationState) (s : State) : Outcome :=
  done s (synCancel (s.take (.synStation fromState toState)))

/-! ### Timers -/

/-- SYNC_TIMER_EXPIRY (R131). -/
def execSyncTimerExpiry (s : State) : Outcome :=
  done s <| expire s.syn.syncTimer s fun s =>
    if s.syn.attempt = 2 then endTold .syncFailed s
    else
      let s' := giveUpClaim s
      s'.withSyn { s'.syn.avrOff with
        state := .idle, permitCount := 0, winner := none, syncTimer := none, yieldTimer := none,
        retryTimer := s'.after 10000 }

/-- SYN_RETRY_EXPIRY (R131). -/
def execSynRetryExpiry (s : State) : Outcome :=
  done s <| expire s.syn.retryTimer s fun s =>
    judgeEligible (s.withSyn { s.syn with
      state := .synchronizing, attempt := 2, retryTimer := none, syncTimer := s.after 60000 })

/-- HOLD_TIMER_EXPIRY (R137). -/
def execHoldTimerExpiry (s : State) : Outcome :=
  done s <| expire s.syn.holdTimer s fun s =>
    match s.syn.claim with
    | none => s.withSyn { s.syn with holdTimer := none }
    | some c =>
      if s.syn.deadCount = 3 then
        (s.withSyn { s.syn with claim := some { c with phase := .won }, holdTimer := none }).send (.closeClaim .deadBus)
      else withdrawClaim s

/-- YIELD_TIMER_EXPIRY (R139). -/
def execYieldTimerExpiry (s : State) : Outcome := done s (expire s.syn.yieldTimer s leaveYielded)

/-- REFUSAL_WAIT_EXPIRY (R128, R132). -/
def execRefusalWaitExpiry (s : State) : Outcome :=
  done s <| expire s.syn.refusalTimer s fun s => judgeEligible (s.withSyn { s.syn with refusalTimer := none })

/-- AVR_PULSE_END (R130). -/
def execAvrPulseEnd (s : State) : Outcome := done s (expire s.syn.avrPulse s fun s => s.withSyn s.syn.avrOff)

/-- AVR_SPACING_EXPIRY (R130). -/
def execAvrSpacingExpiry (s : State) : Outcome :=
  done s (expire s.syn.avrSpacing s fun s => s.withSyn { s.syn with avrSpacing := none })

/-! ### Answers of the BKC to the SYN's close claims -/

/-- The BKC takes a SYNC claim (R128, R130, R131). DESIGN CHOICE (unsafe; notes/assumptions/69): a claim whose request has
ended is answered too; without a request the close is in flight all the same, and a request held since counts it as its
own. -/
def Syn.syncTaken (y : Syn) : Syn :=
  { y.avrOff with closeInFlight := true, closeTaken := y.request.isSome, syncTimer := none }

/-- The refusal wait of a SYNC claim (R128): the count stays at 0 while it runs, so that a permit counted between the
claim and its refusal does not outlast it. -/
def Syn.syncRefused (y : Syn) (due : Timer) : Syn := { y with permitCount := 0, refusalTimer := due }

/-- The BKC refuses a SYNC claim (R128). DESIGN CHOICE (unsafe; notes/assumptions/69): where the claim's request has ended,
no wait starts without a request, and a request held since has its own wait started. -/
def syncRefused (s : State) : State :=
  if s.syn.request.isSome then s.withSyn (s.syn.syncRefused (s.after 1000)) else s

/-- The BKC takes a DEAD_BUS claim (R137). DESIGN CHOICE (unsafe; notes/assumptions/69): the answer is that of the claim
which the record shows WON, and nothing without one. -/
def Syn.deadTaken (y : Syn) : Syn :=
  if y.claim.any fun c => c.phase == .won then { y with closeTaken := true, syncTimer := none } else y

/-- The BKC refuses a DEAD_BUS claim (R138), with the choice of `Syn.deadTaken` (notes/assumptions/69). -/
def deadRefused (s : State) : State :=
  if s.syn.claim.any fun c => c.phase == .won then
    let s' := giveUpClaim s
    s'.withSyn { s'.syn.resume with refusalTimer := s'.after 1000 }
  else s

/-- A RESET_ALARM clears the SYNC_FAILED alarm, and a SYN in SYNC_FAILED becomes IDLE (R131). -/
def Syn.resetAlarm (y : Syn) : Syn :=
  { y with failedAlarm := false, state := if y.state = .syncFailed then .idle else y.state }

end Sys2Proof.Machine
end

