-- ==== Sys2Proof/Machine/Changeover.lean ====
section
/-! DEFINITION. The Changeover Sequencer: its entry into and exit from AUTO (R158, R159), the source monitor (R160), and
the sequences of the incomer (R162 to R165), the generator (R167 to R169), the tie (R170, R171) and the feeder (R172 to
R175). -/

namespace Sys2Proof.Machine

/-! ### Shared parts -/

/-- The sequence runs (R158). -/
def State.sequencing (s : State) : Bool := s.ssc.station == .auto && s.csq.state != .inactive

/-- The sequence state becomes another. -/
def State.toCsq (s : State) (x : CsqState) : State := s.withCsq { s.csq with state := x }

/-- RUN_REQUEST is energized or de-energized. -/
def State.run (s : State) (b : Bool) : State := s.withSsc { s.ssc with runRequest := b }

/-- An open claim of the CSQ, with purpose SEQUENCE, that it has not yet seen to open the breaker; made of a breaker that
is OPEN or WITHDRAWN it has nothing to open. -/
def sequenceOpen (s : State) : State :=
  (s.withCsq { s.csq with ownOpen := !s.bkc.state.isOpenOrOut }).send (.openClaim .sequence)

/-- A SEQUENCE close request is handed to the SYN; one that finds it in SYNC_FAILED is not taken (R123). -/
def handRequest (s : State) : State :=
  if s.syn.state = .syncFailed then s
  else
    let s' := sequenceRequest s
    s'.withCsq { s'.csq with holding := true }

/-- The CSQ withdraws the request that it holds, and is still to be told of that request's end (R124). -/
def withdrawRequest (s : State) : State :=
  let s' := synWithdraw s
  s'.withCsq { s'.csq with
    holding := false, withdrawn := if s.sequenceHeld then s.csq.withdrawn + 1 else s.csq.withdrawn }

/-- Lockout and FAILED_TO_CLOSE are clear. -/
def State.closeFree (s : State) : Bool := !s.bkc.lockout && !s.bkc.failedToClose

/-! ### Source monitor (R160) -/

/-- Every SOURCE element in service is DROPPED. -/
def State.sourcesDropped (s : State) (st : Settings) : Bool :=
  st.sourceElements.all fun e => (s.pes.el e).state == .dropped

/-- An evaluation is held: the record was WARMUP, or every SOURCE element in service stood held. -/
def State.monitorHeld (s : State) (st : Settings) : Bool :=
  s.cme.record.any (fun r => r.warmup) || st.sourceElements.all fun e => (s.pes.el e).held

/-- What remains of a timer. -/
def State.remaining (s : State) (due : Time) : Nat :=
  if (due - s.localTime).toNat < 2147483648 then (due - s.localTime).toNat else 0

/-- A held evaluation suspends the failure-confirm timer. -/
def suspendConfirm (s : State) : State :=
  match s.csq.confirmTimer with
  | none => s
  | some due => s.withCsq { s.csq with confirmTimer := none, confirmLeft := some (s.remaining due) }

/-- An evaluation that is not held and finds some SOURCE element picked up. -/
def suspectSource (st : Settings) (s : State) : State :=
  match s.csq.monitor with
  | .healthy =>
    s.withCsq { s.csq with
      monitor := .suspect, confirmTimer := s.after st.csq.failureConfirmMs, confirmLeft := none }
  | .suspect =>
    match s.csq.confirmLeft with
    | some left => s.withCsq { s.csq with confirmTimer := s.after left, confirmLeft := none }
    | none => s
  | .failed => s

/-- The monitor with its timer stopped. -/
def State.setMonitor (s : State) (m : Monitor) : State :=
  s.withCsq { s.csq with monitor := m, confirmTimer := none, confirmLeft := none }

/-- One evaluation of the source monitor (R160). -/
def evaluateMonitor (st : Settings) (s : State) : State :=
  if st.station.role ≠ .incomer || !s.ssc.station.protects then s
  else if s.csq.transferTest then s.setMonitor .failed
  else if s.monitorHeld st then suspendConfirm s
  else if s.sourcesDropped st then s.setMonitor .healthy
  else suspectSource st s

/-! ### Incomer -/

/-- RETURNING with the retransfer delay started when the monitor is HEALTHY, SOURCE_LOST otherwise (R159, R162). -/
def returnOrLost (st : Settings) (s : State) : State :=
  if s.csq.monitor = .healthy then
    s.withCsq { s.csq with
      state := .returning, retransferDelay := s.after (1000 * st.csq.retransferDelayS), delayRunOut := false,
      overlapBackup := none, mode := none }
  else
    s.withCsq { s.csq with
      state := .sourceLost, retransferDelay := none, delayRunOut := false, overlapBackup := none, mode := none }

/-- OVERLAP when the group holds a GENERATOR member whose breaker counts as closed, NORMAL otherwise (R162, R164,
R165). -/
def overlapOrNormal (st : Settings) (s : State) : State :=
  let c := { s.csq with retransferDelay := none, delayRunOut := false, mode := none }
  if s.generatorClosed then
    s.withCsq { c with state := .overlap, overlapBackup := s.after (st.lsc.overlapLimitMs + 60) }
  else s.withCsq { c with state := .incNormal, overlapBackup := none }

/-- BLOCKED is latched (R164, R165). -/
def toBlocked (s : State) : State :=
  s.withCsq { s.csq with state := .blocked, blocked := true, mode := none, overlapBackup := none }

/-- The retransfer mode chosen at the entry (R163). -/
def State.chooseMode (s : State) (st : Settings) : RetransferMode :=
  if st.csq.retransferClosed && !(s.closedSources s.groupSections).any (fun m => m.hasRole .incomer) &&
      (s.closedSources s.groupSections).any (fun m => m.hasRole .generator) then .closedMode
  else .openMode

/-- The entry into RETRANSFER (R163). -/
def enterRetransfer (st : Settings) (s : State) : State :=
  let mode := s.chooseMode st
  let s' := s.withCsq { s.csq with
    state := .retransfer, mode := some mode, retransferDelay := none, delayRunOut := false }
  if mode = .closedMode then handRequest s' else s'

/-- What the monitor does to the sequence at each event: NORMAL and OVERLAP open at one that finds it FAILED (R162, R165),
and SOURCE_LOST ends with one that makes it HEALTHY, an evaluation (R162) or the END of a transfer test (R161). -/
def incomerMonitor (st : Settings) (s : State) : State :=
  match s.csq.state with
  | .incNormal | .overlap => if s.csq.monitor = .failed then returnOrLost st (sequenceOpen s) else s
  | .sourceLost => if s.csq.monitor = .healthy then returnOrLost st s else s
  | _ => s

/-- What a monitor evaluation that leaves the monitor anything but HEALTHY ends: RETURNING (R162), and RETRANSFER with the
request withdrawn (R164). No other event of the monitor ends these two (notes/assumptions/63). -/
def incomerEvaluated (st : Settings) (s : State) : State :=
  if st.station.role ≠ .incomer ∨ s.csq.monitor = .healthy then s
  else
    match s.csq.state with
    | .returning => returnOrLost st s
    | .retransfer => returnOrLost st (withdrawRequest s)
    | _ => s

/-- The delay has run out in RETURNING, and neither the inhibit nor lockout holds the incomer there (R162). -/
def State.runOutFree (s : State) : Bool :=
  s.csq.state == .returning && s.csq.delayRunOut && !s.csq.inhibit && !s.bkc.lockout

/-- RETURNING with its delay run out enters RETRANSFER once the inhibit is off and lockout is clear, while the monitor is
HEALTHY (R162). -/
def incomerRunOut (st : Settings) (s : State) : State :=
  if s.runOutFree = true ∧ s.csq.monitor = .healthy then enterRetransfer st s else s

/-- The expiry of the retransfer delay, which enters RETRANSFER if neither the inhibit nor lockout holds it (R162). -/
def incomerDelayEnds (st : Settings) (s : State) : State :=
  if st.station.role = .incomer ∧ s.runOutFree = true then enterRetransfer st s else s

/-- RETRANSFER in mode OPEN hands its request once the sections are not joined and no source is closed (R163). -/
def incomerHand (s : State) : State :=
  if s.csq.state = .retransfer ∧ s.csq.mode = some .openMode ∧ s.csq.holding = false ∧ s.joined = false ∧
      (s.closedSources s.groupSections).isEmpty = true then
    handRequest s
  else s

/-! ### Generator -/

/-- The start condition (R167). -/
def State.startCondition (s : State) : Bool :=
  !s.bkc.lockout && !s.csq.startFailed &&
    !(s.incomers s.groupSections).any fun m => m.closed || m.csq == some .retransfer || m.csq == some .overlap

/-- The readiness test (R167). DESIGN CHOICE (unsafe; notes/assumptions/70): it fails while the latest record is WARMUP. -/
def State.readiness (s : State) (st : Settings) : Bool :=
  s.input .genReady && s.goodRecord.any fun r => r.line == .live && r.nearNominal st.station.fnom

/-- COOLDOWN for the cooldown time (R167, R168, R169). -/
def toCooldown (st : Settings) (s : State) : State :=
  s.withCsq { s.csq with
    state := .cooldown, startTimer := none, startDelay := none, cooldown := s.after (1000 * st.csq.cooldownS) }

/-- READY when the readiness test holds, else STARTING with the start timer started; RUN_REQUEST is energized. -/
def toReadyOrStarting (st : Settings) (s : State) : State :=
  let c := { s.csq with startDelay := none, cooldown := none }
  if s.readiness st then (s.withCsq { c with state := .ready, startTimer := none }).run true
  else (s.withCsq { c with state := .starting, startTimer := s.after (1000 * st.csq.startTimeS) }).run true

/-- The entry into ONLINE, of which the LSC is told (R169). DESIGN CHOICE (unsafe; notes/assumptions/25): every entry into
ONLINE energizes RUN_REQUEST, as R169 says of one at a close; a derivation into ONLINE does so too. -/
def enterOnline (s : State) : State :=
  onlineNotice ((s.withCsq { s.csq with
    state := .online, startDelay := none, startTimer := none, cooldown := none }).run true)

/-- STARTING (R167). -/
def generatorStarting (st : Settings) (s : State) : State :=
  if s.csq.state ≠ .starting then s
  else if !s.startCondition then toCooldown st s
  else if s.readiness st then s.withCsq { s.csq with state := .ready, startTimer := none }
  else s

/-- READY and the two states shown in its place: the request is handed, or withdrawn with the start condition
(R168). -/
def generatorReady (st : Settings) (s : State) : State :=
  if !s.csq.state.inReady then s
  else if !s.startCondition then toCooldown st (withdrawRequest s)
  else if s.syn.state == .idle && !s.csq.holding && s.closeFree then handRequest s
  else s

/-- The start delay timer in STOPPED and COOLDOWN (R167). -/
def generatorDelay (st : Settings) (s : State) : State :=
  if s.csq.state = .stopped ∨ s.csq.state = .cooldown then
    if !s.startCondition then s.withCsq { s.csq with startDelay := none }
    else if s.csq.startDelay.isNone then s.withCsq { s.csq with startDelay := s.after (1000 * st.csq.startDelayS) }
    else s
  else s

/-- The state that READY shows (R168). -/
def readyShown (holding : Bool) (syn : SynState) : CsqState :=
  if !holding then .ready
  else
    match syn with
    | .claiming => .claiming
    | .synchronizing | .yielded => .synchronizing
    | .idle | .syncFailed => .ready

/-- The state that a generator shows from the SYN and the LSC (R168, R169). -/
def generatorShown (s : State) : State :=
  if s.csq.state.inReady then s.toCsq (readyShown s.csq.holding s.syn.state)
  else if s.csq.state = .online ∨ s.csq.state = .unloading then
    if s.lsc.unloading then s.toCsq .unloading else if s.lsc.carrying then s.toCsq .online else s
  else s

/-! ### Tie -/

/-- The tie conditions that must go on holding in CLOSING_AUTO: all but the first, and but for the SYN being IDLE,
which its own request ends (R170). -/
def State.tieKept (s : State) : Bool :=
  (s.incomers SectionSet.onlyB).any (fun m => m.fresh && m.csq == some .sourceLost) &&
    (s.onlineGenerators SectionSet.onlyB).isEmpty &&
    !(s.closedNormalIncomers { a := true, b := false }).isEmpty && s.closeFree && !s.syn.failedAlarm

/-- All tie conditions (R170). DESIGN CHOICE (unsafe; notes/assumptions/70): the first fails while the latest record is
WARMUP. -/
def State.tieConditions (s : State) : Bool :=
  s.goodRecord.any (fun r => r.bus == .dead && r.line == .live) && s.tieKept && s.syn.state == .idle

/-- OPEN_NORMAL with no fed section; a breaker that shows CLOSED takes it on to CLOSED_MANUAL (R170, R171). -/
def tieOpened (s : State) : State :=
  s.withCsq { s.csq with
    state := if s.bkc.state = .closed then .closedManual else .openNormal, fedB := false }

/-- The tests of a tie at each of its events (R170). -/
def tieTest (st : Settings) (s : State) : State :=
  match s.csq.state with
  | .openNormal =>
    if st.csq.tieAuto && s.tieConditions then
      handRequest (s.withCsq { s.csq with state := .closingAuto, fedB := true })
    else s
  | .closingAuto =>
    if !s.tieKept && s.bkc.state == .opened && s.syn.claim.all (fun c => c.phase != .won) then
      tieOpened (withdrawRequest s)
    else s
  | _ => s

/-! ### Feeder -/

/-- Another feeder comes before this station in importance (R173). -/
def State.moreImportant (s : State) (st : Settings) (m : Member) : Bool :=
  m.priority.any fun p =>
    decide (p < st.csq.priority) || (p == st.csq.priority && decide (m.number < s.sli.ownNumber))

/-- Another feeder comes after this station in importance. -/
def State.lessImportant (s : State) (st : Settings) (m : Member) : Bool :=
  m.priority.any fun p =>
    decide (st.csq.priority < p) || (p == st.csq.priority && decide (s.sli.ownNumber < m.number))

/-- The headroom of one generator (R173). -/
def headroom (x : Int × Nat) : Int := Int.tdiv ((x.2 : Int) * (1000 - min x.1 1000)) 1000

/-- The capacity test (R173). -/
def State.capacity (s : State) (st : Settings) : Bool :=
  decide ((st.csq.expectedKw : Int) ≤ (s.freshLoads.map headroom).sum - st.csq.reserveKw)

/-- The settle rule (R174). -/
def State.settled (s : State) (st : Settings) : Bool :=
  s.ptb.addMark.all (fun t => decide (st.csq.addSettleMs ≤ s.since t)) &&
    (s.onlineGenerators s.groupSections).all fun m => decide (2 ≤ m.entry.refresh)

/-- The restoration conditions 1 to 6 (R173). DESIGN CHOICE (unsafe; notes/assumptions/70): the first fails while the
latest record is WARMUP. -/
def State.mayRestore (s : State) (st : Settings) : Bool :=
  let utility := !(s.closedNormalIncomers s.groupSections).isEmpty
  s.csq.state == .shed && s.goodRecord.any (fun r => r.bus == .live) &&
    !(s.feedersByPriority s.groupSections).any (fun m =>
      s.moreImportant st m && (m.csq == some .shed || m.csq == some .restoring)) &&
    (utility || (s.capacity st && s.csq.shedCause != some .overload)) &&
    s.settled st && s.closeFree && s.csq.restoreWait.isNone

/-- The restoration claim (R173). -/
def feederRestore (st : Settings) (s : State) : State :=
  if s.mayRestore st then
    (s.withCsq { s.csq with state := .restoring, restoreTaken := false }).send (.closeClaim .feeder)
  else s

/-- A passage into SHED, which is a shed seen (R175). -/
def enterShed (st : Settings) (cause : Option ShedCause) (s : State) : State :=
  s.withCsq { s.csq with
    state := .shed, shedCause := cause, shedDelay := none, overloadTimer := none, overloadExpired := false,
    restoreTaken := false, shedSettle := s.after st.csq.shedSettleMs }

/-- A feeder state other than SHED and RESTORING: no shed cause, and none of the timers of NORMAL run. -/
def feederTo (x : CsqState) (s : State) : State :=
  s.withCsq { s.csq with
    state := x, shedCause := none, shedDelay := none, overloadTimer := none, overloadExpired := false,
    restoreTaken := false }

/-- The shed delay timer at a record (R172). -/
def feederDeadBus (st : Settings) (r : Record) (s : State) : State :=
  if s.csq.state = .feederNormal ∧ st.csq.shedOnDeadBus = true then
    if r.bus ≠ .dead then s.withCsq { s.csq with shedDelay := none }
    else if s.csq.shedDelay.isNone then s.withCsq { s.csq with shedDelay := s.after st.csq.shedDelayMs }
    else s
  else s

/-- The overload condition (R175). -/
def State.overloaded (s : State) (st : Settings) : Bool :=
  !s.incomerClosed && !s.freshLoads.isEmpty && decide ((st.csq.shedThreshold : Int) < weightedLoad s.freshLoads)

/-- The overload timer at a view (R175). -/
def feederOverload (st : Settings) (s : State) : State :=
  if s.csq.state ≠ .feederNormal then s
  else if !s.overloaded st then s.withCsq { s.csq with overloadTimer := none, overloadExpired := false }
  else if s.csq.overloadTimer.isNone && !s.csq.overloadExpired then
    s.withCsq { s.csq with overloadTimer := s.after st.csq.overloadDelayMs }
  else s

/-- The feeder members in SHED that a view shows. -/
def State.shedMembers (s : State) : List StationNo :=
  ((s.members s.groupSections).filter fun m => m.hasRole .feeder && m.csq == some .shed).map fun m => m.number

/-- A shed seen at a view starts the shed settle timer (R175). DESIGN CHOICE (unsafe; notes/assumptions/56): a feeder
already in SHED that is newly a member of the view counts as newly become SHED. -/
def feederSheds (st : Settings) (s : State) : State :=
  if s.shedMembers.any fun n => !s.csq.seenShed.contains n then
    s.withCsq { s.csq with shedSettle := s.after st.csq.shedSettleMs }
  else s

/-- What a FEEDER keeps of a view, whether its sequence runs or not: the feeder members in SHED. -/
def keepSheds (st : Settings) (s : State) : State :=
  if st.station.role = .feeder then s.withCsq { s.csq with seenShed := s.shedMembers } else s

/-- The judgement of an overload shed (R175). -/
def judgeShed (st : Settings) (s : State) : State :=
  if s.csq.state == .feederNormal && s.csq.overloadExpired && s.overloaded st && s.csq.shedSettle.isNone &&
      !(s.feedersByPriority s.groupSections).any (fun m => s.lessImportant st m && m.csq == some .feederNormal) then
    enterShed st (some .overload) (sequenceOpen s)
  else s

/-! ### The tests of every event -/

/-- The conditions that a sequence tests at each of its events. -/
def csqTick (st : Settings) (s : State) : State :=
  if s.sequencing then
    match st.station.role with
    | .incomer => incomerHand (incomerRunOut st (incomerMonitor st s))
    | .generator => generatorShown (generatorDelay st (generatorReady st (generatorStarting st s)))
    | .tie => tieTest st s
    | .feeder => feederRestore st s
  else s

/-- An event of the CSQ. -/
def csqEvent (act : Settings → State → State) (s : State) : State := s.inForce fun st s => csqTick st (act st s)

/-- An act of the sequence, which it makes only while it runs. -/
def whenRunning (act : Settings → State → State) (st : Settings) (s : State) : State :=
  if s.sequencing then act st s else s

/-! ### Entry into and exit from AUTO -/

/-- The derivation of R159. DESIGN CHOICE (unsafe; notes/assumptions/25): a derivation into READY, STARTING or ONLINE
energizes RUN_REQUEST, and one into UNLOADING leaves it as it stands. -/
def derive (st : Settings) (s : State) : State :=
  match st.station.role with
  | .incomer =>
    if s.csq.blocked then s.toCsq .blocked
    else if s.bkc.state.countsClosed then s.toCsq .incNormal
    else returnOrLost st s
  | .generator =>
    if s.bkc.state.countsClosed then if s.lsc.unloading then s.toCsq .unloading else enterOnline s
    else if s.csq.startFailed then s.toCsq .startFailed
    else if s.startCondition then toReadyOrStarting st s
    else if s.ssc.runRequest then toCooldown st s
    else s.toCsq .stopped
  | .tie =>
    if !s.bkc.state.countsClosed then s.toCsq .openNormal
    else if st.csq.tieAuto then s.withCsq { s.csq with state := .closedAuto, fedB := true }
    else s.toCsq .closedManual
  | .feeder =>
    if s.bkc.state.countsClosed then s.toCsq .feederNormal
    else if s.bkc.lockout && s.bkc.lastPurpose == some .protection then s.toCsq .tripped
    else if s.bkc.lastPurpose = some .sequence then enterShed st (some .deadBus) s
    else s.toCsq .openManual

/-- CSQ_AUTO_ENTRY (R159): the derivation, and then the tests of the state entered. -/
def execCsqAutoEntry (s : State) : Outcome :=
  done s <| (s.take .csqAutoEntry).inForce fun st s =>
    if s.ssc.station = .auto then csqTick st (derive st (s.withCsq { s.csq with seenBreaker := s.bkc.state })) else s

/-- The sequence suspended (R158): every timer but the monitor's stopped, no role detail of a sequence left. -/
def Csq.suspend (c : Csq) : Csq :=
  { c with
    state := .inactive, fedB := false, shedCause := none, mode := none, delayRunOut := false,
    retransferDelay := none, overlapBackup := none, startDelay := none, startTimer := none, cooldown := none,
    shedDelay := none, restoreWait := none, overloadTimer := none, overloadExpired := false, shedSettle := none,
    ownOpen := false, restoreTaken := false }

/-- CSQ_AUTO_EXIT (R158). -/
def execCsqAutoExit (s : State) : Outcome :=
  done s <|
    let s' := withdrawRequest (s.take .csqAutoExit)
    s'.withCsq s'.csq.suspend

/-! ### Publications of the other blocks -/

/-- CSQ_CYCLE_COMPLETION: a WARMUP record is disregarded (R157). -/
def execCsqCycleCompletion (s : State) : Outcome :=
  done s <|
    let s := s.take .csqRecord
    match s.goodRecord with
    | none => s
    | some r => csqEvent (whenRunning fun st s => if st.station.role = .feeder then feederDeadBus st r s else s) s

/-- CSQ_PES_PUBLICATION: a publication of the PES (R157), which is an evaluation of the source monitor when it follows a
cycle evaluation (R160). A publication that follows one is taken before one that does not, and the command acts as
for one that does when neither waits (notes/assumptions/3 and 24). -/
def execCsqPesPublication (s : State) : Outcome :=
  done s <|
    if s.due.contains (.csqPes false) && !s.due.contains (.csqPes true) then
      csqEvent (fun _ s => s) (s.take (.csqPes false))
    else csqEvent (fun st s => whenRunning incomerEvaluated st (evaluateMonitor st s)) (s.take (.csqPes true))

/-- A view in OVERLAP that shows no closed generator (R165). -/
def incomerView (s : State) : State :=
  if s.csq.state = .overlap ∧ s.generatorClosed = false then
    s.withCsq { s.csq with state := .incNormal, overlapBackup := none }
  else s

/-- A view in ONLINE that shows an incomer in RETRANSFER with mode OPEN (R169). -/
def generatorView (s : State) : State :=
  if s.csq.state = .online ∧
      (s.incomers s.groupSections).any (fun m => m.csq == some .retransfer && !m.retransferClosed) = true then
    unloadOrder .retransferOpen s
  else s

/-- A view in CLOSED_AUTO that shows an incomer of the fed section in RETRANSFER (R171). -/
def tieView (s : State) : State :=
  if s.csq.state = .closedAuto ∧
      (s.incomers SectionSet.onlyB).any (fun m => m.csq == some .retransfer) = true then
    sequenceOpen s
  else s

/-- A group view publication at each role. -/
def roleView (st : Settings) (s : State) : State :=
  match st.station.role with
  | .incomer => incomerView s
  | .generator => generatorView s
  | .tie => tieView s
  | .feeder => feederOverload st (feederSheds st s)

/-- CSQ_VIEW_EVENT. -/
def execCsqViewEvent (s : State) : Outcome :=
  done s (csqEvent (fun st s => keepSheds st (whenRunning roleView st s)) (s.take .csqView))

/-- The breaker state passes into CLOSED at this publication (R162, R169). -/
def State.passesClosed (s : State) : Bool := s.csq.seenBreaker != .closed && s.bkc.state == .closed

/-- The breaker shows open: OPEN or WITHDRAWN. -/
def State.showsOpen (s : State) : Bool := s.bkc.state.isOpenOrOut

/-- The breaker passes into open at this publication. -/
def State.passesOpen (s : State) : Bool := !s.csq.seenBreaker.isOpenOrOut && s.showsOpen

/-- A breaker record at an incomer (R162, R165). DESIGN CHOICE (unsafe; notes/assumptions/45): in RETURNING only the
passage into open starts the retransfer delay anew, and a later record that goes on showing the breaker open does
not; in SOURCE_LOST every record that shows it open is judged. -/
def incomerRecord (st : Settings) (s : State) : State :=
  match s.csq.state with
  | .sourceLost =>
    if s.passesClosed then overlapOrNormal st s
    else if s.showsOpen && !s.csq.ownOpen then returnOrLost st s
    else s
  | .returning =>
    if s.passesClosed then overlapOrNormal st s
    else if s.passesOpen && !s.csq.ownOpen then returnOrLost st s
    else s
  | .incNormal | .overlap => if s.showsOpen && !s.csq.ownOpen then returnOrLost st s else s
  | _ => s

/-- A breaker record at a generator (R169). -/
def generatorRecord (st : Settings) (s : State) : State :=
  match s.csq.state with
  | .online | .unloading => if s.showsOpen then toCooldown st s else s
  | _ => if s.passesClosed then enterOnline s else s

/-- A breaker record at a tie (R171). -/
def tieRecord (s : State) : State :=
  match s.csq.state with
  | .openNormal => if s.bkc.state = .closed then s.toCsq .closedManual else s
  | .closedAuto | .closedManual => if s.showsOpen then tieOpened s else s
  | _ => s

/-- Opened at the cubicle or uncommanded (R172). -/
def State.openedByHand (s : State) : Bool :=
  s.showsOpen && (s.bkc.lastPurpose == some .localButton || s.bkc.lastPurpose == some .uncommanded)

/-- An open claim of the CSQ waits to be taken by the BKC. -/
def State.openWaits (s : State) : Bool := s.due.contains (.openClaim .sequence)

/-- A breaker record at a feeder (R172, R174). DESIGN CHOICE (unsafe; notes/assumptions/18): a record that shows CLOSED
while the feeder's own open claim still waits at the BKC is from before that claim, and is no close. -/
def feederRecord (st : Settings) (s : State) : State :=
  match s.csq.state with
  | .tripped => s
  | .shed | .restoring | .openManual =>
    if s.bkc.state = .closed ∧ s.openWaits = false then feederTo .feederNormal s
    else if s.openedByHand then feederTo .openManual s
    else if s.csq.state = .restoring ∧ s.csq.restoreTaken = true ∧ s.bkc.state = .opened then
      enterShed st s.csq.shedCause s
    else s
  | _ => if s.openedByHand then feederTo .openManual s else s

/-- A publication of the breaker record at each role. -/
def roleRecord (st : Settings) (s : State) : State :=
  match st.station.role with
  | .incomer => incomerRecord st s
  | .generator => generatorRecord st s
  | .tie => tieRecord s
  | .feeder => feederRecord st s

/-- What the CSQ keeps of a breaker record: the state seen, and its own open claim until the breaker shows open, or
passes into CLOSED again. -/
def Csq.sawBreaker (c : Csq) (b : BreakerState) : Csq :=
  { c with
    seenBreaker := b
    ownOpen := c.ownOpen && !b.isOpenOrOut && !(c.seenBreaker != .closed && b == .closed) }

/-- CSQ_BREAKER_RECORD. -/
def execCsqBreakerRecord (s : State) : Outcome :=
  done s <| csqEvent (fun st s =>
    let s' := whenRunning roleRecord st s
    s'.withCsq (s'.csq.sawBreaker s'.bkc.state)) (s.take .csqBreaker)

/-- The outcome of a request of the SYN at each role (R164, R168, R170). -/
def roleOutcome (o : SynOutcome) (st : Settings) (s : State) : State :=
  match st.station.role with
  | .incomer =>
    if s.csq.state ≠ .retransfer then s else if o = .closed then overlapOrNormal st s else toBlocked s
  | .generator =>
    if !s.csq.state.inReady then s else if o = .closed then enterOnline s else s.toCsq .ready
  | .tie =>
    if s.csq.state ≠ .closingAuto then s else if o = .closed then s.toCsq .closedAuto else tieOpened s
  | .feeder => s

/-- The outcome of an ended request: the CANCELLED of a request that the CSQ withdrew is told and no more
(notes/assumptions/50); any other is acted on. -/
def takeOutcome (o : SynOutcome) (st : Settings) (s : State) : State :=
  if o = .cancelled ∧ 0 < s.csq.withdrawn then s.withCsq { s.csq with withdrawn := s.csq.withdrawn - 1 }
  else whenRunning (roleOutcome o) st (s.withCsq { s.csq with holding := false })

/-- CSQ_SYN_OUTCOME: a publication of the SYN, with the outcome of an ended request when there is one. -/
def execCsqSynOutcome (outcome : Option SynOutcome) (s : State) : Outcome :=
  done s <| csqEvent (fun st s =>
    match outcome with
    | none => s
    | some o => takeOutcome o st s) (s.take (.csqSyn outcome))

/-- CSQ_LSC_MODE (R169). -/
def execCsqLscMode (s : State) : Outcome := done s (csqEvent (fun _ s => s) (s.take .csqLsc))

/-- A change of the debounced GEN_READY (R157, R167). -/
def csqGenReady (s : State) : State := csqEvent (fun _ s => s) s

/-! ### What other blocks tell the CSQ -/

/-- The PES tells of a protection trip (R38, R172). -/
def tellTrip (s : State) : State :=
  csqEvent (whenRunning fun st s => if st.station.role = .feeder then feederTo .tripped s else s) s

/-- The BKC tells of a lockout clear (R61, R172). -/
def tellLockoutClear (s : State) : State :=
  csqEvent (whenRunning fun _ s =>
    if s.csq.state ≠ .tripped then s
    else if s.bkc.state.countsClosed then feederTo .feederNormal s
    else feederTo .openManual s) s

/-- The BKC tells of an OPEN request taken (R64, R172). -/
def tellOpenRequest (s : State) : State :=
  csqEvent (whenRunning fun st s =>
    if st.station.role = .feeder ∧ s.csq.state ≠ .tripped then feederTo .openManual s else s) s

/-- The BKC takes the restoration claim (R174). DESIGN CHOICE (unsafe; notes/assumptions/69): the answer is that of the
RESTORING in which it comes, and nothing out of RESTORING. -/
def tellFeederTaken (s : State) : State :=
  if s.csq.state = .restoring then s.withCsq { s.csq with restoreTaken := true } else s

/-- The BKC refuses the restoration claim (R174), with the choice of `tellFeederTaken` (notes/assumptions/69). -/
def tellFeederRefused (s : State) : State :=
  s.inForce fun st s =>
    if s.csq.state = .restoring then
      let s' := enterShed st s.csq.shedCause s
      s'.withCsq { s'.csq with restoreWait := s'.after 1000 }
    else s

/-! ### Timers -/

/-- FAILURE_CONFIRM_EXPIRY (R160). -/
def execFailureConfirmExpiry (s : State) : Outcome :=
  done s (expire s.csq.confirmTimer s fun s => csqEvent (fun _ s => s.setMonitor .failed) s)

/-- RETRANSFER_DELAY_EXPIRY (R162). -/
def execRetransferDelayExpiry (s : State) : Outcome :=
  done s <| expire s.csq.retransferDelay s fun s =>
    csqEvent (fun st s => whenRunning incomerDelayEnds st
      (s.withCsq { s.csq with retransferDelay := none, delayRunOut := true })) s

/-- OVERLAP_BACKUP_EXPIRY (R165). -/
def execOverlapBackupExpiry (s : State) : Outcome :=
  done s <| expire s.csq.overlapBackup s fun s =>
    csqEvent (fun st s => whenRunning (fun _ s =>
      if s.csq.state = .overlap ∧ s.generatorClosed = true then toBlocked (sequenceOpen s) else s) st
        (s.withCsq { s.csq with overlapBackup := none })) s

/-- START_DELAY_EXPIRY (R167). -/
def execStartDelayExpiry (s : State) : Outcome :=
  done s <| expire s.csq.startDelay s fun s =>
    csqEvent (fun st s => whenRunning (fun st s =>
      if !s.startCondition then s
      else
        match s.csq.state with
        | .stopped =>
          (s.withCsq { s.csq with state := .starting, startTimer := s.after (1000 * st.csq.startTimeS) }).run true
        | .cooldown => toReadyOrStarting st s
        | _ => s) st (s.withCsq { s.csq with startDelay := none })) s

/-- START_TIMER_EXPIRY (R167). DESIGN CHOICE (unsafe; notes/assumptions/55): START_FAILED is latched whether the start
condition still holds at this event or not, though R167 sends a lost start condition in STARTING to COOLDOWN. -/
def execStartTimerExpiry (s : State) : Outcome :=
  done s <| expire s.csq.startTimer s fun s =>
    csqEvent (fun st s => whenRunning (fun _ s =>
      if s.csq.state = .starting then
        (s.withCsq { s.csq with state := .startFailed, startFailed := true }).run false
      else s) st (s.withCsq { s.csq with startTimer := none })) s

/-- COOLDOWN_EXPIRY (R169). -/
def execCooldownExpiry (s : State) : Outcome :=
  done s <| expire s.csq.cooldown s fun s =>
    csqEvent (fun st s => whenRunning (fun _ s =>
      if s.csq.state = .cooldown then (s.toCsq .stopped).run false else s) st
        (s.withCsq { s.csq with cooldown := none })) s

/-- SHED_DELAY_EXPIRY (R172). -/
def execShedDelayExpiry (s : State) : Outcome :=
  done s <| expire s.csq.shedDelay s fun s =>
    csqEvent (fun st s => whenRunning (fun st s =>
      if s.csq.state = .feederNormal then enterShed st (some .deadBus) (sequenceOpen s) else s) st
        (s.withCsq { s.csq with shedDelay := none })) s

/-- RESTORE_WAIT_EXPIRY (R173, R174). -/
def execRestoreWaitExpiry (s : State) : Outcome :=
  done s <| expire s.csq.restoreWait s fun s =>
    csqEvent (fun _ s => s.withCsq { s.csq with restoreWait := none }) s

/-- OVERLOAD_TIMER_EXPIRY (R175). -/
def execOverloadTimerExpiry (s : State) : Outcome :=
  done s <| expire s.csq.overloadTimer s fun s =>
    csqEvent (fun st s => whenRunning judgeShed st
      (s.withCsq { s.csq with overloadTimer := none, overloadExpired := true })) s

/-- SHED_SETTLE_EXPIRY (R175). -/
def execShedSettleExpiry (s : State) : Outcome :=
  done s <| expire s.csq.shedSettle s fun s =>
    csqEvent (fun st s => whenRunning judgeShed st (s.withCsq { s.csq with shedSettle := none })) s

/-! ### Requests taken by the CSQ -/

/-- TRANSFER_TEST START, and END, taken (R161): START makes the monitor FAILED at once, and is no evaluation of it
(R160). -/
def transferTestStart (s : State) : State :=
  if s.csq.transferTest then s
  else csqEvent (fun _ s => (s.setMonitor .failed).withCsq { (s.setMonitor .failed).csq with transferTest := true }) s

def transferTestEnd (s : State) : State :=
  if s.csq.transferTest then
    csqEvent (fun st s =>
      let s' := s.setMonitor (if s.sourcesDropped st then .healthy else .failed)
      s'.withCsq { s'.csq with transferTest := false }) s
  else s

/-- RETRANSFER_INHIBIT taken (R166). -/
def setInhibit (on : Bool) (s : State) : State := csqEvent (fun _ s => s.withCsq { s.csq with inhibit := on }) s

/-- RETRANSFER_NOW taken (R166). -/
def retransferAtOnce (s : State) : State := csqEvent enterRetransfer s

/-- RESET_ALARM at the CSQ (R176). -/
def csqResetAlarm (s : State) : State :=
  csqEvent (whenRunning fun st s =>
    match s.csq.state with
    | .startFailed => s.toCsq .stopped
    | .blocked => derive st s
    | _ => s) (s.withCsq { s.csq with startFailed := false, blocked := false })

end Sys2Proof.Machine
end

