-- ==== Sys2Proof/Machine/Coils.lean ====
section
/-! DEFINITION. The Coil Driver and Supervision: coil pulses and drive levels (R69 to R71), diagnostic runs (R72 to
R75), their schedule (R76), results and effects (R77 to R79). -/

namespace Sys2Proof.Machine

/-! ### Coil pulses -/

/-- Whether a coil output is energized. -/
def Cds.out (c : Cds) : Coil → Bool
  | .trip => c.tripOut
  | .close => c.closeOut

/-- Either coil output is energized. -/
def Cds.anyOut (c : Cds) : Bool := c.tripOut || c.closeOut

/-- One level lower, LOW staying LOW (R70). -/
def DriveLevel.lower : DriveLevel → DriveLevel
  | .high => .normal
  | .normal => .low
  | .low => .low

/-- A coil output set to a level. -/
def Cds.setOut (c : Cds) (coil : Coil) (b : Bool) : Cds :=
  match coil with
  | .trip => { c with tripOut := b }
  | .close => { c with closeOut := b }

/-- A rise of the over-temperature warning during a pulse: the level falls by one, and where it does, DRIVE_REDUCED
is set (R70, R71). -/
def Cds.warm (c : Cds) : Cds :=
  if c.level = .low then c else { c with level := c.level.lower, lowered := true, reduced := true }

/-- The circuit named in a last-run record. -/
def Coil.runCircuit : Coil → RunCircuit
  | .trip => .trip
  | .close => .close

/-- A last-run record made now (R77). -/
def State.runRecord (s : State) (circuit : RunCircuit) (outcome : RunOutcome) : Option LastRun :=
  some { circuit := circuit, outcome := outcome, time := s.localTime }

/-- The step results of a run aborted in step `k`: the step in progress and those after it become NOT_RUN (R75). -/
def keptSteps (steps : Vector StepResult 4) (k : Nat) : Vector StepResult 4 :=
  Vector.ofFn fun i : Fin 4 => if i.val + 1 < k then steps[i] else .notRun

/-- The abort of a run in progress (R75). -/
def abortRun (s : State) : State :=
  match s.cds.run with
  | none => s
  | some r =>
    s.withCds { s.cds with
      run := none
      steps := keptSteps s.cds.steps r.step
      lastRun := s.runRecord r.circuit.runCircuit .aborted
      retryTimer := if s.cds.retryTimer.isSome then s.cds.retryTimer else s.after 1000 }

/-- The BKC directs a coil to be energized (R69): a run in progress ends first; a coil already energized stays as it
stands; otherwise a pulse starts at the drive level setting, or one below it when the warning stands raised (R70). -/
def energize (coil : Coil) (s : State) : State :=
  let s := abortRun s
  if s.cds.out coil then s
  else
    let level := (s.settings.map fun st => st.brk.driveLevel).getD s.cds.level
    let c := { s.cds.setOut coil true with level := level, lowered := false }
    s.withCds (if s.pins.overTemp then c.warm else c)

/-- The BKC directs a coil to be de-energized (R69); the end of a pulse that ran at its setting from start to end
clears DRIVE_REDUCED (R71). -/
def deenergize (coil : Coil) (s : State) : State :=
  if s.cds.out coil then
    let c := s.cds.setOut coil false
    s.withCds { c with reduced := if c.lowered then c.reduced else false }
  else s

/-! ### Diagnostic runs -/

/-- The circuit that a breaker state completes (R72). -/
def testableCircuit : BreakerState → Option Coil
  | .closed => some .trip
  | .opened => some .close
  | _ => none

/-- The time of a step in milliseconds (R73). -/
def stepMs : Nat → Nat
  | 3 => 20
  | 4 => 5
  | _ => 10

/-- A run begins on a circuit: step 1 starts, and a running retry timer stops (R72, R76). -/
def beginRun (coil : Coil) (s : State) : State :=
  match s.after (stepMs 1) with
  | none => s
  | some due =>
    s.withCds { s.cds with
      run := some { circuit := coil, startState := s.bkc.state, step := 1, due := due }
      steps := Vector.replicate 4 .notRun
      retryTimer := none }

/-- A start by a timer (R72): NOT_APPLICABLE without a circuit, ABORTED with the retry timer when a coil is
energized, and a run otherwise. A start that finds a run in progress makes no second one (R76). -/
def timerStart (s : State) : State :=
  if s.cds.run.isSome then s
  else
    match testableCircuit s.bkc.state with
    | none => s.withCds { s.cds with lastRun := s.runRecord .noCircuit .notApplicable }
    | some coil =>
      if s.cds.anyOut then
        s.withCds { s.cds with lastRun := s.runRecord coil.runCircuit .aborted, retryTimer := s.after 1000 }
      else beginRun coil s

/-- Rmin and Rmax of a circuit (R73). -/
def BreakerSettings.pair (b : BreakerSettings) : Coil → Nat × Nat
  | .trip => (b.rminTrip, b.rmaxTrip)
  | .close => (b.rminClose, b.rmaxClose)

/-- The result of a step from what the circuit shows (R73). -/
def stepResult (b : BreakerSettings) (coil : Coil) (step : Nat) (r : Reading) : StepResult :=
  match step with
  | 1 => if r.heldAtSupply then .fail .short else .pass
  | 2 =>
    match r.pullDown with
    | .heldAtGround => .fail .short
    | .noContinuity => .fail .openCircuit
    | .followsCoil => .pass
  | 3 =>
    if r.ohms < (b.pair coil).1 then .fail .short
    else if r.ohms > (b.pair coil).2 then .fail .highResistance
    else .pass
  | _ => if r.senseFault then .fail .driverFault else .pass

/-- The finding of the first failed step, OK when there is none (R74). -/
def runSummary : List StepResult → CircuitResult
  | [] => .ok
  | .fail finding :: _ => finding
  | _ :: rest => runSummary rest

/-- A circuit result as the outcome of a run. -/
def CircuitResult.outcome : CircuitResult → RunOutcome
  | .ok => .ok
  | .openCircuit => .openCircuit
  | .short => .short
  | .highResistance => .highResistance
  | .driverFault => .driverFault
  | .unknown => .ok

/-- CLOSE_CIRCUIT_FAULT after a close-circuit run: set by OPEN or SHORT, cleared by OK, else as it stood (R78). -/
def faultAfter (summary : CircuitResult) (before : Bool) : Bool :=
  match summary with
  | .openCircuit | .short => true
  | .ok => false
  | _ => before

/-- The completion of a run: the summary becomes the circuit's result and the outcome of a new last-run record, and
a close-circuit summary acts on CLOSE_CIRCUIT_FAULT (R74, R77, R78). -/
def completeRun (r : DiagRun) (steps : Vector StepResult 4) (s : State) : State :=
  let summary := runSummary steps.toList
  let c := { s.cds with
    run := none, steps := steps, lastRun := s.runRecord r.circuit.runCircuit summary.outcome }
  match r.circuit with
  | .trip => s.withCds { c with tripResult := summary }
  | .close =>
    (s.withCds { c with closeResult := summary }).withBkc
      { s.bkc with closeCircuitFault := faultAfter summary s.bkc.closeCircuitFault }

/-- A failed step 1 or 2 ends the run; step 4 ends it in any case (R73). -/
def runEnds (step : Nat) (result : StepResult) : Bool := step ≥ 4 || (step ≤ 2 && result != .pass)

/-- The end of the present step of a run (R73): the step gets its result, and the next step begins or the run is
complete. -/
def endStep (st : Settings) (r : DiagRun) (reading : Reading) (s : State) : State :=
  let result := stepResult st.brk r.circuit r.step reading
  let steps := s.cds.steps.setIfInBounds (r.step - 1) result
  if runEnds r.step result then completeRun r steps s
  else
    match s.after (stepMs (r.step + 1)) with
    | none => s
    | some due => s.withCds { s.cds with run := some { r with step := r.step + 1, due := due }, steps := steps }

/-! ### Events -/

/-- OVERTEMP_RISE: the warning rises, and lowers a pulse that is running (R70, R71). -/
def execOvertempRise (s : State) : Outcome :=
  done s <|
    let s' := s.withPins { s.pins with overTemp := true }
    if s'.cds.anyOut then s'.withCds s'.cds.warm else s'

/-- OVERTEMP_FALL: the warning falls; a lowered pulse stays lowered (R70). -/
def execOvertempFall (s : State) : Outcome := done s (s.withPins { s.pins with overTemp := false })

/-- PERIOD_TIMER_EXPIRY (R76). -/
def execPeriodTimerExpiry (s : State) : Outcome :=
  done s <| expire s.cds.periodTimer s fun s =>
    s.inForce fun st s =>
      timerStart (s.withCds { s.cds with periodTimer := s.after (1000 * st.brk.diagPeriodS) })

/-- DIAGNOSTIC_RETRY_EXPIRY (R76). -/
def execDiagnosticRetryExpiry (s : State) : Outcome :=
  done s <| expire s.cds.retryTimer s fun s => timerStart (s.withCds { s.cds with retryTimer := none })

/-- DIAGNOSTIC_STEP_END (R73, R74). -/
def execDiagnosticStepEnd (reading : Reading) (s : State) : Outcome :=
  done s <| s.inForce fun st s =>
    match s.cds.run with
    | none => s
    | some r => endStep st r reading (s.reach r.due)

/-- CDS_BREAKER_STATE_CHANGE: a breaker state other than the run's start state aborts it (R75). -/
def execCdsBreakerStateChange (s : State) : Outcome :=
  done s <|
    let s' := s.take .cdsBreaker
    if s'.cds.run.any fun r => r.startState != s'.bkc.state then abortRun s' else s'

/-- The station state that a change told to the CDS passed into. -/
def Delivery.cdsPassage : Delivery → Option StationState
  | .cdsStation x => some x
  | _ => none

/-- The station state that the oldest change not yet taken by the CDS passed into; where none waits, the present one
(notes/assumptions/3). -/
def State.cdsPassage (s : State) : StationState := (s.due.findSome? Delivery.cdsPassage).getD s.ssc.station

/-- CDS_STATION_STATE_CHANGE takes the changes one by one: the first passage into AUTO or MANUAL starts the period timer
(R76), whatever passage has followed it by now. -/
def execCdsStationStateChange (s : State) : Outcome :=
  let passed := s.cdsPassage
  done s <| (s.take (.cdsStation passed)).inForce fun st s =>
    if (passed = .auto ∨ passed = .manual) ∧ s.cds.periodStarted = false then
      s.withCds { s.cds with periodTimer := s.after (1000 * st.brk.diagPeriodS), periodStarted := true }
    else s

end Sys2Proof.Machine
end

