-- ==== Sys2Proof/Machine/Breaker.lean ====
section
/-! DEFINITION. The Breaker Controller: the breaker's position (R45 to R48), closing (R49 to R53), opening and tripping
(R54 to R57), breaker failure (R58 to R60), lockout (R61, R62) and the pushbuttons (R63). -/

namespace Sys2Proof.Machine

/-! ### Coils and states -/

/-- The close coil is de-energized, and its pulse ends. -/
def closeOff (s : State) : State := (deenergize .close s).withBkc { s.bkc with closePulse := none }

/-- The trip coil is de-energized, and its pulse ends. -/
def tripOff (s : State) : State := (deenergize .trip s).withBkc { s.bkc with tripPulse := none }

/-- The breaker state becomes another: the close coil stays energized only in CLOSING and CLOSED (R51), and the
discrepancy timer runs only in OPEN and CLOSED. -/
def passTo (x : BreakerState) (s : State) : State :=
  let s' := if x = .closing ∨ x = .closed then s else closeOff s
  s'.withBkc { s'.bkc with state := x, discrepancyTimer := none }

/-- Lockout becomes set: the close coil is de-energized, and a passage from clear to set pulses LOCKOUT_SET for
50 ms, ending a pulse on LOCKOUT_CLR (R53, R61, R62). -/
def setLockout (s : State) : State :=
  let s' := closeOff s
  if s'.bkc.lockout then s'
  else
    s'.withBkc { s'.bkc with
      lockout := true
      lockoutPulse := some { onSet := true, due := s'.localTime + 50 } }

/-- Breaker failure is armed: a running timer runs on from its first start (R58). -/
def armFailure (st : Settings) (s : State) : State :=
  if s.bkc.bfTimer.isSome then s
  else
    s.withBkc { s.bkc with
      bfTimer := some { start := s.localTime, due := s.localTime + BitVec.ofNat 32 st.brk.bfMs } }

/-! ### Opening and tripping (R54 to R56) -/

/-- The trip coil is energized for a 200 ms pulse, the close coil de-energized first. -/
def tripPulse (purpose : Purpose) (s : State) : State :=
  let s' := energize .trip (closeOff s)
  s'.withBkc { s'.bkc with tripPulse := s'.after 200, lastPurpose := some purpose }

/-- The table of R54. -/
def driveOpen (purpose : Purpose) (s : State) : State :=
  match s.bkc.state with
  | .closed | .closing | .discrepant =>
    let s' := passTo .opening (tripPulse purpose s)
    s'.withBkc { s'.bkc with stuckTimer := s'.after 300, closingTimer := none }
  | .stuckClosed => if s.bkc.tripPulse.isSome then s else tripPulse purpose s
  | .opening | .opened | .withdrawn => s

/-- A trip or open claim drives the breaker, and a diagnostic run is aborted first (R54, R75). -/
def abortAndOpen (purpose : Purpose) (s : State) : State := driveOpen purpose (abortRun s)

/-- An open claim taken: the breaker is driven, and the SYN's request is cancelled (R124). -/
def takeOpening (purpose : Purpose) (s : State) : State := synCancel (abortAndOpen purpose s)

/-- A trip claim taken (R54): its cause is recorded, lockout is set and breaker failure is armed. The SYN's request is
cancelled, but for a trip during CLOSING (R124, R138). -/
def takeTrip (cause : TripCause) (st : Settings) (s : State) : State :=
  let s' := setLockout (synTrip (s.bkc.state == .closing) (abortAndOpen .protection s))
  armFailure st (s'.withBkc { s'.bkc with lastTrip := some cause })

/-- The last purpose that an open claim leaves. -/
def openPurpose : OpenPurpose → Purpose
  | .sequence => .sequence
  | .unload => .unload
  | .request => .request
  | .localButton => .localButton

/-- The BKC takes no claims in START and SETTINGS_FAULT (R53, R67). -/
def State.atWork (s : State) (act : Settings → State → State) : State :=
  s.inForce fun st s => if s.ssc.station.atWork then act st s else s

/-- TRIP_CLAIM (R54). -/
def execTripClaim (cause : ElementNo) (detail : Byte) (s : State) : Outcome :=
  done s ((s.take (.tripClaim cause detail)).atWork fun st s => takeTrip { element := cause, detail := detail } st s)

/-- OPEN_CLAIM (R54). -/
def execOpenClaim (purpose : OpenPurpose) (s : State) : Outcome :=
  done s ((s.take (.openClaim purpose)).atWork fun _ s => takeOpening (openPurpose purpose) s)

/-! ### Closing (R49 to R52) -/

/-- Checks 1 to 6 of R49: the reason of the first that fails. -/
def State.generalCheck (s : State) : Option Result :=
  if s.bkc.state ≠ .opened then some .refusedState
  else if s.ssc.station ≠ .auto ∧ s.ssc.station ≠ .manual then some .refusedState
  else if s.bkc.lockout then some .refusedLockout
  else if !s.input .springOk then some .refusedInterlock
  else if s.bkc.closeCircuitFault then some .refusedInterlock
  else if s.cds.tripOut then some .refusedInterlock
  else none

/-- The purpose check (R50). -/
def State.purposeHolds (s : State) (st : Settings) (purpose : ClosePurpose) : Bool :=
  match purpose with
  | .sync => true
  | .deadBus => s.goodRecord.any fun r => r.bus == .dead
  | .feeder => s.goodRecord.any fun r => r.bus == .live && (!st.brk.lineVtFitted || r.line != .live)

/-- The answer to a close claim (R49). -/
def State.closeAnswer (s : State) (st : Settings) (purpose : ClosePurpose) : Result :=
  match s.generalCheck with
  | some r => r
  | none => if s.purposeHolds st purpose then .taken else .refusedInterlock

/-- The last purpose that a close claim leaves. -/
def closePurpose : ClosePurpose → Purpose
  | .sync => .sync
  | .deadBus => .deadBus
  | .feeder => .feeder

/-- A close claim taken (R51). -/
def takeClose (purpose : ClosePurpose) (st : Settings) (s : State) : State :=
  let s' := passTo .closing (energize .close s)
  s'.withBkc { s'.bkc with
    lastPurpose := some (closePurpose purpose)
    closePulse := s'.after st.brk.closePulseMs
    closingTimer := s'.after 250 }

/-- The claimant of a close claim is told that it was taken; what it makes of the answer is decided by its own record as
it stands (notes/assumptions/69). -/
def tellTaken (purpose : ClosePurpose) (s : State) : State :=
  match purpose with
  | .sync => s.withSyn s.syn.syncTaken
  | .deadBus => s.withSyn s.syn.deadTaken
  | .feeder => tellFeederTaken s

/-- The claimant of a close claim is told that it was refused. -/
def tellRefused (purpose : ClosePurpose) (s : State) : State :=
  match purpose with
  | .sync => syncRefused s
  | .deadBus => deadRefused s
  | .feeder => tellFeederRefused s

/-- CLOSE_CLAIM (R49 to R51). -/
def execCloseClaim (purpose : ClosePurpose) (s : State) : Outcome :=
  done s <| (s.take (.closeClaim purpose)).atWork fun st s =>
    if s.closeAnswer st purpose = .taken then tellTaken purpose (takeClose purpose st s) else tellRefused purpose s

/-- CLOSE_PULSE_END (R51). -/
def execClosePulseEnd (s : State) : Outcome := done s (expire s.bkc.closePulse s closeOff)

/-- CLOSING_TIMER_EXPIRY (R52). -/
def execClosingTimerExpiry (s : State) : Outcome :=
  done s <| expire s.bkc.closingTimer s fun s =>
    let s' := s.withBkc { s.bkc with closingTimer := none }
    if s'.bkc.state = .closing then
      let s'' := passTo .opened s'
      s''.withBkc { s''.bkc with failedToClose := true }
    else s'

/-- TRIP_PULSE_END (R55, R56). -/
def execTripPulseEnd (s : State) : Outcome := done s (expire s.bkc.tripPulse s tripOff)

/-! ### Contacts (R45 to R48, R52, R55, R56) -/

/-- The state follows the contacts without a command (R46, R47). -/
def followContacts (x : BreakerState) (s : State) : State :=
  let s' := passTo x s
  s'.withBkc { s'.bkc with lastPurpose := some .uncommanded }

/-- The discrepancy timer starts for 50 ms if it is not running. -/
def startDiscrepancy (s : State) : State :=
  if s.bkc.discrepancyTimer.isSome then s else s.withBkc { s.bkc with discrepancyTimer := s.after 50 }

/-- OPEN and CLOSED against a contact position (R46). -/
def compareContacts (own other : ContactPosition) (otherState : BreakerState) (pos : ContactPosition) (s : State) :
    State :=
  if pos = own then s.withBkc { s.bkc with discrepancyTimer := none }
  else if pos = other then followContacts otherState s
  else if pos = .withdrawn then s
  else startDiscrepancy s

/-- The trip is over: the trip coil is idle, the stuck timer stops and the state is OPEN (R55, R56). -/
def tripDone (s : State) : State :=
  let s' := passTo .opened (tripOff s)
  s'.withBkc { s'.bkc with stuckTimer := none }

/-- STUCK_TIMER_EXPIRY (R55): STUCK_CLOSED with the contacts not yet open. DESIGN CHOICE (unsafe; notes/assumptions/48):
contacts that have shown the open position since before the trip, with no change to take, make the state OPEN here. -/
def execStuckTimerExpiry (s : State) : Outcome :=
  done s <| expire s.bkc.stuckTimer s fun s =>
    let s' := s.withBkc { s.bkc with stuckTimer := none }
    if s'.bkc.state ≠ .opening then s'
    else if s'.contacts = .opened then tripDone s'
    else
      let s'' := passTo .stuckClosed s'
      s''.withBkc { s''.bkc with stuckAlarm := true }

/-- A new contact position. -/
def contactChange (s : State) : State :=
  s.atWork fun _ s =>
    let pos := s.contacts
    match s.bkc.state with
    | .opened => compareContacts .opened .closed .closed pos s
    | .closed => compareContacts .closed .opened .opened pos s
    | .discrepant =>
      match pos with
      | .opened => followContacts .opened s
      | .closed => followContacts .closed s
      | _ => s
    | .closing =>
      if pos = .closed then
        let s' := passTo .closed s
        s'.withBkc { s'.bkc with closingTimer := none }
      else s
    | .opening | .stuckClosed => if pos = .opened then tripDone s else s
    | .withdrawn => s

/-- Both coils are idle, and no timer of a movement runs. -/
def bothIdle (s : State) : State :=
  let s' := tripOff (closeOff s)
  s'.withBkc { s'.bkc with closingTimer := none, stuckTimer := none, discrepancyTimer := none }

/-- The derivation of R45. -/
def deriveBreaker (s : State) : State :=
  let s' := bothIdle s
  s'.withBkc { s'.bkc with state := s'.contacts.derived }

/-- A change of RACKED_IN (R45, R48). -/
def rackChange (s : State) : State :=
  s.atWork fun _ s =>
    if s.input .rackedIn then deriveBreaker s
    else
      let s' := bothIdle s
      s'.withBkc { s'.bkc with state := .withdrawn }

/-- DISCREPANCY_TIMER_EXPIRY (R46). -/
def execDiscrepancyTimerExpiry (s : State) : Outcome :=
  done s <| expire s.bkc.discrepancyTimer s fun s =>
    let s' := s.withBkc { s.bkc with discrepancyTimer := none }
    if s'.bkc.state = .opened ∨ s'.bkc.state = .closed then passTo .discrepant s' else s'

/-! ### Breaker failure (R59, R60) -/

/-- Breaker failure operates: the contact is closed, or some phase carries current (R59). -/
def State.breakerFailed (s : State) (st : Settings) : Bool :=
  s.input .bkrClosed || s.phaseAbove st.brk.bfpuSquared

/-- Breaker failure operates (R59): a BF_TRANSFER notice, the BF flag and the lockout; the re-check timer runs while
the flag is set (R60). -/
def failBreaker (st : Settings) (s : State) : State :=
  let s' := setLockout (s.withSli (s.sli.placeBf st.station.sections))
  s'.withBkc { s'.bkc with
    bfFlag := true
    recheckTimer := if s'.bkc.recheckTimer.isSome then s'.bkc.recheckTimer else s'.after 20 }

/-- BF_TIMER_EXPIRY (R59). -/
def execBfTimerExpiry (s : State) : Outcome :=
  done s <| expire (s.bkc.bfTimer.map fun t => t.due) s fun s =>
    (s.withBkc { s.bkc with bfTimer := none }).inForce fun st s =>
      if s.breakerFailed st then failBreaker st s else s

/-- BF_RECHECK_EXPIRY (R60). -/
def execBfRecheckExpiry (s : State) : Outcome :=
  done s <| expire s.bkc.recheckTimer s fun s =>
    s.inForce fun st s =>
      if s.bkc.state.isOpenOrOut && !s.phaseAbove st.brk.bfpuSquared then
        s.withBkc { s.bkc with bfFlag := false, recheckTimer := none }
      else s.withBkc { s.bkc with recheckTimer := s.after 20 }

/-! ### Lockout (R61, R62) -/

/-- LOCKOUT_PULSE_END (R62). -/
def execLockoutPulseEnd (s : State) : Outcome :=
  done s <| expire (s.bkc.lockoutPulse.map fun p => p.due) s fun s =>
    s.withBkc { s.bkc with lockoutPulse := none }

/-- A lockout clear is refused (R61). -/
def State.clearRefused (s : State) (st : Settings) : Bool := s.input .extTrip || tripOperated st s.pes

/-- Lockout becomes clear: a passage from set to clear pulses LOCKOUT_CLR for 50 ms (R62). -/
def dropLockout (s : State) : State :=
  if s.bkc.lockout then
    s.withBkc { s.bkc with
      lockout := false
      lockoutPulse := some { onSet := false, due := s.localTime + 50 } }
  else s

/-- A lockout clear (R61): refused, or made and told to the CSQ. -/
def lockoutClear (st : Settings) (s : State) : State :=
  if s.clearRefused st then s else tellLockoutClear (dropLockout s)

/-! ### Pushbuttons (R63) -/

/-- An operator's close on a station that is no FEEDER: checks 1 to 6, then the SYN's answer (R63, R65). -/
def State.handedAnswer (s : State) : Result :=
  match s.generalCheck with
  | some r => r
  | none => s.operatorAnswer

/-- A close asked for by an operator, and its answer (R63, R65). -/
def operatorClose (st : Settings) (s : State) : State × Result :=
  if st.station.role = .feeder then
    (if s.closeAnswer st .feeder = .taken then takeClose .feeder st s else s, s.closeAnswer st .feeder)
  else (if s.handedAnswer = .taken then takeRequest .operator st s else s, s.handedAnswer)

/-- LOCAL_OPEN becomes active. -/
def localOpen (s : State) : State :=
  s.atWork fun _ s => if s.input .localOpen then takeOpening .localButton s else s

/-- LOCAL_CLOSE becomes active: disregarded while REMOTE_PERMIT is active. -/
def localClose (s : State) : State :=
  s.atWork fun st s =>
    if s.input .localClose && !s.input .remotePermit then (operatorClose st s).1 else s

/-- LOCKOUT_RESET becomes active. -/
def localLockoutReset (s : State) : State :=
  s.atWork fun st s => if s.input .lockoutReset then lockoutClear st s else s

/-! ### Alarms (R66) -/

/-- RESET_ALARM at the BKC. -/
def Bkc.resetAlarm (b : Bkc) : Bkc :=
  { b with failedToClose := false, stuckAlarm := b.stuckAlarm && b.state == .stuckClosed }

end Sys2Proof.Machine
end

