-- ==== Sys2Proof/Machine/Measurement.lean ====
section
/-! DEFINITION. The Sample Intake Unit and the Cycle Measurement Engine: sample sets and staging buffers (R1 to R6),
and the arithmetic of the cycle measurement record (R7 to R21). -/

namespace Sys2Proof.Machine

/-! ### Sample Intake Unit -/

/-- The buffer that the next sample set goes to. -/
def Siu.filling (u : Siu) : Buffer := if u.fillB then u.bufB else u.bufA

/-- The buffer handed on last. -/
def Siu.handed (u : Siu) : Option Buffer := u.handedB.map fun b => if b then u.bufB else u.bufA

/-- The buffer being filled, set to new contents. -/
def Siu.setFilling (u : Siu) (b : Buffer) : Siu := if u.fillB then { u with bufB := b } else { u with bufA := b }

/-- A buffer that begins filling at a sample-set count: its marks are cleared and its cycle number is set (R3). -/
def Buffer.begin (count : BitVec 32) : Buffer :=
  { cycle := some (count.toNat / 48), sets := [], clipped := Vector.replicate 8 false }

/-- The buffer a sample set is stored into: one that holds 48 positions was handed on, and begins anew. -/
def Siu.target (u : Siu) : Buffer :=
  if u.filling.sets.length = 0 ∨ 48 ≤ u.filling.sets.length then Buffer.begin u.count else u.filling

/-- One sample set stored at the next position of a buffer, with the CLIPPED marks of its words (R2, R3). -/
def Buffer.store (b : Buffer) (count : BitVec 32) (words : Vector (BitVec 24) 8) : Buffer :=
  { b with
    sets := b.sets ++ [{ count := count, samples := Vector.ofFn fun c : Fin 8 => storedSample c.val words[c] }]
    clipped := Vector.ofFn fun c : Fin 8 => b.clipped[c] || wordClips c.val words[c] }

/-- Some sample of a buffer is marked valid. -/
def Buffer.anyValid (b : Buffer) : Bool := b.sets.any fun x => x.samples.toList.any fun v => v.valid

/-- The converter status of a handed buffer (R5). -/
def Buffer.status (b : Buffer) : ConverterStatus := if b.anyValid then .ok else .lost

/-- One sample instant of the SIU (R1, R3, R5). -/
def Siu.strobe (u : Siu) (words : Vector (BitVec 24) 8) : Siu :=
  let b := u.target.store u.count words
  let u' := { u.setFilling b with count := u.count + 1 }
  if b.sets.length = 48 then { u' with fillB := !u.fillB, handedB := some u.fillB, status := some b.status } else u'

/-- Whether a sample instant completes a cycle. -/
def Siu.completes (u : Siu) (words : Vector (BitVec 24) 8) : Bool :=
  (u.target.store u.count words).sets.length == 48

/-- SAMPLE_STROBE: nothing is strobed before the settings are in force (R1); a completed buffer is delivered to the
CME and to the DRC (R4). -/
def execSampleStrobe (words : Vector (BitVec 24) 8) (s : State) : Outcome :=
  done s <| s.inForce fun _ s =>
    let s' := s.withSiu (s.siu.strobe words)
    if s.siu.completes words then s'.notifyAll [.cmeBuffer, .drcBuffer] else s'

/-! ### Channels, mean squares and power -/

/-- The stored samples of a channel in a buffer. -/
def Buffer.channel (b : Buffer) (c : Fin 8) : List Sample := b.sets.map fun x => x.samples[c]

/-- R5: a channel is valid when all its samples are marked valid. -/
def Buffer.channelValid (b : Buffer) (c : Fin 8) : Bool := (b.channel c).all fun v => v.valid

/-- MS = S / 48 of a valid channel (R9). -/
def Buffer.meanSquare (b : Buffer) (c : Fin 8) : Option Nat :=
  if b.channelValid c then some (((b.channel c).map fun v => v.value.natAbs * v.value.natAbs).sum / 48) else none

/-- The sum of the products of two channels at equal positions. -/
def Buffer.products (b : Buffer) (x y : Fin 8) : Int :=
  (b.sets.map fun t => t.samples[x].value * t.samples[y].value).sum

/-- The power sum P (R10). -/
def Buffer.power (b : Buffer) : Option Int :=
  if [0, 1, 2, 4, 5, 6].all b.channelValid then
    some (Int.tdiv (b.products 0 4 + b.products 1 5 + b.products 2 6) 48)
  else none

/-- The load p = P × 1000 / FLP, clamped to -1000..2000 (R11). -/
def loadOf (power : Option Int) (flp : Option Nat) : Option Int :=
  match power, flp with
  | some p, some full => some (clampInt (-1000) 2000 (Int.tdiv (p * 1000) (full : Int)))
  | _, _ => none

/-! ### Crossings -/

/-- The crossing of a pair of consecutive samples, the earlier at count `n` (R13). -/
def crossing (n : BitVec 32) (earlier later : Sample) : Option CrossTime :=
  if earlier.valid && later.valid && decide (earlier.value < 0) && decide (0 ≤ later.value) then
    some (256#40 * n.zeroExtend 40 +
      BitVec.ofInt 40 (Int.tdiv (256 * -earlier.value) (later.value - earlier.value)))
  else none

/-- The crossings of the pairs within a list of samples with their counts. -/
def innerCrossings : List (BitVec 32 × Sample) → List CrossTime
  | a :: b :: rest => (crossing a.1 a.2 b.2).toList ++ innerCrossings (b :: rest)
  | _ => []

/-- The crossing of the boundary pair: the kept last sample was strobed one instant before position 0. -/
def boundaryCrossing (last : Option Sample) : List (BitVec 32 × Sample) → List CrossTime
  | [] => []
  | first :: _ =>
    match last with
    | none => []
    | some e => (crossing (first.1 - 1) e first.2).toList

/-- The crossings of a channel in a buffer, the boundary pair first (R13). -/
def Buffer.crossings (b : Buffer) (c : Fin 8) (last : Option Sample) : List CrossTime :=
  let xs := b.sets.map fun x => (x.count, x.samples[c])
  boundaryCrossing last xs ++ innerCrossings xs

/-- The hold-off of R14. -/
def History.ignores (h : History) (t : CrossTime) : Bool := h.t1.any fun t1 => decide ((t - t1).toNat < 6144)

/-- One crossing passed to a history; the flag tells whether one has been accepted (R14). -/
def History.accept (x : History × Bool) (t : CrossTime) : History × Bool :=
  if x.1.ignores t then x else ({ x.1 with t0 := x.1.t1, t1 := some t, age := some 0 }, true)

/-- The ageing after the crossings of a buffer (R14). -/
def History.grow (h : History) (accepted : Bool) : History :=
  if accepted || h.t1.isNone then h
  else if h.age.getD 0 + 1 = 2 then { h with t0 := none, t1 := none, age := none }
  else { h with age := some (h.age.getD 0 + 1) }

/-- A history after a buffer (R14). -/
def History.step (h : History) (b : Buffer) (c : Fin 8) : History :=
  let x := (b.crossings c h.last).foldl History.accept (h, false)
  { x.1.grow x.2 with last := (b.channel c).getLast? }

/-! ### Frequencies, angle, live and dead -/

/-- P256 = t1 - t0 (R15). -/
def History.period (h : History) : Option Nat :=
  match h.t0, h.t1 with
  | some t0, some t1 => some (t1 - t0).toNat
  | _, _ => none

/-- The frequency of a channel: the window of periods is the one whose result lies in 40000..70000 mHz (R15). -/
def frequency (rate : Nat) (valid : Bool) (h : History) : Option Int :=
  match h.period with
  | none => none
  | some p =>
    let f := rate * 256 * 1000 / p
    if valid && decide (40000 ≤ f) && decide (f ≤ 70000) then some (f : Int) else none

/-- The phase angle from the two latest crossings and the bus period (R16). -/
def phaseAngle (lineT1 busT1 : CrossTime) (period : Nat) : Int :=
  let d := reduceHalfOpen (period : Int) (lineT1 - busT1).toInt
  0 - Int.tdiv (36000 * d) (period : Int)

/-- θ is present when both frequencies are (R16). -/
def theta (fLine fBus : Option Int) (line bus : History) : Option Int :=
  match fLine, fBus, line.t1, bus.t1, bus.period with
  | some _, some _, some l, some b, some p => some (phaseAngle l b p)
  | _, _, _, _, _ => none

/-- Line or bus state from the RMS of its channel (R17). -/
def liveState (st : StationSettings) (rms : Option Nat) : LiveState :=
  match rms with
  | none => .unknown
  | some v =>
    if st.liveThreshold ≤ v then .live else if v ≤ st.deadThreshold then .dead else .indeterminate

/-! ### The record -/

/-- The record of a handed buffer, given the histories after it and the warm-up count before it (R7 to R19). -/
def makeRecord (st : StationSettings) (b : Buffer) (status : ConverterStatus) (warm : Nat) (line bus : History) :
    Record :=
  let ms : Vector (Option Nat) 8 := Vector.ofFn fun c : Fin 8 => b.meanSquare c
  let rms := ms.map fun m => m.map isqrt
  let power := b.power
  let fLine := frequency st.sampleRate (b.channelValid 0) line
  let fBus := frequency st.sampleRate (b.channelValid 3) bus
  { cycle := b.cycle.getD 0
    warmup := status == .lost || decide (warm < 2)
    rms := rms
    ms := ms
    clipped := b.clipped
    power := power
    load := loadOf power st.flp
    fLine := fLine
    fBus := fBus
    theta := theta fLine fBus line bus
    line := liveState st rms[0]
    bus := liveState st rms[3] }

/-- The CME at a cycle completion (R7): a LOST completion discards the histories and zeroes the warm-up count
(R19, R20); otherwise the crossings are taken and the count rises to at most 2. DESIGN CHOICE (unsafe;
notes/assumptions/66): it rises at a completion with status OK in which some or all channels are invalid too, of which
R19 says both that the count rises and that the completion does not touch it. -/
def Cme.complete (e : Cme) (st : StationSettings) (b : Buffer) (status : ConverterStatus) : Cme :=
  match status with
  | .lost =>
    { record := some (makeRecord st b status e.warmCount History.empty History.empty)
      lineHist := History.empty
      busHist := History.empty
      warmCount := 0 }
  | .ok =>
    let line := e.lineHist.step b 0
    let bus := e.busHist.step b 3
    { record := some (makeRecord st b status e.warmCount line bus)
      lineHist := line
      busHist := bus
      warmCount := min 2 (e.warmCount + 1) }

/-- CME_CYCLE_RECORD: the CME takes the buffer handed on last, and hands the new record to its six readers (R7). -/
def execCmeCycleRecord (s : State) : Outcome :=
  done s <| (s.take .cmeBuffer).inForce fun st s =>
    match s.siu.handed, s.siu.status with
    | some b, some status =>
      (s.withCme (s.cme.complete st.station b status)).notifyAll
        [.pesRecord, .synRecord, .lscRecord, .csqRecord, .ptbRecord, .sscRecord]
    | _, _ => s

end Sys2Proof.Machine
end

