-- ==== Sys2Proof/Machine/Recorder.lean ====
section
/-! DEFINITION. The Disturbance Recorder: capture blocks and their homes (R179, R180), triggers and records (R181 to
R187), memory exhaustion (R188, R189) and what the capture requests read and release (R190 to R193). -/

namespace Sys2Proof.Machine

/-! ### Blocks -/

/-- The contents of a block from a handed buffer (R180). -/
def blockOf (b : Buffer) (trigger : Bool) : Block :=
  { sets := b.sets.map fun x => x.samples.map fun v => v.value
    cycle := b.cycle.getD 0
    gap := b.sets.any fun x => x.samples.toList.any fun v => !v.valid
    clipped := b.clipped.toList.any id
    trigger := trigger }

/-- A block is written. -/
def Drc.write (d : Drc) (n : BlockNo) (b : Block) : Drc := { d with blocks := d.blocks.set n b }

/-- A block is marked TRIGGER_HERE. -/
def Drc.mark (d : Drc) (n : BlockNo) : Drc := d.write n { d.blocks[n] with trigger := true }

/-- The FILLING record. -/
def Drc.current (d : Drc) : Option Descriptor := d.records.find? fun r => r.filling

/-- A change of the FILLING record. -/
def Drc.mapFilling (d : Drc) (f : Descriptor → Descriptor) : Drc :=
  { d with records := d.records.map fun r => if r.filling then f r else r }

/-- The oldest record of a list that meets a condition, and the list without it. -/
def takeFirst (p : Descriptor → Bool) : List Descriptor → Option (Descriptor × List Descriptor)
  | [] => none
  | r :: rest => if p r then some (r, rest) else (takeFirst p rest).map fun x => (x.1, r :: x.2)

/-- The deletion of the oldest record that meets a condition: its blocks are appended to the free list in chain order
(R184, R188). -/
def Drc.deleteOldest (d : Drc) (p : Descriptor → Bool) : Drc :=
  match takeFirst p d.records with
  | none => d
  | some (r, rest) =>
    { d with records := rest, free := d.free ++ r.chain, overwritten := stopAt65535 d.overwritten }

/-- A needed block under OVERWRITE: an empty free list makes the oldest COMPLETE record go (R188). -/
def Drc.supply (d : Drc) : Drc := if d.free.isEmpty then d.deleteOldest fun r => !r.filling else d

/-! ### Storing (R180, R187, R189) -/

/-- The ring writes over its oldest block; a ring that holds none stores nothing. -/
def Drc.rotate (d : Drc) (b : Block) : Drc :=
  match d.ring with
  | [] => d
  | n :: rest => { d.write n b with ring := rest ++ [n] }

/-- The ring grows by the block at the head of the free list. -/
def Drc.grow (d : Drc) (b : Block) : Drc :=
  match d.free with
  | [] => d
  | n :: rest => { d.write n b with free := rest, ring := d.ring ++ [n] }

/-- A buffer stored in the ring (R180, R188, R189). -/
def Drc.storeRing (d : Drc) (st : DrcSettings) (b : Block) : Drc :=
  if d.full || decide (st.pre ≤ d.ring.length) then d.rotate b
  else if st.keep && d.free.isEmpty then { d with full := true }.rotate b
  else d.supply.grow b

/-- A buffer appended to the chain of the FILLING record, which becomes COMPLETE when the post count reaches 0. -/
def Drc.append (d : Drc) (b : Block) : Drc :=
  match d.free with
  | [] => d
  | n :: rest =>
    { (d.write n { b with trigger := d.markNext }).mapFilling fun r =>
        { r with chain := r.chain ++ [n], filling := !decide (d.postCount ≤ 1) } with
      free := rest, markNext := false, postCount := d.postCount - 1 }

/-- KEEP with no block left: the FILLING record becomes COMPLETE with TRUNCATED set (R189). -/
def Drc.truncate (d : Drc) : Drc :=
  { d.mapFilling fun r => { r with filling := false, truncated := true } with
    full := true, postCount := 0, markNext := false }

/-- A buffer stored into the FILLING record (R187 to R189). -/
def Drc.storeRecord (d : Drc) (st : DrcSettings) (b : Block) : Drc :=
  if st.keep && d.free.isEmpty then d.truncate else d.supply.append b

/-- A completed buffer is stored. -/
def Drc.store (d : Drc) (st : DrcSettings) (b : Buffer) : Drc :=
  if d.current.isSome then d.storeRecord st (blockOf b false) else d.storeRing st (blockOf b false)

/-! ### Triggers (R181 to R186) -/

/-- The trigger block of a list of blocks is marked: its newest, or the next block stored (R182). -/
def Drc.markNewest (d : Drc) (home : List BlockNo) : Drc :=
  match home.getLast? with
  | some n => d.mark n
  | none => { d with markNext := true }

/-- The next sequence number that no record holds (R181). -/
def freeSeq (held : List (BitVec 16)) : Nat → BitVec 16 → BitVec 16
  | 0, c => c
  | k + 1, c => if held.contains c then freeSeq held k (c + 1) else c

/-- The sequence number of the next record. -/
def Drc.nextSeq (d : Drc) : BitVec 16 := freeSeq (d.records.map fun r => r.seq) (d.records.length + 1) d.seqCounter

/-- A record is created from the ring (R184). -/
def Drc.create (d : Drc) (st : DrcSettings) (kind : CauseKind) (detail : Byte) (now : Time) : Drc :=
  let r : Descriptor :=
    { seq := d.nextSeq, filling := true, kind := kind, detail := detail, start := now, preCount := d.ring.length,
      trigPos := d.ring.length - 1, shortPre := decide (d.ring.length < st.pre), extended := false,
      truncated := false, chain := d.ring }
  { d.markNewest d.ring with
    ring := [], records := d.records ++ [r], postCount := st.post, seqCounter := d.nextSeq + 1 }

/-- A trigger is missed. -/
def Drc.miss (d : Drc) : Drc := { d with missed := stopAt65535 d.missed }

/-- What a trigger did. -/
inductive TriggerEffect where
  | missed | created | extended
deriving DecidableEq, Repr

/-- A trigger without a FILLING record (R184). DESIGN CHOICE (unsafe; notes/assumptions/47): under KEEP, 8 records held are
judged before an empty ring with an empty free list, so that FULL is left clear where both cases stand. -/
def Drc.start (d : Drc) (st : DrcSettings) (kind : CauseKind) (detail : Byte) (now : Time) : Drc × TriggerEffect :=
  if st.keep then
    if 8 ≤ d.records.length ∨ d.full = true then (d.miss, .missed)
    else if d.ring.isEmpty && d.free.isEmpty then ({ d with full := true }.miss, .missed)
    else (d.create st kind detail now, .created)
  else if 8 ≤ d.records.length then ((d.deleteOldest fun _ => true).create st kind detail now, .created)
  else (d.create st kind detail now, .created)

/-- A trigger that finds a FILLING record (R186). -/
def Drc.extend (d : Drc) (st : DrcSettings) (r : Descriptor) : Drc × TriggerEffect :=
  if 80 ≤ r.chain.length + d.postCount then (d.miss, .missed)
  else
    let post := min st.post (80 - r.chain.length)
    let d' := d.markNewest r.chain
    if d.postCount < post then
      ({ d'.mapFilling fun x => { x with extended := true } with postCount := post }, .extended)
    else (d', .extended)

/-- A trigger at the recorder. -/
def Drc.trigger (d : Drc) (st : DrcSettings) (kind : CauseKind) (detail : Byte) (now : Time) : Drc × TriggerEffect :=
  match d.current with
  | some r => d.extend st r
  | none => d.start st kind detail now

/-- The sequence number of the newest record held (R178). -/
def Drc.newest (d : Drc) : Option (BitVec 16) := d.records.getLast?.map fun r => r.seq

/-- The CAPTURE_TRIGGER event that a creation sends, but for one made by a PEER trigger (R185). -/
def crossTrigger (st : DrcSettings) (kind : CauseKind) (detail : Byte) (s : State) : State :=
  if st.crossOut && kind != .peer then
    s.withSli (s.sli.placeEvent (.captureTrigger (s.drc.newest.getD 0) kind detail))
  else s

/-- A trigger whose enable is set. -/
def takeTrigger (st : Settings) (kind : CauseKind) (detail : Byte) (s : State) : State :=
  let x := s.drc.trigger st.drc kind detail s.localTime
  let s' := s.withDrc x.1
  if x.2 = .created then crossTrigger st.drc kind detail s' else s'

/-- The recorder is at work from the end of START, but for SETTINGS_FAULT (R178). -/
def State.recording (s : State) (act : Settings → State → State) : State :=
  s.inForce fun st s => if s.ssc.station.atWork then act st s else s

/-! ### General inputs (R182) -/

/-- The four general inputs: the place of each and its input number. -/
def generalInputs : List (Fin 4 × Byte) := [(0, 1), (1, 2), (2, 3), (3, 4)]

/-- The LEVEL triggers of a completion, after the storing. DESIGN CHOICE (unsafe; notes/assumptions/46): several active
inputs give their triggers in the order GIN1 to GIN4. -/
def levelTriggers (st : Settings) (s : State) : State :=
  generalInputs.foldl (fun s g =>
    if st.drc.enableGin.getLsbD g.1.val && st.drc.levelGin.getLsbD g.1.val && s.drc.gin[g.1] then
      takeTrigger st .input g.2 s
    else s) s

/-- DRC_BUFFER_STORE (R180, R182, R187). DESIGN CHOICE (unsafe; notes/assumptions/57): at the completion that completes a
record of 80 blocks a LEVEL input held active creates the new record at that same event (R187), with the empty ring of
R182, whose words put it at the next completion. -/
def execDrcBufferStore (s : State) : Outcome :=
  done s <| (s.take .drcBuffer).recording fun st s =>
    match s.siu.handed with
    | none => s
    | some b => levelTriggers st (s.withDrc (s.drc.store st.drc b))

/-- A change of a general input (R182). -/
def generalInputChange (g : Fin 4 × Byte) (level : Bool) (s : State) : State :=
  s.recording fun st s =>
    let s' := s.withDrc { s.drc with gin := s.drc.gin.set g.1 level }
    if level && st.drc.enableGin.getLsbD g.1.val then takeTrigger st .input g.2 s' else s'

/-! ### Triggers of the PES and of peers -/

/-- DRC_TRIGGER (R42, R182). -/
def execDrcTrigger (kind : PesTrigger) (element : ElementNo) (s : State) : Outcome :=
  done s <| (s.take (.drcTrigger kind element)).recording fun st s =>
    match kind with
    | .pickup =>
      if st.drc.enablePickup then takeTrigger st .pickup (BitVec.ofNat 8 (elementNumber element)) s else s
    | .trip => if st.drc.enableTrip then takeTrigger st .trip (BitVec.ofNat 8 (elementNumber element)) s else s

/-- A TRIP notice or CAPTURE_TRIGGER event of another station (R183). -/
def peerTrigger (sender : StationNo) (s : State) : State :=
  s.recording fun st s =>
    if st.drc.enablePeer && s.inGroup sender then takeTrigger st .peer (BitVec.ofNat 8 sender.val) s else s

/-! ### What the requests read (R190 to R193, R210) -/

/-- The record with a sequence number. -/
def Drc.find (d : Drc) (seq : BitVec 16) : Option Descriptor := d.records.find? fun r => r.seq == seq

/-- One occupied place of a directory. -/
def placeBytes (r : Descriptor) : List Byte :=
  be16 r.seq ++ [bit1 true ++ bit1 (!r.filling) ++ 0#3 ++ r.kind.code.extractLsb' 0 3, r.detail] ++ be32 r.start ++
    [BitVec.ofNat 8 r.preCount, BitVec.ofNat 8 r.chain.length, BitVec.ofNat 8 r.trigPos,
     0#5 ++ bit1 r.truncated ++ bit1 r.extended ++ bit1 r.shortPre]

/-- The eight places of a directory, those not held all 0. -/
def placesBytes : Nat → List Descriptor → List Byte
  | 0, _ => []
  | k + 1, [] => List.replicate 12 0 ++ placesBytes k []
  | k + 1, r :: rest => placeBytes r ++ placesBytes k rest

/-- The payload of a DIRECTORY frame. -/
def Drc.directory (d : Drc) (keep : Bool) (dest : Byte) : List Byte :=
  [0#3 ++ dest.extractLsb' 0 5, BitVec.ofNat 8 d.records.length, bit1 d.full ++ 0#6 ++ bit1 keep] ++
    be16 d.missed ++ be16 d.overwritten ++ placesBytes 8 d.records

/-- The payload of a BLOCK frame. -/
def blockBytes (b : Block) (dest : Byte) (seq : BitVec 16) (position channel : Nat) : List Byte :=
  [BitVec.ofNat 3 channel ++ dest.extractLsb' 0 5] ++ be16 seq ++ [BitVec.ofNat 8 position] ++
    be32 (bit1 b.trigger ++ bit1 b.clipped ++ bit1 b.gap ++ 0#2 ++ BitVec.ofNat 27 b.cycle) ++
    b.sets.flatMap fun x => be16 (BitVec.ofInt 16 (x.toList.getD channel 0))

/-- A release: the record's blocks are appended to the free list in chain order, the record leaves the list, and FULL
is cleared (R193). -/
def Drc.release (d : Drc) (r : Descriptor) : Drc :=
  { d with
    records := d.records.filter fun x => x.seq != r.seq
    free := d.free ++ r.chain
    full := false }

end Sys2Proof.Machine
end

