-- ==== Sys2Proof/Machine/PeerTable.lean ====
section
/-! DEFINITION. The Peer Table: the own report record and the placing of reports (R102 to R105), the peer entries and
their ageing (R106 to R111), conflicted numbers (R112, R113) and the change of own number (R114). -/

namespace Sys2Proof.Machine

/-! ### Add marks (R110) -/

/-- An add mark: the time is taken, and every refresh count becomes 0. -/
def addMark (s : State) : State :=
  s.withPtb { s.ptb with
    addMark := some s.localTime
    entries := s.ptb.entries.map fun e => { e with refresh := 0 } }

/-! ### The own report record -/

/-- The measured part of the own record from the latest record (R103). -/
def State.measured (s : State) : OwnMeasured :=
  match s.cme.record with
  | none => { line := .unknown, bus := .unknown, fLine := none, fBus := none, load := none, theta := none }
  | some r => { line := r.line, bus := r.bus, fLine := r.fLine, fBus := r.fBus, load := r.load, theta := r.theta }

/-- Slip in a report: f_line - f_bus when both are present (R103). -/
def OwnMeasured.slip (m : OwnMeasured) : Option Int :=
  match m.fLine, m.fBus with
  | some l, some b => some (l - b)
  | _, _ => none

/-- A last-run record as a report carries it. -/
def LastRun.toReport (r : LastRun) : ReportRun := { circuit := some r.circuit, outcome := some r.outcome, time := r.time }

/-- The element number and detail of a trip cause. -/
def TripCause.bytes (c : TripCause) : Byte × Byte := (BitVec.ofNat 8 (elementNumber c.element), c.detail)

/-- The fields of the own report but the service state (R102, R103). -/
def State.reportBody (s : State) (st : Settings) : ReportBody :=
  let b := s.ptb.ownBreaker.getD s.breakerReport
  let q := s.ptb.ownSequence.getD s.sequence
  let m := s.ptb.ownMeasured.getD
    { line := .unknown, bus := .unknown, fLine := none, fBus := none, load := none, theta := none }
  let retransfer := st.station.role == .incomer && q.state == .retransfer
  { role := st.station.role
    sections := st.station.sections
    clamped := s.ssc.clamped
    lockout := b.lockout
    bf := b.bf
    failedToClose := b.failedToClose
    stuckAlarm := b.stuckAlarm
    closeCircuitFault := b.closeCircuitFault
    driveReduced := s.cds.reduced
    eventsLost := s.sli.eventsLost
    breaker := some b.state
    line := m.line
    bus := m.bus
    lastTrip := b.lastTrip.map TripCause.bytes
    fLine := m.fLine
    fBus := m.fBus
    load := if st.station.role = .feeder then none else m.load
    ratedKw := if st.station.role = .generator then some st.station.ratedKw else none
    feeder := if st.station.role = .feeder then some (st.csq.priority, st.csq.expectedKw) else none
    csq := some q.state
    roleDetail := q.detail
    startFailed := q.startFailed
    blocked := q.blocked
    syncFailed := q.syncFailed
    claim := some (s.ptb.ownClaim.getD .none)
    theta := if retransfer then m.theta else none
    slip := if retransfer then m.slip else none
    pickedUp := s.pes.pickedUpSet
    operated := s.pes.operatedSet
    held := s.pes.heldFlag
    tripCircuit := some s.cds.tripResult
    closeCircuit := some s.cds.closeResult
    lastRun := s.cds.lastRun.map LastRun.toReport
    recordsHeld := s.drc.records.length
    full := s.drc.full
    newestSeq := s.drc.newest
    echo := s.sli.echo.body
    echoCount := s.sli.echo.count
    echoDetail := s.sli.echo.detail
    counters := s.sli.counters }

/-- The report built from the own record (R105). -/
def State.report (s : State) : Report :=
  let service := s.ptb.ownService.getD s.ssc.station
  { service := service
    body := if service = .settingsFault then none else s.settings.map fun st => s.reportBody st }

/-- A REPORT is placed, and the report timer starts again (R104); in START the PTB places nothing. DESIGN CHOICE (unsafe;
notes/assumptions/60): the report is built before its placing counts an overrun, so it carries the count without it. -/
def placeReport (s : State) : State :=
  if s.ssc.station = .start then s
  else (s.withSli (s.sli.placeReport s.report)).withPtb { s.ptb with reportTimer := s.after 20 }

/-- REPORT_TIMER_EXPIRY (R104). -/
def execReportTimerExpiry (s : State) : Outcome := done s (expire s.ptb.reportTimer s placeReport)

/-- PTB_MEASURED_UPDATE (R103). -/
def execPtbMeasuredUpdate (s : State) : Outcome :=
  done s <|
    let s' := s.take .ptbRecord
    match s'.cme.record with
    | none => s'
    | some _ => s'.withPtb { s'.ptb with ownMeasured := some s'.measured }

/-- The BKC's part taken: breaker state, lockout and BF flag are three of the six fields (R104); a passage into CLOSED
is an add mark (R110), and the group view is published (R119). -/
def takeBreaker (s : State) : State :=
  let new := s.breakerReport
  let closes := s.ptb.ownBreaker.any (fun b => b.state != .closed) && new.state == .closed
  let triggers := s.ptb.ownBreaker.all fun b => b.state != new.state || b.lockout != new.lockout || b.bf != new.bf
  let s1 := s.withPtb { s.ptb with ownBreaker := some new }
  let s2 := if closes then addMark s1 else s1
  (if triggers then placeReport s2 else s2).publishView

/-- The CSQ's part taken. -/
def takeSequence (s : State) : State :=
  let new := s.sequence
  let triggers := s.ptb.ownSequence.all fun q => q.state != new.state
  let s1 := s.withPtb { s.ptb with ownSequence := some new }
  if triggers then placeReport s1 else s1

/-- The SYN's part taken. -/
def takeClaim (s : State) : State :=
  let new := s.syn.claimField
  let triggers := s.ptb.ownClaim.all fun c => c != new
  let s1 := s.withPtb { s.ptb with ownClaim := some new }
  if triggers then placeReport s1 else s1

/-- The SSC's part taken. -/
def takeService (s : State) : State :=
  let new := s.ssc.station
  let triggers := s.ptb.ownService.all fun x => x != new
  let s1 := s.withPtb { s.ptb with ownService := some new }
  if triggers then placeReport s1 else s1

/-- PTB_SOURCE_PUBLICATION (R102, R104). -/
def execPtbSourcePublication (source : Source) (s : State) : Outcome :=
  done s <|
    let s' := s.take (.ptb source)
    if s'.ssc.station = .start then s'
    else
      match source with
      | .bkc => takeBreaker s'
      | .csq => takeSequence s'
      | .syn => takeClaim s'
      | .ssc => takeService s'

/-! ### Entries -/

/-- An entry set to new contents. -/
def State.setEntry (s : State) (n : StationNo) (e : Entry) : State :=
  s.withPtb { s.ptb with entries := s.ptb.entries.set n e }

/-- A CONFLICTED entry whose cleared flag is clear takes no report and no claim frame (R107, R111). -/
def Entry.barred (e : Entry) : Bool := e.state == .conflicted && e.conflict.all fun c => !c.cleared

/-- Whether a report shows the breaker state CLOSED. -/
def Report.closed (r : Report) : Bool := r.body.any fun b => b.breaker == some .closed

/-- Whether an entry's report contents show the breaker state CLOSED. -/
def Entry.showsClosed (e : Entry) : Bool := e.breaker == some .closed

/-- The breaker-closed time after a report (R109, R112). DESIGN CHOICE (unsafe; notes/assumptions/41): a report whose
breaker state is absent shows no CLOSED, so that the time becomes absent. -/
def Entry.closedTimeAfter (e : Entry) (r : Report) (now : Time) : Option Time :=
  if r.closed then if e.showsClosed && e.closedTime.isSome then e.closedTime else some now else none

/-- Whether a report is an add mark (R110). -/
def Entry.marks (e : Entry) (r : Report) : Bool :=
  r.closed && r.body.any (fun b => b.role == .feeder) && !e.showsClosed

/-- The entry after a report taken at a local time (R107, R109, R110). DESIGN CHOICE (unsafe; notes/assumptions/41): a
report whose claim field is absent leaves the entry's claim field NONE. -/
def Entry.take (e : Entry) (r : Report) (now : Time) : Entry :=
  { state := .fresh
    report := some r
    reportTime := some now
    freshTimer := some (now + 60)
    lossTimer := some (now + 1000)
    closedTime := e.closedTimeAfter r now
    refresh := min 255 (e.refresh + 1)
    claim := (r.body.bind fun b => b.claim).getD .none
    conflict := none }

/-- A report taken into its entry (R107). -/
def takeReport (n : StationNo) (r : Report) (s : State) : State :=
  if (s.entry n).barred then s
  else
    let s1 := if (s.entry n).marks r then addMark s else s
    (s1.setEntry n ((s1.entry n).take r s1.localTime)).publishView

/-- The claim field set by a claim frame (R111). -/
def claimFrame (n : StationNo) (c : ClaimField) (s : State) : State :=
  if (s.entry n).barred then s else (s.setEntry n { s.entry n with claim := c }).publishView

/-- FRESHNESS_TIMER_EXPIRY (R108). -/
def execFreshnessTimerExpiry (n : StationNo) (s : State) : Outcome :=
  done s <| expire (s.entry n).freshTimer s fun s =>
    let e := s.entry n
    (s.setEntry n { e with freshTimer := none, state := if e.state = .fresh then .stale else e.state }).publishView

/-- LOSS_TIMER_EXPIRY (R108). -/
def execLossTimerExpiry (n : StationNo) (s : State) : Outcome :=
  done s <| expire (s.entry n).lossTimer s fun s =>
    let e := s.entry n
    (s.setEntry n { e with
      lossTimer := none, freshTimer := none, state := if e.present then .lost else e.state }).publishView

/-! ### Conflicted numbers (R112, R113) -/

/-- The marking of an entry by a CONFLICT frame at a local time. -/
def Entry.markConflict (e : Entry) (now : Time) : Entry :=
  { e with
    state := .conflicted, freshTimer := none, lossTimer := none, closedTime := none, claim := .none
    conflict := some { time := now, cleared := false, clearTimer := some (now + 5000) } }

/-- A CONFLICT frame naming another number (R112). -/
def conflictFrame (n : StationNo) (s : State) : State :=
  ((s.setEntry n ((s.entry n).markConflict s.localTime)).send (.pesConflict n)).publishView

/-- The clear of a CONFLICTED entry (R113). -/
def clearConflict (n : StationNo) (s : State) : State :=
  let e := s.entry n
  if e.state = .conflicted then
    (s.setEntry n { e with
      conflict := e.conflict.map fun c => { c with cleared := true, clearTimer := none } }).publishView
  else s

/-- CONFLICT_CLEAR_EXPIRY (R113). -/
def execConflictClearExpiry (n : StationNo) (s : State) : Outcome :=
  done s (expire ((s.entry n).conflict.bind fun c => c.clearTimer) s (clearConflict n))

/-- The PTB takes a new own number (R114); with the number kept, the entries stand. -/
def renumber (old new : StationNo) (s : State) : State :=
  if old = new then s else ((s.setEntry old Entry.empty).setEntry new Entry.empty).publishView

end Sys2Proof.Machine
end

