-- ==== Sys2Proof/Machine/Protection.lean ====
section
/-! DEFINITION. The Protection Element Set: the definite-time elements (R26 to R29), the inverse-time element (R30 to
R32), external trip (R33), breaker-failure transfers (R34 to R36), trip claims, test operations and pickups (R37 to
R42). -/

namespace Sys2Proof.Machine

/-! ### Definite-time elements -/

/-- The levels of a definite-time element: whether it is an over-element, its pickup and dropout levels, and its
delay setting (R24, R26). -/
structure Definite where
  above : Bool
  pickup : Int
  dropout : Int
  delay : Nat
deriving DecidableEq, Repr

/-- An over-element on an RMS quantity, with the dropout 1/20 below its pickup. -/
def Definite.rmsOver (pu delay : Nat) : Definite :=
  { above := true, pickup := pu, dropout := (pu : Int) - (pu / 20 : Nat), delay := delay }

/-- The table of R26; elements 1, 2 and 5 are none of its rows. -/
def PesSettings.definite (p : PesSettings) : ElementNo → Option Definite
  | .e3 => some (Definite.rmsOver p.pu3 p.delay3)
  | .e4 => some (Definite.rmsOver p.pu4 p.delay4)
  | .e6 =>
    some { above := false, pickup := -p.rpPm, dropout := -(p.rpPm : Int) + (p.rpPm / 20 : Nat), delay := p.delay6 }
  | .e7 => some { above := false, pickup := p.pu7, dropout := p.pu7 + (p.pu7 / 20 : Nat), delay := p.delay7 }
  | .e8 => some (Definite.rmsOver p.pu8 p.delay8)
  | .e9 => some { above := false, pickup := p.pu9, dropout := p.pu9 + 20, delay := p.delay9 }
  | .e10 => some { above := true, pickup := p.pu10, dropout := (p.pu10 : Int) - 20, delay := p.delay10 }
  | .e1 | .e2 | .e5 => none

/-- A quantity formed from three fields, present when all three are. -/
def three (f : Nat → Nat → Nat) (a b c : Option Nat) : Option Int :=
  match a, b, c with
  | some x, some y, some z => some (f x (f y z) : Nat)
  | _, _, _ => none

/-- The quantity of a definite-time element in a record (R26, R28). -/
def Record.quantity (r : Record) : ElementNo → Option Int
  | .e3 => three max r.rms[4] r.rms[5] r.rms[6]
  | .e4 => r.rms[7].map fun v => (v : Int)
  | .e6 => r.load
  | .e7 => three min r.rms[0] r.rms[1] r.rms[2]
  | .e8 => three max r.rms[0] r.rms[1] r.rms[2]
  | .e9 | .e10 => r.fLine
  | .e1 | .e2 | .e5 => none

/-- The pickup condition holds. -/
def Definite.holds (d : Definite) (q : Int) : Bool := if d.above then decide (d.pickup ≤ q) else decide (q ≤ d.pickup)

/-- The dropout level is crossed. -/
def Definite.drops (d : Definite) (q : Int) : Bool := if d.above then decide (q < d.dropout) else decide (d.dropout < q)

/-- One step of an element that is neither held nor blocked (the table of R27). -/
def Definite.step (d : Definite) (q : Int) (x : Element) : Element :=
  match x.state with
  | .dropped =>
    if d.holds q then { state := if d.delay = 0 then .operated else .pickedUp, counter := 1, held := false }
    else Element.reset
  | .pickedUp =>
    if d.drops q then Element.reset
    else { state := if x.counter + 1 = d.delay + 1 then .operated else .pickedUp, counter := x.counter + 1,
           held := false }
  | .operated => if d.drops q then Element.reset else { x with held := false }

/-- R29: elements 6 to 10 with the action TRIP are blocked while the breaker is anything but CLOSED. -/
def blocked (st : Settings) (breaker : BreakerState) (e : ElementNo) : Bool :=
  decide (6 ≤ elementNumber e) && st.pes.action e == .trip && breaker != .closed

/-- One definite-time element at a cycle evaluation (R27, R28, R29). -/
def stepDefinite (st : Settings) (breaker : BreakerState) (r : Record) (e : ElementNo) (x : Element) : Element :=
  if !st.inService e then x
  else if blocked st breaker e then Element.reset
  else
    match st.pes.definite e, r.quantity e with
    | some d, some q => if r.warmup then { x with held := true } else d.step q x
    | _, _ => { x with held := true }

/-! ### The inverse-time element -/

/-- One phase that is not held (R30, R31). -/
def Phase.step (p : PesSettings) (ms : Nat) (x : Phase) : Phase :=
  let msc := min ms p.clampLimit
  if p.pu5Squared < msc then
    let a := min (x.acc + (msc - p.pu5Squared)) p.accFull
    { acc := a, state := if a = p.accFull then .operated else .timing }
  else
    let a := x.acc - p.decayStep
    { acc := a, state := if a = 0 then .idle else .decaying }

/-- A phase is held when the record is WARMUP or its MS is absent (R32). -/
def phaseHeld (r : Record) (ms : Option Nat) : Bool := r.warmup || ms.isNone

/-- One phase at an evaluation. -/
def stepPhase (p : PesSettings) (r : Record) (ms : Option Nat) (x : Phase) : Phase :=
  if r.warmup then x
  else
    match ms with
    | none => x
    | some v => x.step p v

/-- The state of element 5 from its phases (R31). -/
def phasesState (ps : Vector Phase 3) : ElState :=
  if ps.toList.any fun x => x.state == .operated then .operated
  else if ps.toList.any fun x => x.state == .timing then .pickedUp
  else .dropped

/-- The phases of element 5 after an evaluation. -/
def stepPhases (p : PesSettings) (r : Record) (ps : Vector Phase 3) : Vector Phase 3 :=
  #v[stepPhase p r r.ms[4] ps[0], stepPhase p r r.ms[5] ps[1], stepPhase p r r.ms[6] ps[2]]

/-- Element 5 after an evaluation, given its phases after it (R31, R32). -/
def element5 (r : Record) (ps : Vector Phase 3) : Element :=
  { state := phasesState ps, counter := 0,
    held := phaseHeld r r.ms[4] || phaseHeld r r.ms[5] || phaseHeld r r.ms[6] }

/-- The element set after a cycle evaluation (R27 to R32): elements 1 and 2 stand as they are. -/
def Pes.evaluate (st : Settings) (breaker : BreakerState) (r : Record) (x : Pes) : Pes :=
  let ps := if st.inService .e5 then stepPhases st.pes r x.phases else x.phases
  let d := fun e => stepDefinite st breaker r e (x.el e)
  { x with
    phases := ps
    elements := #v[x.el .e1, x.el .e2, d .e3, d .e4,
      if st.inService .e5 then element5 r ps else x.el .e5, d .e6, d .e7, d .e8, d .e9, d .e10] }

/-! ### Trips, test operations and pickups -/

/-- Phases a, b and c as bits 2..0 (R207). -/
def phaseByte (a b c : Bool) : Byte := 0#5 ++ bit1 c ++ bit1 b ++ bit1 a

/-- An RMS at or above a pickup. -/
def atOrAbove (pu : Nat) (x : Option Nat) : Bool := x.any fun v => decide (pu ≤ v)

/-- The cause detail of a cycle evaluation (R37). -/
def causeDetail (p : PesSettings) (r : Record) (x : Pes) : ElementNo → Byte
  | .e3 => phaseByte (atOrAbove p.pu3 r.rms[4]) (atOrAbove p.pu3 r.rms[5]) (atOrAbove p.pu3 r.rms[6])
  | .e5 =>
    phaseByte (x.phases[0].state == .operated) (x.phases[1].state == .operated) (x.phases[2].state == .operated)
  | _ => 0

/-- The elements with the action TRIP that operated between two element sets, in rising order. -/
def newlyOperated (st : Settings) (x y : Pes) : List ElementNo :=
  allElements.filter fun e =>
    (x.el e).state != .operated && (y.el e).state == .operated && st.pes.action e == .trip

/-- The elements that passed from DROPPED to picked up, in rising order (R42). -/
def newlyPickedUp (x y : Pes) : List ElementNo :=
  allElements.filter fun e => (x.el e).state == .dropped && (y.el e).isPickedUp

/-- A trip claim of the PES and its four effects (R38), or in TEST the test operation of R40. -/
def operate (station : StationState) (c : TripCause) (s : State) : State :=
  if station = .test then s.send (.drcTrigger .trip c.element)
  else
    tellTrip
      (((s.withSli (s.sli.placeNotice c)).send (.tripClaim c.element c.detail)).send (.drcTrigger .trip c.element))

/-- The end of a PES event: the trip claim or test operation, else the pickup trigger (R42). -/
def pesFinish (station : StationState) (before : Pes) (claim : Option TripCause) (s : State) : State :=
  match claim, newlyPickedUp before s.pes with
  | some c, _ => operate station c s
  | none, e :: _ => s.send (.drcTrigger .pickup e)
  | none, [] => s

/-- The PES publishes after each of its events (R22, R157); the publication says whether the event was a cycle
evaluation. -/
def publishPes (afterCycle : Bool) (s : State) : State := s.notify (.csqPes afterCycle)

/-- PES_CYCLE_EVALUATION (R27, R37); the CSQ evaluates its source monitor at the publication that follows (R160). -/
def execPesCycleEvaluation (s : State) : Outcome :=
  done s <| (s.take .pesRecord).inForce fun st s =>
    match s.cme.record with
    | none => s
    | some r =>
      if s.ssc.station.protects then
        let x := s.pes.evaluate st s.bkc.state r
        let claim := (newlyOperated st s.pes x).head?.map fun e =>
          { element := e, detail := causeDetail st.pes r x e : TripCause }
        publishPes true (pesFinish s.ssc.station s.pes claim (s.withPes x))
      else s

/-! ### External trip -/

/-- One element set to new contents. -/
def Pes.set (x : Pes) (e : ElementNo) (v : Element) : Pes := { x with elements := x.elements.set (elementIdx e) v }

/-- An element that operates at an event of its own. -/
def Element.operatedNow : Element := { state := .operated, counter := 0, held := false }

/-- Element 1 takes the debounced level of EXT_TRIP (R33); `before` is the element set before the event. -/
def takeExtTrip (station : StationState) (before : Pes) (st : Settings) (s : State) : State :=
  if !st.inService .e1 then pesFinish station before none s
  else if s.input .extTrip then
    if (s.pes.el .e1).state = .dropped then
      pesFinish station before (some { element := .e1, detail := 0 }) (s.withPes (s.pes.set .e1 Element.operatedNow))
    else pesFinish station before none s
  else pesFinish station before none (s.withPes (s.pes.set .e1 Element.reset))

/-- A change of the debounced EXT_TRIP, disregarded while protection is inactive (R25, R33). -/
def extTripChange (s : State) : State :=
  s.inForce fun st s =>
    if s.ssc.station.protects then publishPes false (takeExtTrip s.ssc.station s.pes st s) else s

/-- A passage between two station states: one into or out of TEST re-initializes the element set; one from an inactive to
an active state takes EXT_TRIP; in an inactive state every element has its reset value (R25, R41). -/
def takePassage (fromState toState : StationState) (st : Settings) (s : State) : State :=
  if !toState.protects then s.withPes Pes.reset
  else if fromState = .test ∨ toState = .test then takeExtTrip toState s.pes st (s.withPes Pes.reset)
  else if !fromState.protects then takeExtTrip toState s.pes st s
  else s

/-- PES_STATION_STATE_CHANGE (R25, R41). -/
def execPesStationStateChange (fromState toState : StationState) (s : State) : Outcome :=
  done s <| (s.take (.pesStation fromState toState)).inForce fun st s =>
    if fromState = toState then s else publishPes false (takePassage fromState toState st s)

/-! ### Breaker-failure transfers -/

/-- A transfer is in scope for this station (R34). -/
def inScope (st : StationSettings) (sections : SectionSet) : Bool :=
  match st.role with
  | .tie => true
  | .incomer | .generator => st.sections.overlaps sections
  | .feeder => false

/-- Whether a station is in the transfer set. -/
def Pes.hasOrigin (x : Pes) (n : StationNo) : Bool := x.transfers.any fun o => o.station == n

/-- A transfer set with a place for one more origin: it is at most 30 long (R34). There are 30 other stations, so that 30
origins without the new one include one that bears the own number, which an ASSIGN_NUMBER gave this station since.
DESIGN CHOICE (unsafe; notes/assumptions/38): that origin makes room. -/
def roomForOrigin (own : StationNo) (xs : List Origin) : List Origin :=
  if xs.length < 30 then xs else (xs.filter fun o => o.station != own).take 29

/-- A transfer shown by a notice or by a report (R34). DESIGN CHOICE (unsafe; notes/assumptions/38): an origin that bears
the own number after an ASSIGN_NUMBER stays in the set until it expires or makes room for another. -/
def takeTransfer (st : Settings) (n : StationNo) (sections : SectionSet) (s : State) : State :=
  if s.pes.hasOrigin n then
    pesFinish s.ssc.station s.pes none <| s.withPes { s.pes with
      transfers := s.pes.transfers.map fun o => if o.station = n then { o with confirmed := s.localTime } else o }
  else if inScope st.station sections then
    let x := { s.pes with
      transfers := roomForOrigin s.sli.ownNumber s.pes.transfers ++
        [{ station := n, sections := sections, confirmed := s.localTime }] }
    if (s.pes.el .e2).state = .dropped then
      pesFinish s.ssc.station s.pes (some { element := .e2, detail := BitVec.ofNat 8 n.val })
        (s.withPes (x.set .e2 Element.operatedNow))
    else pesFinish s.ssc.station s.pes none (s.withPes x)
  else s

/-- Whether element 2 takes notices and reports (R34, R35). -/
def State.takesTransfers (s : State) (st : Settings) : Bool := s.ssc.station.protects && st.inService .e2

/-- A BF_TRANSFER notice at the PES (R34). -/
def transferNotice (n : StationNo) (sections : SectionSet) (s : State) : State :=
  s.inForce fun st s => if s.takesTransfers st then publishPes false (takeTransfer st n sections s) else s

/-- An origin leaves the transfer set; with the last one element 2 drops (R35). -/
def removeOrigin (n : StationNo) (s : State) : State :=
  if s.pes.hasOrigin n then
    let rest := s.pes.transfers.filter fun o => o.station != n
    let x := { s.pes with transfers := rest }
    s.withPes (if rest.isEmpty then x.set .e2 Element.reset else x)
  else s

/-- A recorded report at the PES (R35); a report without its BF flag shows neither BF set nor BF clear. -/
def transferReport (n : StationNo) (body : Option ReportBody) (s : State) : State :=
  s.inForce fun st s =>
    match body with
    | none => s
    | some b =>
      if s.takesTransfers st then
        publishPes false
          (if b.bf then takeTransfer st n (if b.role = .tie then SectionSet.both else b.sections) s
           else removeOrigin n s)
      else s

/-- PES_CONFLICT_MARKING: the PTB marked the origin's entry CONFLICTED (R35). -/
def execPesConflictMarking (n : StationNo) (s : State) : Outcome :=
  done s (publishPes false (removeOrigin n (s.take (.pesConflict n))))

/-- The origin of the transfer set with a station's number. -/
def Pes.origin (x : Pes) (n : StationNo) : Option Origin := x.transfers.find? fun o => o.station == n

/-- TRANSFER_ORIGIN_EXPIRY: 1000 ms have passed from an origin's confirmation (R35). -/
def execTransferOriginExpiry (n : StationNo) (s : State) : Outcome :=
  done s (expire ((s.pes.origin n).map fun o => o.confirmed + 1000) s fun s => publishPes false (removeOrigin n s))

end Sys2Proof.Machine
end

