-- ==== Sys2Proof/Machine/Link.lean ====
section
/-! DEFINITION. The Station Link Interface: the choice and the end of a frame (R83 to R86, R90 to R92), the reception
filter (R88, R89) and presence and address conflict (R96 to R98). -/

namespace Sys2Proof.Machine

/-! ### Frames sent -/

/-- After START the SLI is at work (R83). -/
def State.onLine (s : State) (act : State → State) : State := if s.ssc.station = .start then s else act s

/-- LINE_FREE (R83, R91): the line is free from now on, and the frame of the item that waits begins with the end of the
command. -/
def execLineFree (s : State) : Outcome :=
  done s <| s.onLine fun s =>
    if s.sli.flight.isNone then s.withSli { s.sli with watching := true, lineFree := true } else s

/-- The item in flight leaves its slot or queue; a slot that was given another item keeps it (R91). -/
def Sli.leave (l : Sli) (f : Flight) : Sli :=
  match f.slot with
  | .events => { l with events := l.events.tail }
  | .data => { l with data := l.data.tail }
  | slot =>
    if f.replaced then l
    else
      match slot with
      | .bf => { l with bfSlot := none }
      | .notice => { l with noticeSlot := none }
      | .claim => { l with claimSlot := none }
      | .report => { l with reportSlot := none }
      | .presence => { l with presenceSlot := none }
      | .events => l
      | .data => l

/-- The frame in flight ends: nothing is in flight, and the line is not yet free again. -/
def Sli.land (l : Sli) : Sli := { l with flight := none, lineFree := false }

/-- The item in flight is the CLAIM of the claim slot. -/
def Sli.carriesClaim (l : Sli) (f : Flight) : Bool :=
  f.slot == .claim && !f.replaced &&
    match l.claimSlot with
    | some (.claim _) => true
    | _ => false

/-- The item in flight leaves, and a CLAIM that leaves is told to the SYN (R91, R133). -/
def leaveFlight (f : Flight) (s : State) : State :=
  let s' := s.withSli (s.sli.leave f).land
  if s.sli.carriesClaim f then claimLeft s' else s'

/-- FRAME_COMPLETED (R91); a REPORT that carried EVENTS_LOST clears it (R92). -/
def execFrameCompleted (s : State) : Outcome :=
  done s <| s.onLine fun s =>
    match s.sli.flight with
    | none => s
    | some f =>
      let s' := leaveFlight f s
      s'.withSli { s'.sli with eventsLost := s'.sli.eventsLost && !f.carriesLost }

/-- TRANSMIT_BIT_ERROR (R86): the frame is abandoned and its item leaves. -/
def execTransmitBitError (s : State) : Outcome :=
  done s <| s.onLine fun s =>
    match s.sli.flight with
    | none => s
    | some f =>
      let s' := leaveFlight f s
      s'.withSli { s'.sli with
        counters := { s'.sli.counters with txErrors := stopAt65535 s'.sli.counters.txErrors } }

/-! ### Address conflict (R96 to R98) -/

/-- A PRESENCE or CONFLICT frame is placed. -/
def Sli.placePresence (l : Sli) (x : PresenceItem) : Sli := { l.touch .presence with presenceSlot := some x }

/-- The SLI enters conflict: every slot and queue is emptied, nothing is in flight, and a CONFLICT frame is placed
(R97). -/
def Sli.enterConflict (l : Sli) (timer : Timer) : Sli :=
  { l with
    bfSlot := none, noticeSlot := none, claimSlot := none, reportSlot := none, events := [], data := [],
    flight := none, presenceSlot := some (.conflict l.ownNumber), conflict := some l.ownNumber,
    conflictTimer := timer, presenceTimer := none, presenceLeft := 0 }

/-- The SSC is told of a conflict (R199). -/
def Ssc.enterConflict (c : Ssc) : Ssc :=
  if c.station = .settingsFault then c else { c with station := .addressConflict, returnState := some c.station }

/-- A detection of an address conflict (R97); one made while the SLI is in conflict changes nothing. -/
def enterConflict (s : State) : State :=
  if s.sli.conflict.isSome then s
  else (s.withSli (s.sli.enterConflict (s.after 1000))).withSsc s.ssc.enterConflict

/-- CONFLICT_TIMER_EXPIRY (R98). -/
def execConflictTimerExpiry (s : State) : Outcome :=
  done s <| expire s.sli.conflictTimer s fun s =>
    match s.sli.conflict with
    | none => s
    | some n => s.withSli { s.sli.placePresence (.conflict n) with conflictTimer := s.after 1000 }

/-- PRESENCE_REPEAT_TIMER (R96). -/
def execPresenceRepeatTimer (s : State) : Outcome :=
  done s <| expire s.sli.presenceTimer s fun s =>
    s.withSli { s.sli.placePresence .presence with
      presenceLeft := s.sli.presenceLeft - 1
      presenceTimer := if 1 < s.sli.presenceLeft then s.after 20 else none }

/-- ARBITRATION_LOST (R85, R91): the item stays, but for one that was replaced; a PRESENCE frame beaten inside its
identity is a conflict (R97). -/
def execArbitrationLost (inIdentity : Bool) (s : State) : Outcome :=
  done s <| s.onLine fun s =>
    match s.sli.flight with
    | none => s
    | some f =>
      let s' := s.withSli s.sli.land
      if inIdentity && f.slot == .presence && s.sli.conflict.isNone then enterConflict s' else s'

/-! ### Reception (R83, R88, R89) -/

/-- The frame in flight is of this slot, and the slot has been given another item or emptied since it began. -/
def Sli.replacedIn (l : Sli) (slot : Slot) : Bool := l.flight.any fun f => f.slot == slot && f.replaced

/-- The claim slot once the frame in flight is taken back: a CLAIM that was given up meanwhile had not begun, so that it
leaves an empty slot, and no CLAIM_WITHDRAW is sent (R135). -/
def Sli.claimHeardOver (l : Sli) : Option ClaimItem :=
  if l.replacedIn .claim && l.claimSlot == some .withdraw then none else l.claimSlot

/-- A report that was placed over a waiting one shows fewer overruns than its own placing left (notes/assumptions/60);
one more overrun before its placing raises the count that it shows (R100, R105). -/
def ReportBody.recount (b : ReportBody) (stands : BitVec 16) : ReportBody :=
  { b with counters := b.counters.overrun (b.counters.overruns != stands) }

/-- The report slot once the frame in flight is taken back: a report that took the place of the one in flight did replace
an unsent one, so that any report placed over it since was built with that overrun counted (R91, R100, R105). -/
def Sli.reportHeardOver (l : Sli) : Option Report :=
  if l.replacedIn .report then
    l.reportSlot.map fun r => { r with body := r.body.map fun b => b.recount l.counters.overruns }
  else l.reportSlot

/-- A frame of another station was on the line, which is not yet free again. A frame that this station had begun since the
line was free had in truth found the line busy (R83). DESIGN CHOICE (unsafe; notes/assumptions/49): it is taken back here,
and what was decided meanwhile by its being in flight is put right. Its item waits for the line to be free again, a
report that took its place did replace an unsent one (R91, R100) and a report placed since shows that, and a CLAIM given
up leaves no frame (R135). -/
def Sli.hear (l : Sli) : Sli :=
  { l.land with
    claimSlot := l.claimHeardOver, reportSlot := l.reportHeardOver
    counters := l.counters.overrun (l.replacedIn .report) }

/-- The link has heard a frame. -/
def State.heard (s : State) : State := s.withSli s.sli.hear

/-- A frame is heard, unless it began before the line was first free after START: of such a frame the station takes no
part (R83). -/
def State.hearing (s : State) (act : State → State) : State :=
  s.onLine fun s => if s.sli.watching then act s.heard else s

/-- A count of discarded frames rises (R88, R100). -/
def Counters.discard (k : Counters) : DiscardCount → Counters
  | .crc => { k with rxCrc := stopAt65535 k.rxCrc }
  | .format => { k with rxFormat := stopAt65535 k.rxFormat }

/-- FRAME_DISCARDED: the count of the frame's first fault rises (R88). -/
def execFrameDiscarded (heard : List Byte) (s : State) : Outcome :=
  done s <|
    match discardFault heard with
    | none => s
    | some k => s.hearing fun s => s.withSli { s.sli with counters := s.sli.counters.discard k }

/-- The filter of R89 on a good frame that this station did not complete: one that bears the own number is entered
nowhere and is a conflict (R97); number 0 is no station's. -/
def filtered (sender : StationNo) (act : State → State) (s : State) : State :=
  s.hearing fun s => if sender = s.sli.ownNumber then enterConflict s else if sender = 0 then s else act s

/-- TRIP_NOTICE_RECEIVED: a peer trigger (R89, R183). -/
def execTripNoticeReceived (sender : StationNo) (_cause _detail : Byte) (s : State) : Outcome :=
  done s (filtered sender (peerTrigger sender) s)

/-- BF_TRANSFER_RECEIVED: element 2 (R34). -/
def execBfTransferReceived (sender : StationNo) (sections : Byte) (s : State) : Outcome :=
  done s (filtered sender (transferNotice sender (sectionsOfByte sections)) s)

/-- CLAIM_RECEIVED: the sender's entry and the yield rule (R111, R134, R139). DESIGN CHOICE (unsafe;
notes/assumptions/67): of the two blocks that take the frame, to which R89 gives no order, the PTB sets the entry first. -/
def execClaimReceived (sender : StationNo) (sections : Byte) (s : State) : Outcome :=
  done s <| filtered sender (fun s =>
    synClaimFrame sender (sectionsOfByte sections)
      (claimFrame sender (.claiming (sectionsOfByte sections)) s)) s

/-- CLAIM_WITHDRAW_RECEIVED (R111, R139). DESIGN CHOICE (unsafe; notes/assumptions/67): the PTB sets the entry first, to
which R89 gives no order with the SYN; a YIELDED SYN whose winner sends the frame thus judges its eligibility on the
view in which that claim is WITHDRAWN. -/
def execClaimWithdrawReceived (sender : StationNo) (s : State) : Outcome :=
  done s (filtered sender (fun s => synWithdrawFrame sender (claimFrame sender .withdrawn s)) s)

/-- A report at the PTB, and at the PES when it was recorded (R35, R107). -/
def reportHeard (sender : StationNo) (r : Report) (s : State) : State :=
  if (s.entry sender).barred then s else transferReport sender r.body (takeReport sender r s)

/-- REPORT_RECEIVED (R107). -/
def execReportReceived (sender : StationNo) (payload : Vector Byte 58) (s : State) : Outcome :=
  done s (filtered sender (reportHeard sender (decodeReport payload.toList)) s)

/-- INPUT_CHANGE_RECEIVED: not entered (R89). -/
def execInputChangeReceived (sender : StationNo) (_input _level : Byte) (_time : Time) (s : State) : Outcome :=
  done s (filtered sender (fun s => s) s)

/-- CAPTURE_TRIGGER_EVENT_RECEIVED: a peer trigger (R183). -/
def execCaptureTriggerEventReceived (sender : StationNo) (_seq : BitVec 16) (_kind _detail : Byte) (s : State) :
    Outcome :=
  done s (filtered sender (peerTrigger sender) s)

/-- DATA_RECEIVED: not entered (R89). -/
def execDataReceived (sender : StationNo) (_kind : Byte) (_payload : List Byte) (s : State) : Outcome :=
  done s (filtered sender (fun s => s) s)

/-- PRESENCE_RECEIVED: not entered; the filter makes the conflict check (R89, R97). -/
def execPresenceReceived (sender : StationNo) (_identity : BitVec 48) (s : State) : Outcome :=
  done s (filtered sender (fun s => s) s)

/-- A CONFLICT frame judged by its contested number (R89, R97, R112). DESIGN CHOICE (unsafe; notes/assumptions/51): a
contested-number byte of 0 or above 31 names no station, and the frame changes nothing but the line-free condition. -/
def conflictHeard (identity : BitVec 48) (contested : Byte) (s : State) : State :=
  if contested.toNat = 0 ∨ 31 < contested.toNat then s
  else if contested.toNat = s.sli.ownNumber.val then if identity = s.pins.identity then s else enterConflict s
  else conflictFrame (Fin.ofNat 32 contested.toNat) s

/-- CONFLICT_RECEIVED. -/
def execConflictReceived (identity : BitVec 48) (contested : Byte) (s : State) : Outcome :=
  done s (s.hearing (conflictHeard identity contested))

end Sys2Proof.Machine
end

