-- ==== Sys2Proof/Machine/Settings.lean ====
section
/-! DEFINITION. The settings image: its bytes, its field records, the table of fields with their ranges, the
judgement of R196 and the settings that a good image puts in force. -/

namespace Sys2Proof.Machine

/-! ### The image (R211) -/

/-- The byte of the settings memory at an offset. An offset the command does not spell reads as an unknown byte
(notes/assumptions/6). -/
def imageByte (image : List Byte) (i : Nat) : Byte := image.getD i (Config.unspelledImageByte i)

/-- The format code of the header. -/
def imageFormat (image : List Byte) : Nat := (read16 (imageByte image) 0).toNat

/-- The length of the header: every byte of the image, header and CRC included. -/
def imageLength (image : List Byte) : Nat := (read16 (imageByte image) 2).toNat

/-- A permitted length lies in 12..774 and exceeds 6 by a multiple of 6. -/
def lengthPermitted (len : Nat) : Bool := decide (12 ≤ len ∧ len ≤ 774) && (len - 6) % 6 == 0

/-- The last of the first `k` field records that carries the identifier `id`: its value when it is programmed. -/
def lastField (at' : Nat → Byte) (id : Nat) : Nat → Option Int
  | 0 => none
  | k + 1 =>
    if (at' (4 + 6 * k)).toNat = id then
      if at' (4 + 6 * k + 1) = 1 then some (read32 at' (4 + 6 * k + 2)).toInt else none
    else lastField at' id k

/-- The programmed value of a field, none when it is unprogrammed. -/
def imageField (image : List Byte) (id : Nat) : Option Int :=
  lastField (imageByte image) id ((imageLength image - 6) / 6)

/-- The bytes of the image that its CRC covers. -/
def imageCovered (image : List Byte) : List Byte := (List.range (imageLength image - 2)).map (imageByte image)

/-- Whether the CRC read agrees with the CRC computed (R196). -/
def imageCrcAgrees (image : List Byte) : Bool :=
  crc16 (imageCovered image) == read16 (imageByte image) (imageLength image - 2)

/-! ### The fields (R211) -/

/-- A number with its range, an enumerated field with the number of its values, or a mask. -/
inductive FieldKind where
  | number (lo hi : Int) | code (values : Int) | mask
deriving DecidableEq, Repr

/-- A row of the settings table: identifier, kind, and the roles that use the field. -/
structure FieldRow where
  id : Nat
  kind : FieldKind
  uses : List Role
deriving DecidableEq, Repr

/-- All roles. -/
def everyRole : List Role := [.incomer, .generator, .tie, .feeder]

/-- The roles with a synchronizer. -/
def sourceRoles : List Role := [.incomer, .generator, .tie]

/-- Station, measurement and service fields. -/
def stationRows : List FieldRow :=
  [⟨1, .code 4, everyRole⟩, ⟨2, .code 2, [.incomer, .generator, .feeder]⟩,
   ⟨4, .number 100 32767, everyRole⟩, ⟨5, .number 500 1000, everyRole⟩, ⟨6, .number 50 400, everyRole⟩,
   ⟨7, .number 1 2147483647, everyRole⟩, ⟨8, .number 1 65535, [.generator]⟩,
   ⟨9, .code 2, everyRole⟩, ⟨10, .number 2 20, everyRole⟩, ⟨11, .mask, everyRole⟩]

/-- Enables and actions of the protection elements. -/
def enableRows : List FieldRow :=
  [⟨16, .code 2, everyRole⟩, ⟨17, .code 2, everyRole⟩, ⟨18, .code 2, everyRole⟩, ⟨19, .code 2, everyRole⟩,
   ⟨20, .code 2, everyRole⟩, ⟨21, .code 2, [.generator]⟩, ⟨22, .code 2, everyRole⟩, ⟨23, .code 2, everyRole⟩,
   ⟨24, .code 2, everyRole⟩, ⟨25, .code 2, everyRole⟩,
   ⟨26, .code 3, everyRole⟩, ⟨27, .code 3, everyRole⟩, ⟨28, .code 3, everyRole⟩, ⟨29, .code 3, everyRole⟩]

/-- Pickups and delays. -/
def elementRows : List FieldRow :=
  [⟨30, .number 100 32767, everyRole⟩, ⟨31, .number 0 255, everyRole⟩,
   ⟨32, .number 50 32767, everyRole⟩, ⟨33, .number 0 255, everyRole⟩,
   ⟨34, .number 50 32767, everyRole⟩, ⟨35, .number 1 65535, everyRole⟩, ⟨36, .number 1 65535, everyRole⟩,
   ⟨37, .number 10 500, [.generator]⟩, ⟨38, .number 0 255, [.generator]⟩,
   ⟨39, .number 1 32767, everyRole⟩, ⟨40, .number 0 255, everyRole⟩,
   ⟨41, .number 1 32767, everyRole⟩, ⟨42, .number 0 255, everyRole⟩,
   ⟨43, .number 40000 70000, everyRole⟩, ⟨44, .number 0 255, everyRole⟩,
   ⟨45, .number 40000 70000, everyRole⟩, ⟨46, .number 0 255, everyRole⟩]

/-- Breaker, coils and synchronizer. -/
def breakerRows : List FieldRow :=
  [⟨48, .number 50 300, everyRole⟩, ⟨49, .number 50 500, everyRole⟩, ⟨50, .number 20 32767, everyRole⟩,
   ⟨51, .code 2, [.feeder]⟩, ⟨52, .code 3, everyRole⟩, ⟨53, .number 10 3600, everyRole⟩,
   ⟨54, .number 1 65535, everyRole⟩, ⟨55, .number 1 65535, everyRole⟩,
   ⟨56, .number 1 65535, everyRole⟩, ⟨57, .number 1 65535, everyRole⟩,
   ⟨60, .number 10 200, sourceRoles⟩, ⟨61, .number 10 1000, sourceRoles⟩, ⟨62, .number 100 3000, sourceRoles⟩,
   ⟨63, .number 20 300, sourceRoles⟩, ⟨64, .code 2, [.generator]⟩]

/-- Load sharing. -/
def shareRows : List FieldRow :=
  [⟨70, .number 0 4096, [.generator]⟩, ⟨71, .number 0 4096, [.generator]⟩, ⟨72, .number 0 4096, [.generator]⟩,
   ⟨73, .number 10 500, [.generator]⟩, ⟨74, .number (-500) 500, [.generator]⟩,
   ⟨75, .number 50 1000, [.generator]⟩, ⟨76, .number 50 1000, [.generator]⟩, ⟨77, .number 0 500, [.generator]⟩,
   ⟨78, .number 5 300, [.generator]⟩, ⟨79, .number 20 500, [.incomer, .generator]⟩]

/-- Changeover. -/
def changeoverRows : List FieldRow :=
  [⟨80, .number 100 30000, [.incomer]⟩, ⟨81, .number 10 1800, [.incomer]⟩, ⟨82, .code 2, [.incomer]⟩,
   ⟨83, .number 0 60, [.generator]⟩, ⟨84, .number 5 120, [.generator]⟩, ⟨85, .number 0 1800, [.generator]⟩,
   ⟨86, .code 2, [.tie]⟩, ⟨87, .code 2, [.feeder]⟩, ⟨88, .number 100 10000, [.feeder]⟩,
   ⟨89, .number 1 15, [.feeder]⟩, ⟨90, .number 0 65535, [.feeder]⟩, ⟨91, .number 0 65535, [.feeder]⟩,
   ⟨92, .number 500 30000, [.feeder]⟩, ⟨93, .number 500 2000, [.feeder]⟩, ⟨94, .number 500 30000, [.feeder]⟩,
   ⟨95, .number 500 30000, [.feeder]⟩]

/-- Recorder. -/
def recorderRows : List FieldRow :=
  [⟨100, .number 2 16, everyRole⟩, ⟨101, .number 4 64, everyRole⟩, ⟨102, .code 2, everyRole⟩,
   ⟨103, .mask, everyRole⟩, ⟨104, .mask, everyRole⟩, ⟨105, .code 2, everyRole⟩]

/-- The settings table of R211, but for fnom (identifier 3), which R212 treats by itself. DESIGN CHOICE (unsafe;
notes/assumptions/64): a set-or-clear field is held as a field of two codes, so that another value than 0 and 1 names no
value and takes the default (R196). -/
def fieldRows : List FieldRow :=
  stationRows ++ enableRows ++ elementRows ++ breakerRows ++ shareRows ++ changeoverRows ++ recorderRows

/-- Whether a programmed value lies outside its field: beyond its range, or a code that names no value. -/
def FieldKind.outside (k : FieldKind) (v : Int) : Bool :=
  match k with
  | .number lo hi => decide (v < lo ∨ hi < v)
  | .code n => decide (v < 0 ∨ n ≤ v)
  | .mask => false

/-- The value that a programmed value puts in force: the nearer limit of a number, the default of a code that names
no value (R196). -/
def FieldKind.settle (k : FieldKind) (dflt v : Int) : Int :=
  match k with
  | .number lo hi => clampInt lo hi v
  | .code n => if v < 0 ∨ n ≤ v then dflt else v
  | .mask => v

/-- The value in force of a field, from its programmed value: an unprogrammed field, and one that the role does not
use, take the default (R196). -/
def settledField (field : Nat → Option Int) (role : Role) (id : Nat) (dflt : Int) : Int :=
  match fieldRows.find? fun r => r.id == id with
  | none => dflt
  | some row =>
    if row.uses.contains role then
      match field id with
      | none => dflt
      | some v => row.kind.settle dflt v
    else dflt

/-- Whether some used field is brought to a limit or a default (R196). -/
def anyFieldOutside (field : Nat → Option Int) (role : Role) : Bool :=
  fieldRows.any fun row =>
    row.uses.contains role &&
      match field row.id with
      | none => false
      | some v => row.kind.outside v

/-! ### The settings in force -/

/-- fnom takes 50 for any programmed value other than 50 and 60 (R212). -/
def settledFnom (field : Nat → Option Int) : Nat := if field 3 = some 60 then 60 else 50

/-- CLAMPED by fnom. -/
def fnomOutside (field : Nat → Option Int) : Bool :=
  match field 3 with
  | none => false
  | some v => v != 50 && v != 60

/-- The default action of elements 7 to 10 by role (R23), as a code. -/
def defaultAction : Role → Int
  | .generator => 0
  | .incomer => 1
  | .tie | .feeder => 2

/-- The action of a code: TRIP, SOURCE, DISABLED. -/
def actionOfCode (c : Int) : Action := if c = 0 then .trip else if c = 1 then .source else .disabled

/-- The action in force: SOURCE on a station that is not an INCOMER is treated as DISABLED (R23). -/
def settledAction (field : Nat → Option Int) (role : Role) (id : Nat) : Action :=
  let a := actionOfCode (settledField field role id (defaultAction role))
  if a = .source ∧ role ≠ .incomer then .disabled else a

/-- The override of an action sets CLAMPED (R23, R196). -/
def actionOverridden (field : Nat → Option Int) (role : Role) : Bool :=
  role != .incomer && [26, 27, 28, 29].any fun id => settledField field role id (defaultAction role) == 1

/-- Rmin and Rmax of a circuit: Rmax is taken as Rmin + 1 when it is not greater, and Rmin 65535 is taken as 65534
(R73). -/
def settledPair (rmin rmax : Nat) : Nat × Nat :=
  if rmin = 65535 then (65534, 65535) else if rmax ≤ rmin then (rmin, rmin + 1) else (rmin, rmax)

/-- The station settings of an image. -/
def stationSettings (field : Nat → Option Int) (role : Role) : StationSettings :=
  let num (id : Nat) (dflt : Int) : Nat := (settledField field role id dflt).toNat
  { role := role
    sectionB :=
      match field 2 with
      | none => false
      | some v => if v = 0 then false else if v = 1 then true else Config.sectionOfUnknownCode v
    fnom := settledFnom field
    vnom := num 4 100
    livePm := num 5 850
    deadPm := num 6 200
    flp := (field 7).map fun _ => num 7 1
    ratedKw := num 8 1
    autoInService := num 9 0 == 0
    debounceMs := num 10 4
    changeMask := BitVec.ofInt 15 (settledField field role 11 32767) }

/-- The settings of the protection elements; the defaults of 39 to 46 follow VNOM and fnom in force (R212). -/
def pesSettings (field : Nat → Option Int) (role : Role) (vnom fnom : Nat) : PesSettings :=
  let num (id : Nat) (dflt : Int) : Nat := (settledField field role id dflt).toNat
  let enable (id : Nat) : BitVec 1 := bit1 (num id 1 == 1)
  { enables :=
      enable 25 ++ enable 24 ++ enable 23 ++ enable 22 ++ enable 21 ++ enable 20 ++ enable 19 ++ enable 18 ++
        enable 17 ++ enable 16
    action7 := settledAction field role 26
    action8 := settledAction field role 27
    action9 := settledAction field role 28
    action10 := settledAction field role 29
    pu3 := num 30 20000
    delay3 := num 31 0
    pu4 := num 32 2000
    delay4 := num 33 5
    pu5 := num 34 1000
    td := num 35 30
    rt := num 36 60
    rpPm := num 37 50
    delay6 := num 38 100
    pu7 := num 39 ((vnom * 800 / 1000 : Nat) : Int)
    delay7 := num 40 10
    pu8 := num 41 ((min (vnom * 1100 / 1000) 32767 : Nat) : Int)
    delay8 := num 42 10
    pu9 := num 43 ((fnom * 1000 - 1000 : Nat) : Int)
    delay9 := num 44 10
    pu10 := num 45 ((fnom * 1000 + 1000 : Nat) : Int)
    delay10 := num 46 10 }

/-- The drive level of a code. -/
def driveOfCode (c : Int) : DriveLevel := if c = 0 then .low else if c = 1 then .normal else .high

/-- The settings of breaker and coils. -/
def breakerSettings (field : Nat → Option Int) (role : Role) : BreakerSettings :=
  let num (id : Nat) (dflt : Int) : Nat := (settledField field role id dflt).toNat
  { closePulseMs := num 48 120
    bfMs := num 49 150
    bfpu := num 50 400
    lineVtFitted := num 51 0 == 1
    driveLevel := driveOfCode (settledField field role 52 1)
    diagPeriodS := num 53 60
    rminTrip := (settledPair (num 54 20) (num 55 1000)).1
    rmaxTrip := (settledPair (num 54 20) (num 55 1000)).2
    rminClose := (settledPair (num 56 20) (num 57 1000)).1
    rmaxClose := (settledPair (num 56 20) (num 57 1000)).2 }

/-- The override of a resistance pair sets CLAMPED (R73, R196). -/
def pairOverridden (field : Nat → Option Int) (role : Role) : Bool :=
  let num (id : Nat) (dflt : Int) : Nat := (settledField field role id dflt).toNat
  settledPair (num 54 20) (num 55 1000) != (num 54 20, num 55 1000) ||
    settledPair (num 56 20) (num 57 1000) != (num 56 20, num 57 1000)

/-- The settings of the synchronizer. -/
def synSettings (field : Nat → Option Int) (role : Role) : SynSettings :=
  let num (id : Nat) (dflt : Int) : Nat := (settledField field role id dflt).toNat
  { voltageWindow := num 60 50
    slipWindow := num 61 150
    angleWindow := num 62 1000
    tcMs := num 63 80
    positiveSlipOnly := num 64 1 == 1 }

/-- The settings of the load share controller. -/
def lscSettings (field : Nat → Option Int) (role : Role) : LscSettings :=
  let num (id : Nat) (dflt : Int) : Nat := (settledField field role id dflt).toNat
  { kp := num 70 256
    kf := num 71 64
    ks := num 72 128
    slipTarget := settledField field role 73 50
    retransferSlipTarget := settledField field role 74 50
    softRate := num 75 100
    unloadRate := num 76 200
    openThreshold := num 77 50
    unloadTimeoutS := num 78 30
    overlapLimitMs := num 79 100 }

/-- The settings of the changeover sequencer. -/
def csqSettings (field : Nat → Option Int) (role : Role) : CsqSettings :=
  let num (id : Nat) (dflt : Int) : Nat := (settledField field role id dflt).toNat
  { failureConfirmMs := num 80 2000
    retransferDelayS := num 81 300
    retransferClosed := num 82 1 == 1
    startDelayS := num 83 3
    startTimeS := num 84 20
    cooldownS := num 85 300
    tieAuto := num 86 0 == 1
    shedOnDeadBus := num 87 1 == 1
    shedDelayMs := num 88 500
    priority := num 89 8
    expectedKw := num 90 500
    reserveKw := num 91 0
    addSettleMs := num 92 2000
    shedThreshold := num 93 950
    overloadDelayMs := num 94 2000
    shedSettleMs := num 95 2000 }

/-- The settings of the recorder. -/
def drcSettings (field : Nat → Option Int) (role : Role) : DrcSettings :=
  let num (id : Nat) (dflt : Int) : Nat := (settledField field role id dflt).toNat
  let triggers : BitVec 8 := BitVec.ofInt 8 (settledField field role 103 15)
  { pre := num 100 4
    post := num 101 20
    keep := num 102 0 == 1
    enablePickup := triggers.getLsbD 0
    enableTrip := triggers.getLsbD 1
    enablePeer := triggers.getLsbD 2
    enableRequest := triggers.getLsbD 3
    enableGin := triggers.extractLsb' 4 4
    levelGin := BitVec.ofInt 4 (settledField field role 104 0)
    crossOut := num 105 1 == 1 }

/-- The settings of an image for a role. -/
def settingsOf (field : Nat → Option Int) (role : Role) : Settings :=
  let st := stationSettings field role
  { station := st
    pes := pesSettings field role st.vnom st.fnom
    brk := breakerSettings field role
    syn := synSettings field role
    lsc := lscSettings field role
    csq := csqSettings field role
    drc := drcSettings field role }

/-- CLAMPED: some field was brought to a limit or a default, or an owning block overrode a value (R196). -/
def settingsClamped (field : Nat → Option Int) (role : Role) : Bool :=
  anyFieldOutside field role || fnomOutside field || actionOverridden field role || pairOverridden field role

/-! ### The judgement (R196) -/

/-- The outcome of a read image. -/
inductive ImageJudgement where
  | good (settings : Settings) (clamped : Bool) | badCrc | badImage
deriving DecidableEq, Repr

/-- The role of a programmed known code. -/
def imageRole (field : Nat → Option Int) : Option Role :=
  match field 1 with
  | some v =>
    if v = 0 then some .incomer else if v = 1 then some .generator else if v = 2 then some .tie
    else if v = 3 then some .feeder else none
  | none => none

/-- The fields that a role requires to be programmed: section, VNOM, FLP on INCOMER and GENERATOR, rated kW on
GENERATOR. -/
def requiredProgrammed (field : Nat → Option Int) (role : Role) : Bool :=
  (field 2).isSome && (field 4).isSome &&
    (!(role == .incomer || role == .generator) || (field 7).isSome) &&
    (role != .generator || (field 8).isSome)

/-- R196: the first line that fails decides. -/
def judgeImage (image : List Byte) : ImageJudgement :=
  if imageFormat image ≠ 0x4620 then .badImage
  else if !lengthPermitted (imageLength image) then .badImage
  else if !imageCrcAgrees image then .badCrc
  else
    match imageRole (imageField image) with
    | none => .badImage
    | some role =>
      if requiredProgrammed (imageField image) role then
        .good (settingsOf (imageField image) role) (settingsClamped (imageField image) role)
      else .badImage

end Sys2Proof.Machine
end

