-- ==== Sys2Proof/Machine/Service.lean ====
section
/-! DEFINITION. The Station Service Controller: reset (R205), the settings image and the end of START (R195 to R197), the
way into service (R198, R199) and the cubicle inputs (R201, R202). -/

namespace Sys2Proof.Machine

/-! ### Reset -/

/-- RESET (R205, and the reset rule of every block): the straps and raw levels as first read after it; the identity
and the level of the over-temperature warning are not the reset's to change. -/
def execReset (straps : BitVec 5) (raw : Vector Bool 15) (s : State) : Outcome :=
  .next { State.ofPins { s.pins with straps := straps, raw := raw } with
    freeCount := s.freeCount, pending := s.pending }

/-! ### The end of START -/

/-- The own report record as its sources stand (R102, R120). -/
def takeOwnRecord (s : State) : State :=
  s.withPtb { s.ptb with
    ownBreaker := some s.breakerReport, ownSequence := some s.sequence, ownClaim := some s.syn.claimField,
    ownService := some s.ssc.station, ownMeasured := some s.measured }

/-- The debounced levels of the general inputs. -/
def State.generalLevels (s : State) : Vector Bool 4 :=
  #v[s.input .gin1, s.input .gin2, s.input .gin3, s.input .gin4]

/-- What the end of START does whichever state follows it: the share interval timer starts (R141), the recorder takes the
levels of the general inputs (R194), the own report record comes into force, an add mark is taken and the first
report is placed (R120). -/
def beginService (s : State) : State :=
  let s1 := s.withDrc { s.drc with gin := s.generalLevels }
  let s2 := takeOwnRecord (s1.withLsc { s1.lsc with shareTimer := s1.after 20 })
  (placeReport (addMark s2)).publishView

/-- START ends into SETTINGS_FAULT (R195, R197). -/
def enterSettingsFault (s : State) : State :=
  beginService (s.withSsc { s.ssc with station := .settingsFault, reading := false, readRetry := none })

/-- The BKC at the end of START: the breaker state from the contacts (R45), lockout from LOCKOUT_IN without a pulse
(R62). The SYN and the CSQ have seen the record so. -/
def startBreaker (s : State) : State :=
  let s1 := deriveBreaker s
  let s2 := s1.withBkc { s1.bkc with lockout := s1.input .lockoutIn }
  (s2.withSyn { s2.syn with lockoutSeen := s2.bkc.lockout }).withCsq { s2.csq with seenBreaker := s2.bkc.state }

/-- The PRESENCE frame of the entry into PRESENCE, and two more to come at 20 ms and 40 ms (R96). -/
def Sli.startPresence (l : Sli) (timer : Timer) : Sli :=
  { l.placePresence .presence with presenceTimer := timer, presenceLeft := 2 }

/-- START ends with a good image: the settings come into force, and the station state becomes PRESENCE (R195). -/
def enterPresence (st : Settings) (clamped : Bool) (s : State) : State :=
  let s1 := (s.withSettings (some st)).withSsc { s.ssc with
    station := .presence, clamped := clamped, reading := false, readRetry := none, presenceTimer := s.after 100,
    runRequest := st.station.role == .generator && s.input .genReady }
  beginService (startBreaker (s1.withSli (s1.sli.startPresence (s1.after 20))))

/-- A read attempt that may be made again: a further one 10 ms later, up to three in all (R195). -/
def failAttempt (s : State) : State :=
  if 3 ≤ s.ssc.attempts then enterSettingsFault s
  else s.withSsc { s.ssc with reading := false, readRetry := s.after 10 }

/-- A read attempt is in progress, in START. -/
def State.readingImage (s : State) : Bool := s.ssc.station == .start && s.ssc.reading

/-- SETTINGS_NO_ACKNOWLEDGE (R195). -/
def execSettingsNoAcknowledge (s : State) : Outcome := done s (if s.readingImage then failAttempt s else s)

/-- SETTINGS_READ_RETRY (R195). -/
def execSettingsReadRetry (s : State) : Outcome :=
  done s <| expire s.ssc.readRetry s fun s =>
    s.withSsc { s.ssc with readRetry := none, reading := true, attempts := s.ssc.attempts + 1 }

/-- SETTINGS_IMAGE_READ (R195, R196). -/
def execSettingsImageRead (image : List Byte) (s : State) : Outcome :=
  done s <|
    if s.readingImage then
      match judgeImage image with
      | .good st clamped => enterPresence st clamped s
      | .badCrc => failAttempt s
      | .badImage => enterSettingsFault s
    else s

/-! ### Into service (R198, R199) -/

/-- AUTO or MANUAL by the auto-in-service setting. -/
def serviceState (st : Settings) : StationState := if st.station.autoInService then .auto else .manual

/-- PRESENCE_EXPIRY (R198): in ADDRESS_CONFLICT the station state stays. -/
def execPresenceExpiry (s : State) : Outcome :=
  done s <| expire s.ssc.presenceTimer s fun s =>
    s.withSsc { s.ssc with
      presenceTimer := none
      station := if s.ssc.station = .presence then .warmup else s.ssc.station }

/-- SSC_CYCLE_COMPLETION (R198, R203). -/
def execSscCycleCompletion (s : State) : Outcome :=
  done s <| (s.take .sscRecord).inForce fun st s =>
    s.withSsc { s.ssc with
      convertersLost := s.siu.status == some .lost
      station := if s.ssc.station = .warmup ∧ s.cme.warmCount = 2 then serviceState st else s.ssc.station }

/-- The station state after a conflict (R199). -/
def returnedState (st : Settings) (warm : Nat) (r : StationState) : StationState :=
  match r with
  | .presence | .warmup => if warm = 2 then serviceState st else .warmup
  | r => r

/-- The SSC is told that the SLI has left conflict (R199). -/
def leaveAddressConflict (s : State) : State :=
  s.inForce fun st s =>
    match s.ssc.returnState with
    | none => s
    | some r =>
      s.withSsc { s.ssc with station := returnedState st s.cme.warmCount r, returnState := none }

/-! ### Inputs (R201, R202) -/

/-- The debounce time: the setting in force, else the default. -/
def State.debounceMs (s : State) : Nat := (s.settings.map fun st => st.station.debounceMs).getD 4

/-- A debounce timer set. -/
def Ssc.setTimer (c : Ssc) (i : Input) (t : Timer) : Ssc :=
  { c with debounceTimers := c.debounceTimers.set (inputIdx i) t }

/-- The debounce timer after a change of the raw level (R201). -/
def State.debounceTimer (s : State) (i : Input) (level : Bool) : Timer :=
  if level = s.input i then none
  else if (s.ssc.debounceTimers[inputIdx i]).isSome then s.ssc.debounceTimers[inputIdx i]
  else s.after s.debounceMs

/-- RAW_INPUT_CHANGE (R201). -/
def execRawInputChange (i : Input) (level : Bool) (s : State) : Outcome :=
  done s <|
    (s.withPins { s.pins with raw := s.pins.raw.set (inputIdx i) level }).withSsc
      (s.ssc.setTimer i (s.debounceTimer i level))

/-- An INPUT_CHANGE event for a masked input (R202). -/
def inputEvent (i : Input) (level : Bool) (s : State) : State :=
  s.atWork fun st s =>
    if st.station.changeMask.getLsbD (inputIdx i).val then
      s.withSli (s.sli.placeEvent (.inputChange i level s.localTime))
    else s

/-- The blocks that use an input take its change. -/
def takeInput (i : Input) (level : Bool) (s : State) : State :=
  match i with
  | .bkrClosed | .bkrOpen => contactChange s
  | .rackedIn => rackChange s
  | .localOpen => localOpen s
  | .localClose => localClose s
  | .lockoutReset => localLockoutReset s
  | .extTrip => extTripChange s
  | .genReady => csqGenReady s
  | .gin1 => generalInputChange (0, 1) level s
  | .gin2 => generalInputChange (1, 2) level s
  | .gin3 => generalInputChange (2, 3) level s
  | .gin4 => generalInputChange (3, 4) level s
  | .springOk | .remotePermit | .lockoutIn => s

/-- The debounced level takes the raw level; a change of it is taken by the blocks that use the input (R201). DESIGN CHOICE
(unsafe; notes/assumptions/58): the INPUT_CHANGE event of the change (R202) is placed before the CAPTURE_TRIGGER event
of a record that the change creates (R185). -/
def debounced (i : Input) (s : State) : State :=
  let level := s.pins.raw[inputIdx i]
  let s1 := s.withSsc (s.ssc.setTimer i none)
  if level = s.input i then s1
  else
    takeInput i level
      (inputEvent i level (s1.withSsc { s1.ssc with debounced := s1.ssc.debounced.set (inputIdx i) level }))

/-- DEBOUNCE_EXPIRY (R201, R202). -/
def execDebounceExpiry (i : Input) (s : State) : Outcome :=
  done s (expire s.ssc.debounceTimers[inputIdx i] s (debounced i))

end Sys2Proof.Machine
end

