-- ==== Sys2Proof/Machine/Requests.lean ====
section
/-! DEFINITION. Requests: the intake of R94 with its echo (R95), and the fourteen kinds with the answers of their owners
(R64 to R66, R80, R99, R161, R166, R176, R190 to R193, R200). -/

namespace Sys2Proof.Machine

/-! ### Intake -/

/-- The answer of an owner: the state after the taking, the result and the detail. -/
structure Answer where
  state : State
  result : Result
  detail : Option EchoDetail

/-- An answer that leaves the state as it stood. -/
def Answer.refuse (s : State) (r : Result) : Answer := { state := s, result := r, detail := none }

/-- The answer TAKEN. -/
def Answer.take (s : State) : Answer := { state := s, result := .taken, detail := none }

/-- The echo takes an answered request (R95). -/
def echoAnswer (code : Byte) (r : Request) (a : Answer) : State :=
  a.state.withSli { a.state.sli with
    echo :=
      { count := a.state.sli.echo.count + 1
        body := some { origin := r.origin, kind := some code, result := some a.result }
        detail := a.detail } }

/-- The request check agrees (R93). -/
def checkAgrees (r : Request) (code : Byte) : Bool := crc8 (r.target :: r.origin :: code :: r.args) == r.check

/-- Line 4 of R94: the origin is 0, exceeds 31 or differs from the header's number. -/
def badOrigin (r : Request) : Bool :=
  r.origin == 0 || decide (31 < r.origin.toNat) || r.origin.toNat != r.header.val

/-- Lines 3 to 8 of R94 on a request for this station. `assign` says that the kind is ASSIGN_NUMBER. -/
def judge (code : Byte) (known broadcastable assign : Bool) (r : Request) (owner : State → Answer) (s : State) :
    Answer :=
  if !checkAgrees r code then Answer.refuse s .badCheck
  else if badOrigin r then Answer.refuse s .badArgument
  else if !known then Answer.refuse s .badArgument
  else if r.target == 0 && !broadcastable then Answer.refuse s .badArgument
  else if !assign && (s.ssc.station == .settingsFault || s.ssc.station == .addressConflict) then
    Answer.refuse s .refusedState
  else owner s

/-- A request that passes the reception filter: one that bears the own number is entered nowhere (R89). -/
def State.hears (s : State) (r : Request) (act : State → State) : State :=
  s.hearing fun s => if r.header = s.sli.ownNumber then s else act s

/-- Line 1 of R94: the target is this station or all stations. -/
def State.targeted (s : State) (r : Request) : Bool := r.target == 0 || r.target.toNat == s.sli.ownNumber.val

/-- The intake of R94 for every kind but ASSIGN_NUMBER. -/
def intake (code : Byte) (known broadcastable : Bool) (r : Request) (owner : State → Answer) (s : State) : State :=
  s.hears r fun s =>
    if s.targeted r then echoAnswer code r (judge code known broadcastable false r owner s) else s

/-- An owner that works with the settings in force. -/
def withForce (owner : Settings → State → Answer) (s : State) : Answer :=
  match s.settings with
  | none => Answer.refuse s .refusedState
  | some st => owner st s

/-! ### Breaker requests -/

/-- R64: the argument, the permit, the breaker state; SOFT on an ONLINE generator is an unload order. -/
def ownOpen (r : Request) (st : Settings) (s : State) : Answer :=
  if r.args ≠ [0] ∧ r.args ≠ [1] then Answer.refuse s .badArgument
  else if !s.input .remotePermit then Answer.refuse s .refusedRemote
  else if s.bkc.state.isOpenOrOut then Answer.refuse s .refusedState
  else if r.args = [0] ∧ st.station.role = .generator ∧ s.csq.state = .online then
    Answer.take (tellOpenRequest (unloadOrder .request s))
  else Answer.take (tellOpenRequest (takeOpening .request s))

/-- OPEN (R64). -/
def execOpenRequest (r : Request) (s : State) : Outcome :=
  done s (intake 0 true false r (withForce (ownOpen r)) s)

/-- R65. -/
def ownClose (r : Request) (st : Settings) (s : State) : Answer :=
  if !r.args.isEmpty then Answer.refuse s .badArgument
  else if !s.input .remotePermit then Answer.refuse s .refusedRemote
  else { state := (operatorClose st s).1, result := (operatorClose st s).2, detail := none }

/-- CLOSE (R65). -/
def execCloseRequest (r : Request) (s : State) : Outcome :=
  done s (intake 1 true false r (withForce (ownClose r)) s)

/-- R66. -/
def ownResetLockout (r : Request) (st : Settings) (s : State) : Answer :=
  if !r.args.isEmpty then Answer.refuse s .badArgument
  else if !s.input .remotePermit then Answer.refuse s .refusedRemote
  else if s.clearRefused st then Answer.refuse s .refusedState
  else Answer.take (lockoutClear st s)

/-- RESET_LOCKOUT (R66). -/
def execResetLockout (r : Request) (s : State) : Outcome :=
  done s (intake 2 true false r (withForce (ownResetLockout r)) s)

/-! ### Service state and alarms -/

/-- The state that an argument byte of SET_MODE names. -/
def modeOfByte (b : Byte) : Option StationState :=
  if b = 0 then some .auto else if b = 1 then some .manual else if b = 2 then some .test else none

/-- The table of R200 once the argument names a state. -/
def setMode (m : StationState) (s : State) : Answer :=
  if s.ssc.station = .presence ∨ s.ssc.station = .warmup then Answer.refuse s .refusedState
  else if m = s.ssc.station then Answer.take s
  else if m = .test ∧ s.bkc.state.isOpenOrOut = false then Answer.refuse s .refusedInterlock
  else Answer.take (s.withSsc { s.ssc with station := m })

/-- R200. -/
def ownSetMode (r : Request) (s : State) : Answer :=
  match r.args with
  | [b] =>
    match modeOfByte b with
    | some m => setMode m s
    | none => Answer.refuse s .badArgument
  | _ => Answer.refuse s .badArgument

/-- SET_MODE (R200). -/
def execSetMode (r : Request) (s : State) : Outcome := done s (intake 3 true true r (ownSetMode r) s)

/-- RESET_ALARM taken: the CSQ, the SYN and the BKC clear their alarms (R66, R131, R176). DESIGN CHOICE (unsafe;
notes/assumptions/67): the CSQ takes it before the SYN, of which R176 says nothing, and before the BKC, since a station
held by FAILED_TO_CLOSE may claim again at its next event (R176). -/
def resetAlarms (s : State) : State :=
  let s1 := csqResetAlarm s
  (s1.withSyn s1.syn.resetAlarm).withBkc s1.bkc.resetAlarm

/-- R176. -/
def ownResetAlarm (r : Request) (s : State) : Answer :=
  if !r.args.isEmpty then Answer.refuse s .badArgument else Answer.take (resetAlarms s)

/-- RESET_ALARM (R176). -/
def execResetAlarm (r : Request) (s : State) : Outcome := done s (intake 4 true true r (ownResetAlarm r) s)

/-! ### Incomer requests -/

/-- R161. -/
def ownTransferTest (r : Request) (st : Settings) (s : State) : Answer :=
  if r.args ≠ [0] ∧ r.args ≠ [1] then Answer.refuse s .badArgument
  else if st.station.role ≠ .incomer then Answer.refuse s .notApplicable
  else if !s.input .remotePermit then Answer.refuse s .refusedRemote
  else if s.ssc.station ≠ .auto then Answer.refuse s .refusedState
  else Answer.take (if r.args = [0] then transferTestStart s else transferTestEnd s)

/-- TRANSFER_TEST (R161). -/
def execTransferTest (r : Request) (s : State) : Outcome :=
  done s (intake 5 true false r (withForce (ownTransferTest r)) s)

/-- R166, first part. -/
def ownInhibit (r : Request) (st : Settings) (s : State) : Answer :=
  if r.args ≠ [0] ∧ r.args ≠ [1] then Answer.refuse s .badArgument
  else if st.station.role ≠ .incomer then Answer.refuse s .notApplicable
  else Answer.take (setInhibit (r.args == [1]) s)

/-- RETRANSFER_INHIBIT (R166). -/
def execRetransferInhibit (r : Request) (s : State) : Outcome :=
  done s (intake 6 true true r (withForce (ownInhibit r)) s)

/-- R166, second part. -/
def ownRetransferNow (r : Request) (st : Settings) (s : State) : Answer :=
  if !r.args.isEmpty then Answer.refuse s .badArgument
  else if st.station.role ≠ .incomer then Answer.refuse s .notApplicable
  else if !s.input .remotePermit then Answer.refuse s .refusedRemote
  else if s.ssc.station ≠ .auto ∨ s.csq.state ≠ .returning then Answer.refuse s .refusedState
  else if s.csq.inhibit then Answer.refuse s .refusedInterlock
  else if s.bkc.lockout then Answer.refuse s .refusedLockout
  else Answer.take (retransferAtOnce s)

/-- RETRANSFER_NOW (R166). -/
def execRetransferNow (r : Request) (s : State) : Outcome :=
  done s (intake 7 true false r (withForce (ownRetransferNow r)) s)

/-! ### Diagnostics -/

/-- The table of R80. -/
def ownDiagnostics (r : Request) (s : State) : Answer :=
  if !r.args.isEmpty then Answer.refuse s .badArgument
  else if s.ssc.station = .presence ∨ s.ssc.station = .warmup then Answer.refuse s .refusedState
  else if s.cds.run.isSome then Answer.refuse s .busy
  else
    match testableCircuit s.bkc.state with
    | none =>
      Answer.refuse (s.withCds { s.cds with lastRun := s.runRecord .noCircuit .notApplicable }) .notApplicable
    | some coil => if s.cds.anyOut then Answer.refuse s .busy else Answer.take (beginRun coil s)

/-- RUN_DIAGNOSTICS (R80). -/
def execRunDiagnostics (r : Request) (s : State) : Outcome := done s (intake 8 true false r (ownDiagnostics r) s)

/-! ### Recorder requests -/

/-- R190: BUSY when the trigger is missed. -/
def ownCaptureTrigger (r : Request) (st : Settings) (s : State) : Answer :=
  if !r.args.isEmpty then Answer.refuse s .badArgument
  else if !st.drc.enableRequest then Answer.refuse s .refusedState
  else
    { state := takeTrigger st .request r.origin s
      result := if (s.drc.trigger st.drc .request r.origin s.localTime).2 = .missed then .busy else .taken
      detail := none }

/-- CAPTURE_TRIGGER (R190). -/
def execCaptureTrigger (r : Request) (s : State) : Outcome :=
  done s (intake 9 true true r (withForce (ownCaptureTrigger r)) s)

/-- R191. -/
def ownDirectory (r : Request) (st : Settings) (s : State) : Answer :=
  if !r.args.isEmpty then Answer.refuse s .badArgument
  else if !s.sli.dataRoom then Answer.refuse s .busy
  else
    Answer.take (s.withSli (s.sli.placeData { block := false, payload := s.drc.directory st.drc.keep r.origin }))

/-- CAPTURE_DIRECTORY (R191). -/
def execCaptureDirectory (r : Request) (s : State) : Outcome :=
  done s (intake 10 true false r (withForce (ownDirectory r)) s)

/-- Lines 3 to 6 of R192 on a held record. -/
def readBlock (d : Descriptor) (position channel : Byte) (origin : Byte) (s : State) : Answer :=
  if 7 < channel.toNat ∨ 79 < position.toNat then Answer.refuse s .badArgument
  else
    match d.chain[position.toNat]? with
    | none => { state := s, result := .badArgument, detail := some .notWritten }
    | some n =>
      if !s.sli.dataRoom then Answer.refuse s .busy
      else
        Answer.take (s.withSli (s.sli.placeData
          { block := true
            payload := blockBytes s.drc.blocks[n] origin d.seq position.toNat channel.toNat }))

/-- R192. -/
def ownRead (r : Request) (s : State) : Answer :=
  match r.args with
  | [hi, lo, position, channel] =>
    match s.drc.find (hi ++ lo) with
    | none => { state := s, result := .badArgument, detail := some .noRecord }
    | some d => readBlock d position channel r.origin s
  | _ => Answer.refuse s .badArgument

/-- CAPTURE_READ (R192). -/
def execCaptureRead (r : Request) (s : State) : Outcome := done s (intake 11 true false r (ownRead r) s)

/-- R193. -/
def ownRelease (r : Request) (s : State) : Answer :=
  match r.args with
  | [hi, lo] =>
    match s.drc.find (hi ++ lo) with
    | none => { state := s, result := .badArgument, detail := some .noRecord }
    | some d => if d.filling then Answer.refuse s .refusedState else Answer.take (s.withDrc (s.drc.release d))
  | _ => Answer.refuse s .badArgument

/-- CAPTURE_RELEASE (R193). -/
def execCaptureRelease (r : Request) (s : State) : Outcome := done s (intake 12 true false r (ownRelease r) s)

/-! ### ASSIGN_NUMBER (R99, R113) -/

/-- The identity argument: the first six argument bytes. DESIGN CHOICE (unsafe; notes/assumptions/39): a request with
fewer has none, is taken as not for this station and is not answered. -/
def identityArgument (r : Request) : Option (BitVec 48) :=
  if 6 ≤ r.args.length then some (read48 (fun i => r.args.getD i 0) 0) else none

/-- The number argument: the seventh argument byte, when it is a station's number. DESIGN CHOICE (unsafe;
notes/assumptions/42): bytes after the seventh do not keep it from being observed (R113). -/
def numberArgument (r : Request) : Option StationNo :=
  match r.args[6]? with
  | none => none
  | some b => if b = 0 ∨ 31 < b.toNat then none else some (Fin.ofNat 32 b.toNat)

/-- The SLI leaves conflict: the conflict timer stops and the unsent CONFLICT frame is removed (R99). -/
def Sli.leaveConflict (l : Sli) : Sli :=
  { l.touch .presence with presenceSlot := none, conflict := none, conflictTimer := none }

/-- The own number becomes the argument's number; an SLI in conflict leaves it, and the SSC returns the station. DESIGN
CHOICE (unsafe; notes/assumptions/40): a PRESENCE frame that waits and the placements still to come are kept, and
the frames begun from then on bear the new number. -/
def assign (n : StationNo) (s : State) : State :=
  let old := s.sli.ownNumber
  let s' := renumber old n (s.withSli { s.sli with ownNumber := n })
  if s'.sli.conflict.isSome then leaveAddressConflict (s'.withSli s'.sli.leaveConflict) else s'

/-- R99. -/
def ownAssign (r : Request) (s : State) : Answer :=
  match numberArgument r with
  | some n => if r.args.length = 7 then Answer.take (assign n s) else Answer.refuse s .badArgument
  | none => Answer.refuse s .badArgument

/-- The observation of an assignment (R113). -/
def observeAssignment (r : Request) (s : State) : State :=
  match numberArgument r with
  | some n => if checkAgrees r 13 then clearConflict n s else s
  | none => s

/-- ASSIGN_NUMBER (R94 line 2, R99, R113). -/
def execAssignNumber (r : Request) (s : State) : Outcome :=
  done s <| s.hears r fun s =>
    let s := observeAssignment r s
    if s.targeted r && identityArgument r == some s.pins.identity then
      echoAnswer 13 r (judge 13 true true true r (ownAssign r) s)
    else s

/-- UNKNOWN_REQUEST (R94 line 5): a kind byte that names no kind. -/
def execUnknownRequest (kind : Byte) (r : Request) (s : State) : Outcome :=
  done s (intake kind false false r (fun s => Answer.refuse s .badArgument) s)

end Sys2Proof.Machine
end

