-- ==== Sys2Proof/Machine/Dispatch.lean ====
section
/-! DEFINITION. The dispatch: each command's arm is one call of its meaning. -/

namespace Sys2Proof.Machine

/-- The effect of a command on everything but the queue. -/
def exec (i : Instr) (s : State) : Host.Outcome State Fault Refusal :=
  match i with
  | .reset straps raw => Sys2Proof.Machine.execReset straps raw s
  | .settingsNoAcknowledge => Sys2Proof.Machine.execSettingsNoAcknowledge s
  | .settingsReadRetry => Sys2Proof.Machine.execSettingsReadRetry s
  | .settingsImageRead image => Sys2Proof.Machine.execSettingsImageRead image s
  | .presenceRepeatTimer => Sys2Proof.Machine.execPresenceRepeatTimer s
  | .presenceExpiry => Sys2Proof.Machine.execPresenceExpiry s
  | .sampleStrobe words => Sys2Proof.Machine.execSampleStrobe words s
  | .cmeCycleRecord => Sys2Proof.Machine.execCmeCycleRecord s
  | .pesCycleEvaluation => Sys2Proof.Machine.execPesCycleEvaluation s
  | .synCycleCompletion => Sys2Proof.Machine.execSynCycleCompletion s
  | .lscSlipCorrection => Sys2Proof.Machine.execLscSlipCorrection s
  | .csqCycleCompletion => Sys2Proof.Machine.execCsqCycleCompletion s
  | .ptbMeasuredUpdate => Sys2Proof.Machine.execPtbMeasuredUpdate s
  | .sscCycleCompletion => Sys2Proof.Machine.execSscCycleCompletion s
  | .drcBufferStore => Sys2Proof.Machine.execDrcBufferStore s
  | .rawInputChange input level => Sys2Proof.Machine.execRawInputChange input level s
  | .debounceExpiry input => Sys2Proof.Machine.execDebounceExpiry input s
  | .overtempRise => Sys2Proof.Machine.execOvertempRise s
  | .overtempFall => Sys2Proof.Machine.execOvertempFall s
  | .tripClaim cause detail => Sys2Proof.Machine.execTripClaim cause detail s
  | .openClaim purpose => Sys2Proof.Machine.execOpenClaim purpose s
  | .closeClaim purpose => Sys2Proof.Machine.execCloseClaim purpose s
  | .closePulseEnd => Sys2Proof.Machine.execClosePulseEnd s
  | .closingTimerExpiry => Sys2Proof.Machine.execClosingTimerExpiry s
  | .tripPulseEnd => Sys2Proof.Machine.execTripPulseEnd s
  | .stuckTimerExpiry => Sys2Proof.Machine.execStuckTimerExpiry s
  | .discrepancyTimerExpiry => Sys2Proof.Machine.execDiscrepancyTimerExpiry s
  | .bfTimerExpiry => Sys2Proof.Machine.execBfTimerExpiry s
  | .bfRecheckExpiry => Sys2Proof.Machine.execBfRecheckExpiry s
  | .lockoutPulseEnd => Sys2Proof.Machine.execLockoutPulseEnd s
  | .periodTimerExpiry => Sys2Proof.Machine.execPeriodTimerExpiry s
  | .diagnosticRetryExpiry => Sys2Proof.Machine.execDiagnosticRetryExpiry s
  | .diagnosticStepEnd reading => Sys2Proof.Machine.execDiagnosticStepEnd reading s
  | .cdsBreakerStateChange => Sys2Proof.Machine.execCdsBreakerStateChange s
  | .cdsStationStateChange => Sys2Proof.Machine.execCdsStationStateChange s
  | .lineFree => Sys2Proof.Machine.execLineFree s
  | .arbitrationLost inIdentity => Sys2Proof.Machine.execArbitrationLost inIdentity s
  | .transmitBitError => Sys2Proof.Machine.execTransmitBitError s
  | .frameCompleted => Sys2Proof.Machine.execFrameCompleted s
  | .frameDiscarded heard => Sys2Proof.Machine.execFrameDiscarded heard s
  | .tripNoticeReceived sender cause detail => Sys2Proof.Machine.execTripNoticeReceived sender cause detail s
  | .bfTransferReceived sender sections => Sys2Proof.Machine.execBfTransferReceived sender sections s
  | .claimReceived sender sections => Sys2Proof.Machine.execClaimReceived sender sections s
  | .claimWithdrawReceived sender => Sys2Proof.Machine.execClaimWithdrawReceived sender s
  | .reportReceived sender payload => Sys2Proof.Machine.execReportReceived sender payload s
  | .inputChangeReceived sender input level time => Sys2Proof.Machine.execInputChangeReceived sender input level time s
  | .captureTriggerEventReceived sender seq kind detail => Sys2Proof.Machine.execCaptureTriggerEventReceived sender seq kind detail s
  | .dataReceived sender kind payload => Sys2Proof.Machine.execDataReceived sender kind payload s
  | .presenceReceived sender identity => Sys2Proof.Machine.execPresenceReceived sender identity s
  | .conflictReceived identity contested => Sys2Proof.Machine.execConflictReceived identity contested s
  | .conflictTimerExpiry => Sys2Proof.Machine.execConflictTimerExpiry s
  | .openRequest r => Sys2Proof.Machine.execOpenRequest r s
  | .closeRequest r => Sys2Proof.Machine.execCloseRequest r s
  | .resetLockout r => Sys2Proof.Machine.execResetLockout r s
  | .setMode r => Sys2Proof.Machine.execSetMode r s
  | .resetAlarm r => Sys2Proof.Machine.execResetAlarm r s
  | .transferTest r => Sys2Proof.Machine.execTransferTest r s
  | .retransferInhibit r => Sys2Proof.Machine.execRetransferInhibit r s
  | .retransferNow r => Sys2Proof.Machine.execRetransferNow r s
  | .runDiagnostics r => Sys2Proof.Machine.execRunDiagnostics r s
  | .captureTrigger r => Sys2Proof.Machine.execCaptureTrigger r s
  | .captureDirectory r => Sys2Proof.Machine.execCaptureDirectory r s
  | .captureRead r => Sys2Proof.Machine.execCaptureRead r s
  | .captureRelease r => Sys2Proof.Machine.execCaptureRelease r s
  | .assignNumber r => Sys2Proof.Machine.execAssignNumber r s
  | .unknownRequest kind r => Sys2Proof.Machine.execUnknownRequest kind r s
  | .reportTimerExpiry => Sys2Proof.Machine.execReportTimerExpiry s
  | .ptbSourcePublication source => Sys2Proof.Machine.execPtbSourcePublication source s
  | .freshnessTimerExpiry n => Sys2Proof.Machine.execFreshnessTimerExpiry n s
  | .lossTimerExpiry n => Sys2Proof.Machine.execLossTimerExpiry n s
  | .conflictClearExpiry n => Sys2Proof.Machine.execConflictClearExpiry n s
  | .pesConflictMarking n => Sys2Proof.Machine.execPesConflictMarking n s
  | .transferOriginExpiry n => Sys2Proof.Machine.execTransferOriginExpiry n s
  | .pesStationStateChange fromState toState => Sys2Proof.Machine.execPesStationStateChange fromState toState s
  | .synViewEvent => Sys2Proof.Machine.execSynViewEvent s
  | .synBreakerRecord => Sys2Proof.Machine.execSynBreakerRecord s
  | .synStationStateChange fromState toState => Sys2Proof.Machine.execSynStationStateChange fromState toState s
  | .syncTimerExpiry => Sys2Proof.Machine.execSyncTimerExpiry s
  | .synRetryExpiry => Sys2Proof.Machine.execSynRetryExpiry s
  | .holdTimerExpiry => Sys2Proof.Machine.execHoldTimerExpiry s
  | .yieldTimerExpiry => Sys2Proof.Machine.execYieldTimerExpiry s
  | .refusalWaitExpiry => Sys2Proof.Machine.execRefusalWaitExpiry s
  | .avrPulseEnd => Sys2Proof.Machine.execAvrPulseEnd s
  | .avrSpacingExpiry => Sys2Proof.Machine.execAvrSpacingExpiry s
  | .lscSynPublication => Sys2Proof.Machine.execLscSynPublication s
  | .lscViewEvent => Sys2Proof.Machine.execLscViewEvent s
  | .lscBreakerRecord => Sys2Proof.Machine.execLscBreakerRecord s
  | .lscStationStateChange fromState toState => Sys2Proof.Machine.execLscStationStateChange fromState toState s
  | .shareIntervalExpiry => Sys2Proof.Machine.execShareIntervalExpiry s
  | .unloadTimerExpiry => Sys2Proof.Machine.execUnloadTimerExpiry s
  | .overlapDeadlineExpiry => Sys2Proof.Machine.execOverlapDeadlineExpiry s
  | .csqViewEvent => Sys2Proof.Machine.execCsqViewEvent s
  | .csqBreakerRecord => Sys2Proof.Machine.execCsqBreakerRecord s
  | .csqPesPublication => Sys2Proof.Machine.execCsqPesPublication s
  | .csqSynOutcome outcome => Sys2Proof.Machine.execCsqSynOutcome outcome s
  | .csqLscMode => Sys2Proof.Machine.execCsqLscMode s
  | .csqAutoEntry => Sys2Proof.Machine.execCsqAutoEntry s
  | .csqAutoExit => Sys2Proof.Machine.execCsqAutoExit s
  | .failureConfirmExpiry => Sys2Proof.Machine.execFailureConfirmExpiry s
  | .retransferDelayExpiry => Sys2Proof.Machine.execRetransferDelayExpiry s
  | .overlapBackupExpiry => Sys2Proof.Machine.execOverlapBackupExpiry s
  | .startDelayExpiry => Sys2Proof.Machine.execStartDelayExpiry s
  | .startTimerExpiry => Sys2Proof.Machine.execStartTimerExpiry s
  | .cooldownExpiry => Sys2Proof.Machine.execCooldownExpiry s
  | .shedDelayExpiry => Sys2Proof.Machine.execShedDelayExpiry s
  | .restoreWaitExpiry => Sys2Proof.Machine.execRestoreWaitExpiry s
  | .overloadTimerExpiry => Sys2Proof.Machine.execOverloadTimerExpiry s
  | .shedSettleExpiry => Sys2Proof.Machine.execShedSettleExpiry s
  | .drcTrigger kind element => Sys2Proof.Machine.execDrcTrigger kind element s
  | .govBiasPeriodStart => Sys2Proof.Machine.execGovBiasPeriodStart s

end Sys2Proof.Machine
end

