-- ==== Sys2Proof/Safety.lean ====
section
/-! DEFINITION. The vocabulary of the statements: what settled, answered and kept mean, the invariants that every step
keeps, and the frame of every command. -/

namespace Sys2Proof.Machine


/-- Between commands (R144): where a ZERO condition holds, the load share controller stands in ZERO. -/
def ZeroSettled (s : State) : Prop := s.zeroHolds = true → s.lsc.toZero = s.lsc

/-- Between commands (R83): after START, a line that stands free with nothing in flight has nothing waiting for it. -/
def LineSettled (s : State) : Prop :=
  s.ssc.station ≠ .start → s.sli.lineFree = true → s.sli.flight = none → s.sli.choice = none

/-- Between commands: no ZERO condition and no waiting item has been left to act on. Every command ends so. -/
def Settled (s : State) : Prop := ZeroSettled s ∧ LineSettled s

/-- The link after a command that left it `placed` (R83): with the line free and nothing in flight the frame of the first
item that waits has begun, and otherwise it stands as it was placed. -/
def LineTaken (placed : Sli) (t : State) : Prop :=
  (t.ssc.station ≠ .start → placed.lineFree = true → placed.flight = none →
    ∀ slot, placed.choice = some slot → t.sli = placed.begin t.pins.identity slot) ∧
  (t.ssc.station = .start ∨ placed.lineFree = false ∨ placed.flight.isSome ∨ placed.choice = none → t.sli = placed)

/-- The link after it has heard a frame of another station: the line is not yet free again, and nothing of its own is in
flight. DESIGN CHOICE (unsafe; notes/assumptions/49): a frame that the link had begun since the line was free is taken
back, as one that found the line busy (R83). Every item stays where it waits, a report that had replaced one in flight
counts an overrun (R100), which a report placed over that one by then shows (R105), as its count is no longer the one
that stands, and a CLAIM_WITHDRAW placed over a CLAIM in flight is taken out of its slot (R135). -/
def afterHearing (l : Sli) : Sli :=
  { l with
    lineFree := false, flight := none
    claimSlot :=
      if l.claimSlot = some .withdraw ∧ ∃ f, l.flight = some f ∧ f.slot = .claim ∧ f.replaced = true then none
      else l.claimSlot
    reportSlot :=
      if ∃ f, l.flight = some f ∧ f.slot = .report ∧ f.replaced = true then
        l.reportSlot.map fun r => { r with body := r.body.map fun b => { b with counters := { b.counters with
          overruns :=
            if b.counters.overruns = l.counters.overruns ∨ b.counters.overruns = 65535 then b.counters.overruns
            else b.counters.overruns + 1 } } }
      else l.reportSlot
    counters := { l.counters with
      overruns :=
        if ∃ f, l.flight = some f ∧ f.slot = .report ∧ f.replaced = true ∧ l.counters.overruns ≠ 65535 then
          l.counters.overruns + 1
        else l.counters.overruns } }

/-- The start of a diagnostic run (R72), from the state at the start to the state after it. -/
def RunStart (s t : State) : Prop :=
  (s.cds.run.isSome → t.cds.run = s.cds.run ∧ t.cds.lastRun = s.cds.lastRun ∧ t.cds.steps = s.cds.steps) ∧
  (s.cds.run = none →
    (s.bkc.state ≠ .closed → s.bkc.state ≠ .opened → t.cds.run = none ∧
      t.cds.lastRun = some { circuit := .noCircuit, outcome := .notApplicable, time := t.localTime }) ∧
    (s.bkc.state = .closed ∨ s.bkc.state = .opened → s.cds.tripOut = true ∨ s.cds.closeOut = true →
      t.cds.run = none ∧ t.cds.retryTimer = some (t.localTime + 1000) ∧
      t.cds.lastRun = some
        { circuit := if s.bkc.state = .closed then .trip else .close, outcome := .aborted, time := t.localTime }) ∧
    (s.bkc.state = .closed ∨ s.bkc.state = .opened → s.cds.tripOut = false → s.cds.closeOut = false →
      t.cds.run = some
        { circuit := if s.bkc.state = .closed then .trip else .close, startState := s.bkc.state, step := 1,
          due := t.localTime + 10 } ∧
      (∀ i : Fin 4, t.cds.steps[i] = .notRun) ∧ t.cds.retryTimer = none ∧ t.cds.lastRun = s.cds.lastRun))

/-- A run in progress stands in one of its four steps, and a failed step has a faulty finding (R68, R73). -/
def DiagnosticsKept (s : State) : Prop :=
  (∀ r, s.cds.run = some r → 1 ≤ r.step ∧ r.step ≤ 4) ∧
  (∀ (i : Fin 4) (f : CircuitResult), s.cds.steps[i] = .fail f → f.faulty = true)

/-- R144 and R145: the bias and the duty lie within their ranges, and a ZERO condition leaves the controller in ZERO. -/
def BiasKept (s : State) : Prop :=
  -500 ≤ s.lsc.bias ∧ s.lsc.bias ≤ 500 ∧ 0 ≤ s.lsc.duty ∧ s.lsc.duty ≤ 1000 ∧ ZeroSettled s

/-- The accounting of the recorder (R178, R179, R181, R186): every capture block in exactly one of the free list, the ring
and one record's chain; at most 8 records, with distinct sequence numbers and at most one FILLING; a planned length of
at most 80 blocks. -/
def RecorderKept (s : State) : Prop :=
  List.Perm (s.drc.free ++ s.drc.ring ++ s.drc.records.flatMap fun r => r.chain) (List.finRange 96) ∧
  s.drc.records.length ≤ 8 ∧ (s.drc.records.map fun r => r.seq).Nodup ∧
  (s.drc.records.filter fun r => r.filling).length ≤ 1 ∧ s.drc.ring.length ≤ 16 ∧
  (∀ r ∈ s.drc.records, r.filling = true → 1 ≤ s.drc.postCount ∧ r.chain.length + s.drc.postCount ≤ 80) ∧
  (∀ st, s.settings = some st → st.drc.pre ≤ 16 ∧ 4 ≤ st.drc.post ∧ st.drc.post ≤ 64)

/-- The echo takes an answer (R95): the origin and kind of the request, the result and its detail, and one more in the
request count. -/
def Answered (s t : State) (r : Request) (code : Byte) (result : Result) (detail : Option EchoDetail) : Prop :=
  t.sli.echo = { count := s.sli.echo.count + 1, detail := detail,
                 body := some { origin := r.origin, kind := some code, result := some result } }

/-- A request is answered, and nothing changes but the echo and what hearing its frame changes of the link. -/
def OnlyAnswered (s t : State) (r : Request) (code : Byte) (result : Result) (detail : Option EchoDetail) : Prop :=
  t = { s with sli := { afterHearing s.sli with echo := t.sli.echo }, due := t.due } ∧
    Answered s t r code result detail

/-- A request is heard on a line that the station watches (R83), passes every line of R94 and is handed to the owner of its
kind. -/
def Handed (s : State) (r : Request) (code : Byte) (broadcastable : Bool) : Prop :=
  s.ssc.station ∉ ([.start, .settingsFault, .addressConflict] : List StationState) ∧ s.sli.watching = true ∧
    r.header ≠ s.sli.ownNumber ∧
    ((r.target ≠ 0 ∧ r.target.toNat = s.sli.ownNumber.val) ∨ (r.target = 0 ∧ broadcastable = true)) ∧
    crc8 (r.target :: r.origin :: code :: r.args) = r.check ∧ r.origin ≠ 0 ∧ r.origin.toNat = r.header.val

/-! ### The settings image (R196, R211, R212) -/

/-- The length that the header gives. -/
def headerLength (image : List Byte) : Nat := 256 * (imageByte image 2).toNat + (imageByte image 3).toNat

/-- The last field record that carries an identifier is marked programmed, with this value (R211). -/
def Programmed (image : List Byte) (id : Nat) (v : Int) : Prop :=
  let byte := imageByte image
  let count := (headerLength image - 6) / 6
  ∃ k, k < count ∧ (byte (4 + 6 * k)).toNat = id ∧ (∀ j, k < j → j < count → (byte (4 + 6 * j)).toNat ≠ id) ∧
    byte (5 + 6 * k) = 1 ∧
    v = (byte (6 + 6 * k) ++ byte (7 + 6 * k) ++ byte (8 + 6 * k) ++ byte (9 + 6 * k) : BitVec 32).toInt

/-- The programmed fields name a role and hold every field that it requires (lines 4 and 5 of R196). -/
def Required (f : Nat → Option Int) (role : Role) : Prop :=
  f 1 = some (match role with | .incomer => 0 | .generator => 1 | .tie => 2 | .feeder => 3) ∧ (f 2).isSome ∧
    (f 4).isSome ∧ (role = .incomer ∨ role = .generator → (f 7).isSome) ∧ (role = .generator → (f 8).isSome)

/-- A row of the settings table of R211: the value in force, the identifier, the limits of a number (of an enumerated
field: 0 and its last code), the default, and the roles that use the field. -/
structure TableRow where
  value : Int
  id : Nat
  lo : Int
  hi : Int
  dflt : Int
  uses : List Role

/-- The numbers with a default. -/
def numberRows (st : Settings) : List TableRow :=
  let every : List Role := [.incomer, .generator, .tie, .feeder]
  let sources : List Role := [.incomer, .generator, .tie]
  let vnom := st.station.vnom
  let fnom : Int := st.station.fnom
  [⟨st.station.livePm, 5, 500, 1000, 850, every⟩, ⟨st.station.deadPm, 6, 50, 400, 200, every⟩,
   ⟨st.station.debounceMs, 10, 2, 20, 4, every⟩] ++
  [⟨st.pes.pu3, 30, 100, 32767, 20000, every⟩, ⟨st.pes.delay3, 31, 0, 255, 0, every⟩,
   ⟨st.pes.pu4, 32, 50, 32767, 2000, every⟩, ⟨st.pes.delay4, 33, 0, 255, 5, every⟩,
   ⟨st.pes.pu5, 34, 50, 32767, 1000, every⟩, ⟨st.pes.td, 35, 1, 65535, 30, every⟩,
   ⟨st.pes.rt, 36, 1, 65535, 60, every⟩, ⟨st.pes.rpPm, 37, 10, 500, 50, [.generator]⟩,
   ⟨st.pes.delay6, 38, 0, 255, 100, [.generator]⟩] ++
  [⟨st.pes.pu7, 39, 1, 32767, (vnom * 800 / 1000 : Nat), every⟩, ⟨st.pes.delay7, 40, 0, 255, 10, every⟩,
   ⟨st.pes.pu8, 41, 1, 32767, (min (vnom * 1100 / 1000) 32767 : Nat), every⟩,
   ⟨st.pes.delay8, 42, 0, 255, 10, every⟩, ⟨st.pes.pu9, 43, 40000, 70000, fnom * 1000 - 1000, every⟩,
   ⟨st.pes.delay9, 44, 0, 255, 10, every⟩, ⟨st.pes.pu10, 45, 40000, 70000, fnom * 1000 + 1000, every⟩,
   ⟨st.pes.delay10, 46, 0, 255, 10, every⟩] ++
  [⟨st.brk.closePulseMs, 48, 50, 300, 120, every⟩, ⟨st.brk.bfMs, 49, 50, 500, 150, every⟩,
   ⟨st.brk.bfpu, 50, 20, 32767, 400, every⟩, ⟨st.brk.diagPeriodS, 53, 10, 3600, 60, every⟩,
   ⟨st.syn.voltageWindow, 60, 10, 200, 50, sources⟩, ⟨st.syn.slipWindow, 61, 10, 1000, 150, sources⟩,
   ⟨st.syn.angleWindow, 62, 100, 3000, 1000, sources⟩, ⟨st.syn.tcMs, 63, 20, 300, 80, sources⟩] ++
  [⟨st.lsc.kp, 70, 0, 4096, 256, [.generator]⟩, ⟨st.lsc.kf, 71, 0, 4096, 64, [.generator]⟩,
   ⟨st.lsc.ks, 72, 0, 4096, 128, [.generator]⟩, ⟨st.lsc.slipTarget, 73, 10, 500, 50, [.generator]⟩,
   ⟨st.lsc.retransferSlipTarget, 74, -500, 500, 50, [.generator]⟩,
   ⟨st.lsc.softRate, 75, 50, 1000, 100, [.generator]⟩, ⟨st.lsc.unloadRate, 76, 50, 1000, 200, [.generator]⟩,
   ⟨st.lsc.openThreshold, 77, 0, 500, 50, [.generator]⟩, ⟨st.lsc.unloadTimeoutS, 78, 5, 300, 30, [.generator]⟩,
   ⟨st.lsc.overlapLimitMs, 79, 20, 500, 100, [.incomer, .generator]⟩] ++
  [⟨st.csq.failureConfirmMs, 80, 100, 30000, 2000, [.incomer]⟩,
   ⟨st.csq.retransferDelayS, 81, 10, 1800, 300, [.incomer]⟩, ⟨st.csq.startDelayS, 83, 0, 60, 3, [.generator]⟩,
   ⟨st.csq.startTimeS, 84, 5, 120, 20, [.generator]⟩, ⟨st.csq.cooldownS, 85, 0, 1800, 300, [.generator]⟩,
   ⟨st.csq.shedDelayMs, 88, 100, 10000, 500, [.feeder]⟩, ⟨st.csq.priority, 89, 1, 15, 8, [.feeder]⟩,
   ⟨st.csq.expectedKw, 90, 0, 65535, 500, [.feeder]⟩, ⟨st.csq.reserveKw, 91, 0, 65535, 0, [.feeder]⟩,
   ⟨st.csq.addSettleMs, 92, 500, 30000, 2000, [.feeder]⟩, ⟨st.csq.shedThreshold, 93, 500, 2000, 950, [.feeder]⟩,
   ⟨st.csq.overloadDelayMs, 94, 500, 30000, 2000, [.feeder]⟩,
   ⟨st.csq.shedSettleMs, 95, 500, 30000, 2000, [.feeder]⟩] ++
  [⟨st.drc.pre, 100, 2, 16, 4, every⟩, ⟨st.drc.post, 101, 4, 64, 20, every⟩]

/-- The enumerated fields and the flags, but for the role, the section, fnom and the actions. -/
def codeRows (st : Settings) : List TableRow :=
  let every : List Role := [.incomer, .generator, .tie, .feeder]
  let flag : Bool → Int := fun b => if b then 1 else 0
  let drive : Int := match st.brk.driveLevel with | .low => 0 | .normal => 1 | .high => 2
  [⟨flag (!st.station.autoInService), 9, 0, 1, 0, every⟩] ++
  ((List.range 10).map fun k =>
    ⟨flag (st.pes.enables.getLsbD k), 16 + k, 0, 1, 1, if k = 5 then [.generator] else every⟩) ++
  [⟨flag st.brk.lineVtFitted, 51, 0, 1, 0, [.feeder]⟩, ⟨drive, 52, 0, 2, 1, every⟩,
   ⟨flag st.syn.positiveSlipOnly, 64, 0, 1, 1, [.generator]⟩,
   ⟨flag st.csq.retransferClosed, 82, 0, 1, 1, [.incomer]⟩, ⟨flag st.csq.tieAuto, 86, 0, 1, 0, [.tie]⟩,
   ⟨flag st.csq.shedOnDeadBus, 87, 0, 1, 1, [.feeder]⟩, ⟨flag st.drc.keep, 102, 0, 1, 0, every⟩,
   ⟨flag st.drc.crossOut, 105, 0, 1, 1, every⟩]

/-- The actions of elements 7 to 10 with their identifiers. -/
def actionRows (st : Settings) : List (Action × Nat) :=
  [(st.pes.action7, 26), (st.pes.action8, 27), (st.pes.action9, 28), (st.pes.action10, 29)]

/-- The resistance pairs: Rmin and Rmax in force, and their identifiers. -/
def pairRows (st : Settings) : List (Nat × Nat × Nat × Nat) :=
  [(st.brk.rminTrip, st.brk.rmaxTrip, 54, 55), (st.brk.rminClose, st.brk.rmaxClose, 56, 57)]

/-- A number brought to the nearer limit. -/
def toLimits (lo hi v : Int) : Int := max lo (min hi v)

/-- Rmin and Rmax as the image gives them, before the override of R73. -/
def rminGiven (f : Nat → Option Int) (id : Nat) : Int := ((f id).map (toLimits 1 65535)).getD 20
def rmaxGiven (f : Nat → Option Int) (id : Nat) : Int := ((f id).map (toLimits 1 65535)).getD 1000

/-- The settings in force follow the programmed fields by the table of R211 with R23, R73, R196 and R212. -/
def SettingsFollow (f : Nat → Option Int) (role : Role) (st : Settings) : Prop :=
  st.station.role = role ∧
  -- the section: both on a TIE
  (role = .tie → st.station.sections = { a := true, b := true }) ∧
  (role ≠ .tie → (f 2 = some 0 → st.station.sections = { a := true, b := false }) ∧
    (f 2 = some 1 → st.station.sections = { a := false, b := true })) ∧
  -- fnom, and the fields without a default
  st.station.fnom = (if f 3 = some 60 then 60 else 50) ∧
  (∀ v, f 4 = some v → (st.station.vnom : Int) = toLimits 100 32767 v) ∧
  (st.station.flp.map fun x => (x : Int)) = (f 7).map (toLimits 1 2147483647) ∧
  (role = .generator → ∀ v, f 8 = some v → (st.station.ratedKw : Int) = toLimits 1 65535 v) ∧
  -- numbers: the default, or the nearer limit; a field that the role does not use takes its default
  (∀ x ∈ numberRows st, (f x.id = none ∨ role ∉ x.uses → x.value = x.dflt) ∧
    (role ∈ x.uses → ∀ v, f x.id = some v → x.value = toLimits x.lo x.hi v)) ∧
  -- codes: the default for one that names no value
  (∀ x ∈ codeRows st, (f x.id = none ∨ role ∉ x.uses → x.value = x.dflt) ∧
    (role ∈ x.uses → ∀ v, f x.id = some v → x.value = if x.lo ≤ v ∧ v ≤ x.hi then v else x.dflt)) ∧
  -- actions: the default by role, and SOURCE on an INCOMER alone
  (∀ x ∈ actionRows st,
    let dflt : Action := match role with | .generator => .trip | .incomer => .source | .tie | .feeder => .disabled
    x.1 = match f x.2 with
      | some v =>
        if v = 0 then .trip
        else if v = 1 then (if role = .incomer then .source else .disabled)
        else if v = 2 then .disabled else dflt
      | none => dflt) ∧
  -- Rmax not above Rmin is taken as Rmin + 1, with Rmin at most 65534
  (∀ x ∈ pairRows st,
    let rmin := min 65534 (rminGiven f x.2.2.1)
    (x.1 : Int) = rmin ∧ (x.2.1 : Int) = max (rmaxGiven f x.2.2.2) (rmin + 1)) ∧
  -- masks: bit by bit
  (∀ k, k < 15 → st.station.changeMask.getLsbD k =
    match f 11 with | some v => decide (v / 2 ^ k % 2 = 1) | none => true) ∧
  (let bit : Nat → Bool := fun k =>
     match f 103 with | some v => decide (v / 2 ^ k % 2 = 1) | none => decide (k < 4)
   st.drc.enablePickup = bit 0 ∧ st.drc.enableTrip = bit 1 ∧ st.drc.enablePeer = bit 2 ∧
     st.drc.enableRequest = bit 3 ∧ ∀ g, g < 4 → st.drc.enableGin.getLsbD g = bit (4 + g)) ∧
  (∀ g, g < 4 → st.drc.levelGin.getLsbD g =
    match f 104 with | some v => decide (v / 2 ^ g % 2 = 1) | none => false)

/-- Some field was brought to a limit or a default, or an owning block overrode a value: CLAMPED is set (R196). A section
of an unknown code counts as brought to a value of its own (notes/assumptions/7). -/
def Clamps (f : Nat → Option Int) (role : Role) (st : Settings) : Prop :=
  let out : Nat → Int → Int → Prop := fun id lo hi => ∃ v, f id = some v ∧ (v < lo ∨ hi < v)
  (∃ x ∈ numberRows st ++ codeRows st, role ∈ x.uses ∧ out x.id x.lo x.hi) ∨
  (role ≠ .tie ∧ out 2 0 1) ∨ (∃ v, f 3 = some v ∧ v ≠ 50 ∧ v ≠ 60) ∨ out 4 100 32767 ∨ out 7 1 2147483647 ∨
  (role = .generator ∧ out 8 1 65535) ∨
  (∃ x ∈ actionRows st, out x.2 0 2 ∨ (role ≠ .incomer ∧ f x.2 = some 1)) ∨
  (∃ x ∈ pairRows st, out x.2.2.1 1 65535 ∨ out x.2.2.2 1 65535 ∨ rmaxGiven f x.2.2.2 ≤ rminGiven f x.2.2.1)

/-! ### Invariants -/

/-- R53, with what carries it: the close coil is energized only in CLOSING and CLOSED, with the trip coil idle and lockout
clear, in AUTO or MANUAL or in an address conflict entered from one of them. A station returns from an address conflict to
another state (R199). -/
def CoilsKept (s : State) : Prop :=
  (s.cds.closeOut = true → s.cds.tripOut = false ∧ s.bkc.lockout = false ∧
    (s.bkc.state = .closing ∨ s.bkc.state = .closed) ∧
    (s.ssc.station = .auto ∨ s.ssc.station = .manual ∨
      (s.ssc.station = .addressConflict ∧ (s.ssc.returnState = some .auto ∨ s.ssc.returnState = some .manual)))) ∧
  (s.ssc.station.atWork = true → s.settings.isSome) ∧
  (s.ssc.station = .addressConflict → s.sli.conflict.isSome) ∧
  (s.ssc.station = .addressConflict ↔ s.ssc.returnState.isSome) ∧
  s.ssc.returnState ≠ some .addressConflict ∧ DiagnosticsKept s

/-- R27, R30, R34: a phase accumulator lies between 0 and TD × PU², a picked-up element counts 1 to its delay, an operated
one stands at its delay plus one, and a dropped one counts 0; the transfer set lists at most 30 origins, each once;
before the settings are in force every element stands reset. -/
def ProtectionKept (s : State) : Prop :=
  (s.ssc.station = .start → s.settings = none ∧ s.pes = Pes.reset) ∧ s.ssc.returnState ≠ some .start ∧
  s.pes.transfers.length ≤ 30 ∧ (s.pes.transfers.map fun o => o.station).Nodup ∧
  (∀ st, s.settings = some st →
    (∀ i : Fin 3, s.pes.phases[i].acc ≤ st.pes.td * (st.pes.pu5 * st.pes.pu5)) ∧
    (∀ e d, st.pes.definite e = some d →
      ((s.pes.el e).state = .dropped → (s.pes.el e).counter = 0) ∧
      ((s.pes.el e).state = .pickedUp → 1 ≤ (s.pes.el e).counter ∧ (s.pes.el e).counter ≤ d.delay) ∧
      ((s.pes.el e).state = .operated → (s.pes.el e).counter = d.delay + 1)))

/-- The synchronizer's record (R121, R122, R128, R131, R133, R139): a claim exists exactly in CLAIMING, a request is held in
every working state, each timer runs only where its rule starts it, and no permit is counted in the refusal wait. -/
def SynKept (s : State) : Prop :=
  let y := s.syn
  y.deadCount ≤ 3 ∧ y.permitCount ≤ 1 ∧ (y.attempt = 1 ∨ y.attempt = 2) ∧
  (y.avrRaise = true → y.avrLower = false) ∧ (y.claim.isSome ↔ y.state = .claiming) ∧
  (y.state ∈ ([.synchronizing, .claiming, .yielded] : List SynState) → y.request.isSome) ∧
  (y.syncTimer.isSome → y.request.isSome) ∧ (y.retryTimer.isSome → y.state = .idle ∧ y.request.isSome) ∧
  (y.holdTimer.isSome → ∃ c, y.claim = some c ∧ c.phase = .holding) ∧
  (y.yieldTimer.isSome → y.state = .yielded) ∧ (y.winner.isSome → y.state = .yielded) ∧
  (y.refusalTimer.isSome → y.permitCount = 0)

/-- The link (R83, R90, R92, R98): the queues keep their capacities, while the link is in conflict nothing but CONFLICT
frames waits or is sent, nothing is in flight and no line is free before the line was first seen free after START, and
no item waits for a line that stands free (notes/assumptions/49). -/
def LinkKept (s : State) : Prop :=
  let l := s.sli
  l.events.length ≤ 8 ∧ l.data.length ≤ 2 ∧ (s.ssc.station = .start → l.conflict = none ∧ l.watching = false) ∧
  (l.lineFree = true ∨ l.flight.isSome → l.watching = true) ∧
  (l.conflict.isSome ↔ l.conflictTimer.isSome) ∧
  (l.conflict.isSome →
    l.bfSlot = none ∧ l.noticeSlot = none ∧ l.claimSlot = none ∧ l.reportSlot = none ∧ l.events = [] ∧ l.data = [] ∧
    l.presenceTimer = none ∧ (l.presenceSlot = none ∨ ∃ n, l.presenceSlot = some (.conflict n)) ∧
    (∀ f, l.flight = some f → f.slot = .presence ∧ f.frame.head? = some 0xE0)) ∧
  LineSettled s

/-- The peer entries (R106, R108, R112): the own entry is unused, and each state has its timers. -/
def PeersKept (s : State) : Prop :=
  s.sli.ownNumber ≠ 0 ∧ s.ptb.entries[0] = Entry.empty ∧ s.ptb.entries[s.sli.ownNumber] = Entry.empty ∧
  (∀ n : Fin 32, let e := s.ptb.entries[n]
    e.refresh ≤ 255 ∧ (e.freshTimer.isSome ↔ e.state = .fresh) ∧
    (e.lossTimer.isSome ↔ e.state = .fresh ∨ e.state = .stale) ∧ (e.conflict.isSome ↔ e.state = .conflicted) ∧
    (e.state = .empty → e.report = none ∧ e.closedTime = none))

/-- A report whose every field has a value that its place in the payload holds (R102, R208). -/
def ReportFits (r : Report) : Prop :=
  (r.service = .settingsFault ↔ r.body = none) ∧
  ∀ b, r.body = some b →
    let fits16 : Option Int → Prop := fun x => ∀ v, x = some v → -32768 ≤ v ∧ v ≤ 32767
    let frequency : Option Int → Prop := fun x => ∀ v, x = some v → 0 ≤ v ∧ v < 2 ^ 32
    b.breaker.isSome ∧ frequency b.fLine ∧ frequency b.fBus ∧ fits16 b.load ∧ fits16 b.theta ∧ fits16 b.slip ∧
    (∀ k, b.ratedKw = some k → k < 65536) ∧ (∀ f, b.feeder = some f → f.1 < 256 ∧ f.2 < 65536) ∧
    (∃ q, b.csq = some q ∧ q ∈ CsqState.inactive :: roleStates b.role) ∧ b.roleDetail.role = b.role ∧
    (∀ m i x c, b.roleDetail = .incomer m i x c → m.isSome) ∧
    (∃ c, b.claim = some c ∧ c ≠ .withdrawn) ∧ b.tripCircuit.isSome ∧ b.closeCircuit.isSome ∧
    (∀ x, b.lastRun = some x → x.circuit.isSome ∧ x.outcome.isSome) ∧ b.recordsHeld < 16 ∧
    (∀ e, b.echo = some e → e.result.isSome ∧ ∃ k, e.kind = some k ∧ k.toNat < 14)

/-! ### Frames -/

/-- The blocks of a station that a command may write to. Two effects belong to no command's own blocks: a ZERO condition
that it makes true zeroes the load share controller (R144), and an item that waits for a line that stands free begins its
frame (R83). -/
inductive Part where
  | time | pins | settings | siu | cme | pes | bkc | cds | sli | ptb | syn | lsc | csq | drc | ssc
deriving DecidableEq, Repr

/-- The block is left as it was; the load share controller may have been zeroed, and a free line taken by the item that
waits for it. -/
def Part.kept (b : Part) (s t : State) : Prop :=
  match b with
  | .time => t.localTime = s.localTime
  | .pins => t.pins = s.pins
  | .settings => t.settings = s.settings
  | .siu => t.siu = s.siu
  | .cme => t.cme = s.cme
  | .pes => t.pes = s.pes
  | .bkc => t.bkc = s.bkc
  | .cds => t.cds = s.cds
  | .sli => t.sli = s.sli ∨ (t.ssc.station ≠ .start ∧ s.sli.lineFree = true ∧ s.sli.flight = none ∧
      ∃ slot, s.sli.choice = some slot ∧ t.sli = s.sli.begin s.pins.identity slot)
  | .ptb => t.ptb = s.ptb
  | .syn => t.syn = s.syn
  | .lsc => (t.lsc = s.lsc ∨ (t.zeroHolds = true ∧ t.lsc = s.lsc.toZero)) ∧ t.freeCount = s.freeCount
  | .csq => t.csq = s.csq
  | .drc => t.drc = s.drc
  | .ssc => t.ssc = s.ssc

/-- The blocks that a command writes to: its own block and those that its rules instruct. -/
def partsWritten : Instr → List Part
  | .reset _ _ =>
    [.time, .pins, .settings, .siu, .cme, .pes, .bkc, .cds, .sli, .ptb, .syn, .lsc, .csq, .drc, .ssc]
  | .settingsNoAcknowledge => [.sli, .ptb, .lsc, .drc, .ssc]
  | .settingsReadRetry => [.time, .ssc]
  | .settingsImageRead _ => [.settings, .bkc, .cds, .sli, .ptb, .syn, .lsc, .csq, .drc, .ssc]
  | .presenceRepeatTimer => [.time, .sli]
  | .presenceExpiry => [.time, .ssc]
  | .debounceExpiry _ => [.time, .pes, .bkc, .cds, .sli, .syn, .lsc, .csq, .drc, .ssc]
  | .sampleStrobe _ => [.siu]
  | .cmeCycleRecord => [.cme]
  | .ptbMeasuredUpdate => [.ptb]
  | .sscCycleCompletion => [.ssc]
  | .drcBufferStore | .drcTrigger _ _ => [.drc, .sli]
  | .rawInputChange _ _ => [.pins, .ssc]
  | .overtempRise | .overtempFall => [.pins, .cds]
  | .tripClaim _ _ | .openClaim _ | .closeClaim _ => [.bkc, .cds, .sli, .syn, .lsc, .csq, .ssc]
  | .closePulseEnd | .closingTimerExpiry | .tripPulseEnd | .stuckTimerExpiry | .discrepancyTimerExpiry
  | .diagnosticStepEnd _ => [.time, .bkc, .cds]
  | .lockoutPulseEnd => [.time, .bkc]
  | .periodTimerExpiry | .diagnosticRetryExpiry => [.time, .cds]
  | .bfTimerExpiry | .bfRecheckExpiry => [.time, .bkc, .cds, .sli]
  | .cdsBreakerStateChange | .cdsStationStateChange => [.cds]
  | .lineFree | .frameDiscarded _ | .inputChangeReceived _ _ _ _ | .dataReceived _ _ _
  | .presenceReceived _ _ | .captureDirectory _ | .captureRead _ | .unknownRequest _ _ => [.sli]
  | .frameCompleted | .transmitBitError => [.sli, .syn]
  | .arbitrationLost _ => [.sli, .ssc]
  | .tripNoticeReceived _ _ _ | .captureTriggerEventReceived _ _ _ _ | .captureTrigger _ | .captureRelease _ =>
    [.sli, .drc]
  | .claimReceived _ _ | .claimWithdrawReceived _ => [.sli, .ptb, .syn]
  | .conflictReceived _ _ | .assignNumber _ => [.sli, .ptb, .ssc]
  | .conflictTimerExpiry => [.time, .sli]
  | .runDiagnostics _ => [.sli, .cds]
  | .setMode _ => [.sli, .ssc]
  | .resetLockout _ => [.sli, .bkc, .lsc, .csq, .syn, .ssc]
  | .resetAlarm _ => [.sli, .bkc, .syn, .lsc, .csq]
  | .transferTest _ | .retransferInhibit _ | .retransferNow _ => [.sli, .syn, .lsc, .csq, .ssc]
  | .openRequest _ => [.sli, .bkc, .cds, .syn, .lsc, .csq, .ssc]
  | .closeRequest _ => [.sli, .bkc, .cds, .syn]
  | .reportTimerExpiry => [.time, .sli, .ptb]
  | .ptbSourcePublication _ => [.sli, .ptb]
  | .freshnessTimerExpiry _ | .lossTimerExpiry _ | .conflictClearExpiry _ => [.time, .ptb]
  | .pesConflictMarking _ => [.pes]
  | .transferOriginExpiry _ => [.time, .pes]
  | .pesStationStateChange _ _ => [.pes, .sli, .syn, .lsc, .csq, .ssc]
  | .pesCycleEvaluation => [.pes, .sli, .syn, .lsc, .csq, .ssc]
  | .bfTransferReceived _ _ => [.pes, .sli, .syn, .lsc, .csq, .ssc]
  | .reportReceived _ _ => [.pes, .sli, .ptb, .syn, .lsc, .csq, .ssc]
  | .synCycleCompletion | .synViewEvent | .synBreakerRecord | .synStationStateChange _ _ => [.sli, .syn]
  | .syncTimerExpiry | .synRetryExpiry | .holdTimerExpiry | .yieldTimerExpiry | .refusalWaitExpiry
  | .avrPulseEnd | .avrSpacingExpiry => [.time, .sli, .syn]
  | .lscSlipCorrection | .lscSynPublication | .lscViewEvent | .lscBreakerRecord | .lscStationStateChange _ _
  | .govBiasPeriodStart => [.lsc]
  | .shareIntervalExpiry | .unloadTimerExpiry | .overlapDeadlineExpiry => [.time, .lsc]
  | .csqCycleCompletion | .csqViewEvent | .csqBreakerRecord | .csqPesPublication | .csqSynOutcome _
  | .csqLscMode | .csqAutoEntry | .csqAutoExit => [.sli, .syn, .lsc, .csq, .ssc]
  | .failureConfirmExpiry | .retransferDelayExpiry | .overlapBackupExpiry | .startDelayExpiry
  | .startTimerExpiry | .cooldownExpiry | .shedDelayExpiry | .restoreWaitExpiry | .overloadTimerExpiry
  | .shedSettleExpiry => [.time, .sli, .syn, .lsc, .csq, .ssc]

end Sys2Proof.Machine
end

