-- ==== Sys2Proof/Certificates/Slice0/Obligations.lean ====
section
/-! DEFINITION. The statements for the provers: the rules of the spec that say what each command does, family by family,
and the invariants that every step keeps. -/

open Sys2Proof Sys2Proof.Machine

/-! ### The machine -/

/-- A step takes the command at the front of the queue and runs it on the state with the queue's rest; on an empty queue
one millisecond of local time passes (the model's choice, notes/assumptions/1 and 5). -/
def Obligations.StepRunsTheFrontCommand : Prop :=
  (∀ (c : Instr) (rest : List Instr) (s : State), step (s.withPending (c :: rest)) = exec c (s.withPending rest)) ∧
  (∀ s : State, step (s.withPending []) = .next ((s.withPending []).withTime (s.localTime + 1)))

/-- Every command runs in every state and leaves the queue of waiting commands as it stands; every command but RESET
leaves the straps, and none touches the factory identity. That a command runs without its delivery (notes/assumptions/3)
and an expiry without its timer (notes/assumptions/5), and that the queue and the identity stand through every command,
RESET included (notes/assumptions/36), are the model's choices. Settings once in force stay in force until the next
reset: outside START no command but RESET changes them (R18, R24, R196). -/
def Obligations.EveryCommandRunsAndKeepsTheQueue : Prop :=
  (∀ (c : Instr) (s : State), ∃ t, exec c s = .next t ∧ t.pending = s.pending ∧
     t.pins.identity = s.pins.identity ∧
     ((∀ straps raw, c ≠ .reset straps raw) → t.pins.straps = s.pins.straps)) ∧
  (∀ (c : Instr) (s t : State), (∀ straps raw, c ≠ .reset straps raw) → s.ssc.station ≠ .start →
     exec c s = .next t → t.settings = s.settings)

/-- Whatever the state, a command writes only to its own block and to the blocks that its rules instruct; the load
share controller may besides be brought to ZERO (R144), an item that waits for a free line may begin its frame (R83; at
the end of the command by the model's choice, notes/assumptions/49), and the settings change at the end of START and at
a reset alone. -/
def Obligations.EveryCommandStaysInItsBlocks : Prop :=
  ∀ (c : Instr) (s t : State) (b : Part), exec c s = .next t → b ∉ partsWritten c → b.kept s t

/-- RESET (R6, R21, R43, R67, R81, R101, R120, R140, R156, R177, R194, R205): every field of every block is at its
reset value, whatever stood before, and no output is energized; the machine right after power-on stands so too, with
every pin at level 0. The breaker state, the lockout flag and the drive level until they are first derived, the
contents of the empty capture blocks, the recorder's held input levels and its post count, the CSQ's seen breaker, the
first read attempt and the pins at power-on are the model's choice (notes/assumptions/4), and so are the model's own fields (notes/assumptions/17, 18 and 50). That the
waiting commands, the identity and the level of the over-temperature warning stand through a reset is the model's
choice too (notes/assumptions/36). Every invariant that a step keeps holds of the machine right after reset. -/
def Obligations.ResetLeavesEveryBlockReset : Prop :=
  (∀ (s : State) (straps : BitVec 5) (raw : Vector Bool 15), ∃ t, exec (.reset straps raw) s = .next t ∧
     t.localTime = 0 ∧ t.settings = none ∧ t.due = [] ∧ t.pending = s.pending ∧ t.freeCount = s.freeCount ∧
     t.pins = { s.pins with straps := straps, raw := raw } ∧
     t.ssc =
       { station := .start, clamped := false, returnState := none, debounced := raw,
         debounceTimers := Vector.replicate 15 none, runRequest := false, attempts := 1, reading := true,
         readRetry := none, presenceTimer := none, convertersLost := false } ∧
     (let buffer : Buffer := { cycle := none, sets := [], clipped := Vector.replicate 8 false }
      t.siu = { bufA := buffer, bufB := buffer, fillB := false, handedB := none, count := 0, status := none }) ∧
     (let history : History := { t0 := none, t1 := none, age := none, last := none }
      t.cme = { record := none, lineHist := history, busHist := history, warmCount := 0 }) ∧
     t.pes =
       { elements := Vector.replicate 10 { state := .dropped, counter := 0, held := false },
         phases := Vector.replicate 3 { acc := 0, state := .idle }, transfers := [] } ∧
     t.bkc =
       { state := .opened, lockout := false, failedToClose := false, stuckAlarm := false, closeCircuitFault := false,
         lastTrip := none, lastPurpose := none, bfTimer := none, bfFlag := false, recheckTimer := none,
         discrepancyTimer := none, closePulse := none, closingTimer := none, tripPulse := none, stuckTimer := none,
         lockoutPulse := none } ∧
     t.cds =
       { tripOut := false, closeOut := false, level := .normal, lowered := false, reduced := false, run := none,
         steps := Vector.replicate 4 .notRun, tripResult := .unknown, closeResult := .unknown, lastRun := none,
         periodTimer := none, retryTimer := none, periodStarted := false } ∧
     t.sli.ownNumber.val = (if straps = 0 then 31 else straps.toNat) ∧
     t.sli =
       { ownNumber := t.sli.ownNumber, bfSlot := none, noticeSlot := none, claimSlot := none, reportSlot := none,
         events := [], data := [], presenceSlot := none, flight := none, watching := false, lineFree := false,
         counters := { txErrors := 0, rxCrc := 0, rxFormat := 0, overruns := 0, dropped := 0 }, eventsLost := false,
         conflict := none, conflictTimer := none, presenceTimer := none, presenceLeft := 0,
         echo := { count := 0, body := none, detail := none } } ∧
     (let entry : Entry :=
        { state := .empty, report := none, reportTime := none, freshTimer := none, lossTimer := none,
          closedTime := none, refresh := 0, claim := .none, conflict := none }
      t.ptb =
        { entries := Vector.replicate 32 entry, ownBreaker := none, ownSequence := none, ownClaim := none,
          ownService := none, ownMeasured := none, reportTimer := none, addMark := none }) ∧
     t.syn =
       { state := .idle, request := none, attempt := 1, closeInFlight := false, permitCount := 0, deadCount := 0,
         claim := none, winner := none, syncTimer := none, retryTimer := none, holdTimer := none, yieldTimer := none,
         refusalTimer := none, avrSpacing := none, avrPulse := none, avrRaise := false, avrLower := false,
         failedAlarm := false, closeTaken := false, lockoutSeen := false } ∧
     t.lsc =
       { mode := .zero, resume := none, bias := 0, ramp := none, te := none, reason := none, openClaimed := false,
         shareTimer := none, unloadTimer := none, overlap := none, duty := 500 } ∧
     t.csq =
       { state := .inactive, fedB := false, shedCause := none, mode := none, monitor := .healthy,
         confirmTimer := none, confirmLeft := none, transferTest := false, inhibit := false, delayRunOut := false,
         startFailed := false, blocked := false, retransferDelay := none, overlapBackup := none, startDelay := none,
         startTimer := none, cooldown := none, shedDelay := none, restoreWait := none, overloadTimer := none,
         overloadExpired := false, shedSettle := none, holding := false, ownOpen := false, seenBreaker := .opened,
         seenShed := [], restoreTaken := false, withdrawn := 0 } ∧
     t.drc =
       { blocks := Vector.replicate 96 { sets := [], cycle := 0, gap := false, clipped := false, trigger := false },
         free := List.finRange 96, ring := [], records := [], postCount := 0, markNext := false, seqCounter := 0,
         full := false, missed := 0, overwritten := 0, gin := Vector.replicate 4 false } ∧
     t.alarm = false ∧ t.lockoutSetOut = false ∧ t.lockoutClrOut = false) ∧
  (exec (.reset 0 (Vector.replicate 15 false)) State.reset = .next State.reset ∧
     State.reset.pins = { straps := 0, raw := Vector.replicate 15 false, overTemp := false, identity := 0 }) ∧
  (CoilsKept State.reset ∧ ProtectionKept State.reset ∧ SynKept State.reset ∧ LinkKept State.reset ∧
     PeersKept State.reset ∧ BiasKept State.reset ∧ RecorderKept State.reset)

/-! ### Measurement -/

/-- The stored sample, validity mark and CLIPPED mark of a converter word (the table of R2). -/
def Obligations.ConverterWordIsStoredByTheTable : Prop :=
  ∀ (channel : Nat) (w : BitVec 24),
    (-32767 ≤ (storedSample channel w).value ∧ (storedSample channel w).value ≤ 32767) ∧
    (¬ (wordTag w = channel ∧ w.getLsbD 4 = true) →
      storedSample channel w = { value := 0, valid := false } ∧ wordClips channel w = false) ∧
    (wordTag w = channel → w.getLsbD 4 = true →
      (storedSample channel w).valid = true ∧
      (w.getLsbD 3 = true → wordSample w ≥ 0 →
        (storedSample channel w).value = 32767 ∧ wordClips channel w = true) ∧
      (w.getLsbD 3 = true → wordSample w < 0 →
        (storedSample channel w).value = -32767 ∧ wordClips channel w = true) ∧
      (w.getLsbD 3 = false → wordSample w = -32768 →
        (storedSample channel w).value = -32767 ∧ wordClips channel w = true) ∧
      (w.getLsbD 3 = false → wordSample w ≠ -32768 →
        (storedSample channel w).value = wordSample w ∧ wordClips channel w = false))

/-- SAMPLE_STROBE (R1, R3, R4, R5): one sample set is stored with the count as it stood, the count rises by one, and the
set at position 47 hands the buffer on with its converter status. Nothing else changes. -/
def Obligations.SampleStrobeFillsOneBuffer : Prop :=
  ∀ (s : State) (st : Settings) (words : Vector (BitVec 24) 8), s.settings = some st → Settled s →
    s.siu.filling.sets.length ≤ 48 →
    let u := s.siu
    let x : SampleSet := { count := u.count, samples := Vector.ofFn fun c : Fin 8 => storedSample c.val words[c] }
    ∃ t, exec (.sampleStrobe words) s = .next t ∧ t = { s with siu := t.siu, due := t.due } ∧
      t.siu.count = u.count + 1 ∧
      -- the other buffer is not written
      (if u.fillB then t.siu.bufA = u.bufA else t.siu.bufB = u.bufB) ∧
      -- a buffer that begins filling: an empty one, or one that was handed on
      (u.filling.sets.length = 0 ∨ u.filling.sets.length = 48 →
        t.siu.filling.cycle = some (u.count.toNat / 48) ∧ t.siu.filling.sets = [x] ∧
        (∀ c : Fin 8, t.siu.filling.clipped[c] = wordClips c.val words[c])) ∧
      -- a buffer in the course of filling
      (0 < u.filling.sets.length → u.filling.sets.length < 47 →
        t.siu.filling.cycle = u.filling.cycle ∧ t.siu.filling.sets = u.filling.sets ++ [x] ∧
        (∀ c : Fin 8, t.siu.filling.clipped[c] = (u.filling.clipped[c] || wordClips c.val words[c]))) ∧
      (u.filling.sets.length ≠ 47 →
        t.siu.fillB = u.fillB ∧ t.siu.handedB = u.handedB ∧ t.siu.status = u.status ∧ t.due = s.due) ∧
      -- the cycle completion
      (u.filling.sets.length = 47 →
        t.siu.fillB = !u.fillB ∧ t.siu.handedB = some u.fillB ∧
        (∃ b, t.siu.handed = some b ∧ b.cycle = u.filling.cycle ∧ b.sets = u.filling.sets ++ [x] ∧
          (∀ c : Fin 8, b.clipped[c] = (u.filling.clipped[c] || wordClips c.val words[c])) ∧
          t.siu.status =
            some (if ∀ y ∈ b.sets, ∀ c : Fin 8, y.samples[c].valid = false then .lost else .ok)) ∧
        .cmeBuffer ∈ t.due ∧ .drcBuffer ∈ t.due)

/-- CME_CYCLE_RECORD at a completion with converter status OK (R7, R9 to R11, R13, R14, R17, R19): what the new record
holds, the warm-up count, the hand-over to the six readers, and the two crossing histories: each takes the crossings of
the boundary pair and of the pairs within the buffer in their order, ages when none was accepted, and keeps the
channel's last sample. That the count rises with some or all channels invalid too is the model's choice between two
sentences of R19 (notes/assumptions/66). A completion with converter status LOST (R19, R20): both
histories are discarded, the warm-up count is 0 and the record is WARMUP with every measured quantity absent. -/
def Obligations.CycleRecordsAreMade : Prop :=
  (∀ (s : State) (st : Settings) (b : Buffer), s.settings = some st → s.siu.handed = some b →
     s.siu.status = some .ok → Settled s →
     ∃ t, exec .cmeCycleRecord s = .next t ∧ t = { s with cme := t.cme, due := t.due } ∧
       ∃ r, t.cme.record = some r ∧ r.cycle = b.cycle.getD 0 ∧ r.clipped = b.clipped ∧
       r.warmup = decide (s.cme.warmCount < 2) ∧ t.cme.warmCount = min 2 (s.cme.warmCount + 1) ∧
       (let after : Fin 8 → History → History := fun c h =>
          let xs := b.sets.map fun x => (x.count, x.samples[c])
          -- the kept last sample was strobed one instant before position 0
          let boundary := match h.last, xs.head? with
            | some e, some x => (crossing (x.1 - 1) e x.2).toList
            | _, _ => []
          let inner := (xs.zip xs.tail).flatMap fun p => (crossing p.1.1 p.1.2 p.2.2).toList
          let y := (boundary ++ inner).foldl History.accept (h, false)
          { y.1.grow y.2 with last := (xs.map fun x => x.2).getLast? }
        t.cme.lineHist = after 0 s.cme.lineHist ∧ t.cme.busHist = after 3 s.cme.busHist) ∧
       (∀ c : Fin 8, if ∀ x ∈ b.sets, x.samples[c].valid = true then
           ∃ ms, r.ms[c] = some ms ∧ r.rms[c] = some (isqrt ms) ∧
             ms = (b.sets.map fun x => x.samples[c].value.natAbs * x.samples[c].value.natAbs).sum / 48
         else r.ms[c] = none ∧ r.rms[c] = none) ∧
       (if ∀ x ∈ b.sets, ∀ c ∈ ([0, 1, 2, 4, 5, 6] : List (Fin 8)), x.samples[c].valid = true then
           ∃ p, r.power = some p ∧ p = Int.tdiv
             ((b.sets.map fun x => x.samples[0].value * x.samples[4].value).sum +
               (b.sets.map fun x => x.samples[1].value * x.samples[5].value).sum +
               (b.sets.map fun x => x.samples[2].value * x.samples[6].value).sum) 48 ∧
             r.load = st.station.flp.map fun full => clampInt (-1000) 2000 (Int.tdiv (p * 1000) (full : Int))
         else r.power = none ∧ r.load = none) ∧
       r.line = (match r.rms[0] with
         | none => .unknown
         | some v => if st.station.vnom * st.station.livePm / 1000 ≤ v then .live
           else if v ≤ st.station.vnom * st.station.deadPm / 1000 then .dead else .indeterminate) ∧
       r.bus = (match r.rms[3] with
         | none => .unknown
         | some v => if st.station.vnom * st.station.livePm / 1000 ≤ v then .live
           else if v ≤ st.station.vnom * st.station.deadPm / 1000 then .dead else .indeterminate) ∧
       (∀ d ∈ ([.pesRecord, .synRecord, .lscRecord, .csqRecord, .ptbRecord, .sscRecord] : List Delivery), d ∈ t.due)) ∧
  (∀ (s : State) (st : Settings) (b : Buffer), s.settings = some st → s.siu.handed = some b →
     s.siu.status = some .lost → b.sets ≠ [] → (∀ x ∈ b.sets, ∀ c : Fin 8, x.samples[c].valid = false) →
     Settled s →
     ∃ t, exec .cmeCycleRecord s = .next t ∧ t = { s with cme := t.cme, due := t.due } ∧
       ∃ r, t.cme.record = some r ∧ t.cme.warmCount = 0 ∧
       t.cme.lineHist = { t0 := none, t1 := none, age := none, last := none } ∧
       t.cme.busHist = { t0 := none, t1 := none, age := none, last := none } ∧
       r.warmup = true ∧ (∀ c : Fin 8, r.rms[c] = none ∧ r.ms[c] = none) ∧ r.power = none ∧ r.load = none ∧
       r.fLine = none ∧ r.fBus = none ∧ r.theta = none ∧ r.line = .unknown ∧ r.bus = .unknown)

/-- The frequencies and the angle of a record made at a completion with status OK (R15, R16). -/
def Obligations.CycleRecordFrequenciesAndAngle : Prop :=
  ∀ (s : State) (st : Settings) (b : Buffer), s.settings = some st → s.siu.handed = some b →
    s.siu.status = some .ok →
    let frequencyOf : Fin 8 → History → Option Int → Prop := fun c h f =>
      (h.t0 = none ∨ h.t1 = none ∨ (∃ x ∈ b.sets, x.samples[c].valid = false) → f = none) ∧
      (∀ t0, h.t0 = some t0 → ∀ t1, h.t1 = some t1 → (∀ x ∈ b.sets, x.samples[c].valid = true) →
        let hz := 48 * st.station.fnom * 256 * 1000 / (t1 - t0).toNat
        f = if 40000 ≤ hz ∧ hz ≤ 70000 then some (hz : Int) else none)
    ∃ t, exec .cmeCycleRecord s = .next t ∧ ∃ r, t.cme.record = some r ∧
      frequencyOf 0 t.cme.lineHist r.fLine ∧ frequencyOf 3 t.cme.busHist r.fBus ∧
      (r.theta.isSome ↔ r.fLine.isSome ∧ r.fBus.isSome) ∧
      (∀ a, r.theta = some a → -17999 ≤ a ∧ a ≤ 18000 ∧
        ∃ l, t.cme.lineHist.t1 = some l ∧ ∃ b1, t.cme.busHist.t1 = some b1 ∧ ∃ b0, t.cme.busHist.t0 = some b0 ∧
          -- d is the signed difference of the crossings, reduced by whole bus periods to within half of one
          let p : Int := (b1 - b0).toNat
          let d := (l - b1).toInt - p * ((2 * (l - b1).toInt + p) / (2 * p))
          0 ≤ 2 * d + p ∧ 2 * d < p ∧ a = -(Int.tdiv (36000 * d) p))

/-- A crossing of a pair of consecutive samples, and the acceptance of crossings into a history (R12, R13, R14). RMS is
the largest integer whose square does not exceed the mean square (R9), and at most 32767 (R8). -/
def Obligations.CrossingsAreFoundAndAccepted : Prop :=
  ((∀ (n : BitVec 32) (a b : Sample),
     ((∃ x, crossing n a b = some x) ↔ a.valid = true ∧ b.valid = true ∧ a.value < 0 ∧ 0 ≤ b.value) ∧
     (∀ x, crossing n a b = some x → let q := (256 * -a.value) / (b.value - a.value)
       0 ≤ q ∧ q ≤ 256 ∧ (q = 256 ↔ b.value = 0) ∧ x = 256#40 * n.zeroExtend 40 + BitVec.ofNat 40 q.toNat)) ∧
   (∀ (h : History) (got : Bool) (x : CrossTime),
     ((∃ t1, h.t1 = some t1 ∧ (x - t1).toNat < 6144) → History.accept (h, got) x = (h, got)) ∧
     (¬ (∃ t1, h.t1 = some t1 ∧ (x - t1).toNat < 6144) →
       History.accept (h, got) x =
         ({ t0 := h.t1, t1 := some x, age := some 0, last := h.last }, true))) ∧
   (∀ h : History, h.grow true = h ∧ (h.t1 = none → h.grow false = h) ∧
     (h.t1.isSome → h.age = some 0 → h.grow false = { h with age := some 1 }) ∧
     (h.t1.isSome → h.age = some 1 → h.grow false = { h with t0 := none, t1 := none, age := none }))) ∧
  ((∀ n : Nat, n < 2 ^ 32 → isqrt n * isqrt n ≤ n ∧ n < (isqrt n + 1) * (isqrt n + 1)) ∧
   (∀ (b : Buffer) (c : Fin 8) (ms : Nat), b.sets.length ≤ 48 →
     (∀ x ∈ b.sets, -32767 ≤ x.samples[c].value ∧ x.samples[c].value ≤ 32767) → b.meanSquare c = some ms →
     ms ≤ 1073676289 ∧ isqrt ms ≤ 32767))

/-! ### Protection -/

/-- The table of R26: the quantity of each definite-time element, its condition and its dropout level. -/
def Obligations.DefiniteElementsCompareByTheTable : Prop :=
  ∀ (p : PesSettings) (r : Record),
    let picksUp : ElementNo → Prop := fun e => ∀ d, p.definite e = some d → ∀ q, r.quantity e = some q → d.holds q = true
    let dropsOut : ElementNo → Prop := fun e => ∀ d, p.definite e = some d → ∀ q, r.quantity e = some q → d.drops q = true
    let compares : ElementNo → Prop := fun e => (p.definite e).isSome ∧ (r.quantity e).isSome
    (∀ a b c, r.rms[4] = some a → r.rms[5] = some b → r.rms[6] = some c →
      let m : Int := (max a (max b c) : Nat)
      compares .e3 ∧ (picksUp .e3 ↔ m ≥ p.pu3) ∧ (dropsOut .e3 ↔ m < p.pu3 - (p.pu3 / 20 : Nat))) ∧
    (∀ m, r.rms[7] = some m →
      compares .e4 ∧ (picksUp .e4 ↔ m ≥ p.pu4) ∧ (dropsOut .e4 ↔ (m : Int) < p.pu4 - (p.pu4 / 20 : Nat))) ∧
    (∀ load, r.load = some load →
      compares .e6 ∧ (picksUp .e6 ↔ load ≤ -p.rpPm) ∧ (dropsOut .e6 ↔ load > -p.rpPm + (p.rpPm / 20 : Nat))) ∧
    (∀ a b c, r.rms[0] = some a → r.rms[1] = some b → r.rms[2] = some c →
      compares .e7 ∧ compares .e8 ∧
      (picksUp .e7 ↔ min a (min b c) ≤ p.pu7) ∧ (dropsOut .e7 ↔ min a (min b c) > p.pu7 + p.pu7 / 20) ∧
      (picksUp .e8 ↔ max a (max b c) ≥ p.pu8) ∧
      (dropsOut .e8 ↔ ((max a (max b c) : Nat) : Int) < p.pu8 - (p.pu8 / 20 : Nat))) ∧
    (∀ f, r.fLine = some f →
      compares .e9 ∧ compares .e10 ∧ (picksUp .e9 ↔ f ≤ p.pu9) ∧ (dropsOut .e9 ↔ f > p.pu9 + 20) ∧
      (picksUp .e10 ↔ f ≥ p.pu10) ∧ (dropsOut .e10 ↔ f < p.pu10 - 20))

/-- PES_CYCLE_EVALUATION on a definite-time element that is neither held nor blocked: one step by the table of R27. -/
def Obligations.DefiniteElementsFollowTheStepTable : Prop :=
  ∀ (s : State) (st : Settings) (r : Record) (e : ElementNo) (d : Definite) (q : Int),
    s.settings = some st → s.cme.record = some r → s.ssc.station.protects = true → r.warmup = false →
    st.inService e = true → st.pes.definite e = some d → r.quantity e = some q →
    blocked st s.bkc.state e = false →
    ∃ t, exec .pesCycleEvaluation s = .next t ∧
      let x := s.pes.el e
      let y := t.pes.el e
      y.held = false ∧
      (x.state = .dropped → d.holds q = true →
        y.counter = 1 ∧ y.state = if d.delay = 0 then .operated else .pickedUp) ∧
      (x.state = .dropped → d.holds q = false → y.state = .dropped ∧ y.counter = 0) ∧
      (x.state = .pickedUp → d.drops q = true → y.state = .dropped ∧ y.counter = 0) ∧
      (x.state = .pickedUp → d.drops q = false →
        y.counter = x.counter + 1 ∧ y.state = if x.counter + 1 = d.delay + 1 then .operated else .pickedUp) ∧
      (x.state = .operated → d.drops q = true → y.state = .dropped ∧ y.counter = 0) ∧
      (x.state = .operated → d.drops q = false → y.state = .operated ∧ y.counter = x.counter)

/-- PES_CYCLE_EVALUATION on an element that is blocked, held or out of service (R23, R28, R29). Elements 1 and 2 take no
part. PES_CYCLE_EVALUATION on the phases of element 5 (R30, R31, R32). -/
def Obligations.HeldBlockedAndInverseTimeElements : Prop :=
  (∀ (s : State) (st : Settings) (r : Record) (e : ElementNo),
     s.settings = some st → s.cme.record = some r → s.ssc.station.protects = true →
     ∃ t, exec .pesCycleEvaluation s = .next t ∧
       t.pes.el .e1 = s.pes.el .e1 ∧ t.pes.el .e2 = s.pes.el .e2 ∧ t.pes.transfers = s.pes.transfers ∧
       (st.inService e = false → t.pes.el e = s.pes.el e) ∧
       (e ∈ ([.e3, .e4, .e6, .e7, .e8, .e9, .e10] : List ElementNo) → st.inService e = true →
         (6 ≤ elementNumber e → st.pes.action e = .trip → s.bkc.state ≠ .closed →
           t.pes.el e = { state := .dropped, counter := 0, held := false }) ∧
         (¬ (6 ≤ elementNumber e ∧ st.pes.action e = .trip ∧ s.bkc.state ≠ .closed) →
           (r.warmup = true ∨ r.quantity e = none) →
           t.pes.el e = { s.pes.el e with held := true }))) ∧
  (∀ (s : State) (st : Settings) (r : Record) (i : Fin 3),
     s.settings = some st → s.cme.record = some r → s.ssc.station.protects = true → st.inService .e5 = true →
     ∃ t, exec .pesCycleEvaluation s = .next t ∧
       let full := st.pes.td * (st.pes.pu5 * st.pes.pu5)
       let x := s.pes.phases[i]
       let y := t.pes.phases[i]
       (r.warmup = true ∨ r.ms[i.val + 4] = none → y = x) ∧
       (∀ ms, r.ms[i.val + 4] = some ms → r.warmup = false →
         let msc := min ms (64 * (st.pes.pu5 * st.pes.pu5))
         (st.pes.pu5 * st.pes.pu5 < msc →
           y.acc = min (x.acc + (msc - st.pes.pu5 * st.pes.pu5)) full ∧
           y.state = if y.acc = full then .operated else .timing) ∧
         (msc ≤ st.pes.pu5 * st.pes.pu5 →
           y.acc = x.acc - max 1 (full / st.pes.rt) ∧ y.state = if y.acc = 0 then .idle else .decaying)) ∧
       ((t.pes.el .e5).state = .operated ↔ ∃ j : Fin 3, t.pes.phases[j].state = .operated) ∧
       ((t.pes.el .e5).state = .dropped ↔
         ∀ j : Fin 3, t.pes.phases[j].state = .idle ∨ t.pes.phases[j].state = .decaying) ∧
       ((t.pes.el .e5).held = true ↔ r.warmup = true ∨ ∃ j : Fin 3, r.ms[j.val + 4] = none))

/-- A cycle evaluation outside TEST at which some element with the action TRIP operates (R37, R38, R39): one trip claim
and one TRIP trigger with the lowest-numbered such element and no other, a TRIP notice unless the link is in conflict,
and a FEEDER's running sequence passes to TRIPPED (R172). External trip outside TEST (R33, R38): a change of the
debounced EXT_TRIP to active operates element 1 from DROPPED, with the same effects; a change to inactive drops it.
A cycle evaluation at which none operates (R42): one PICKUP trigger with the lowest-numbered element that passed from
DROPPED to picked up, and none without such an element. After each of these events the PES publishes to the CSQ (R22),
and its publication says whether a cycle evaluation made it (notes/assumptions/24). -/
def Obligations.OperationsClaimTrips : Prop :=
  (∀ (s : State) (st : Settings) (r : Record) (e : ElementNo) (rest : List ElementNo),
     s.settings = some st → s.cme.record = some r → s.ssc.station.protects = true → s.ssc.station ≠ .test →
     newlyOperated st s.pes (s.pes.evaluate st s.bkc.state r) = e :: rest →
     ∃ t, exec .pesCycleEvaluation s = .next t ∧
       let detail : Byte := (match e with
         | .e3 => phaseByte (atOrAbove st.pes.pu3 r.rms[4]) (atOrAbove st.pes.pu3 r.rms[5])
           (atOrAbove st.pes.pu3 r.rms[6])
         | .e5 => phaseByte (t.pes.phases[0].state == .operated) (t.pes.phases[1].state == .operated)
           (t.pes.phases[2].state == .operated)
         | _ => 0)
       (∀ f : ElementNo, st.pes.action f = .trip → (s.pes.el f).state ≠ .operated →
         (t.pes.el f).state = .operated → elementNumber e ≤ elementNumber f) ∧
       (t.pes.el e).state = .operated ∧ st.pes.action e = .trip ∧ (s.pes.el e).state ≠ .operated ∧
       .tripClaim e detail ∈ t.due ∧ .drcTrigger .trip e ∈ t.due ∧ .csqPes true ∈ t.due ∧
       (∀ f x, .tripClaim f x ∈ t.due → (f = e ∧ x = detail) ∨ .tripClaim f x ∈ s.due) ∧
       (∀ k f, .drcTrigger k f ∈ t.due → (k = .trip ∧ f = e) ∨ .drcTrigger k f ∈ s.due) ∧
       (st.station.role = .feeder → s.ssc.station = .auto → s.csq.state ≠ .inactive →
         t.csq.state = .tripped ∧ t.csq.shedCause = none) ∧
       (s.sli.conflict = none → t.sli.noticeSlot = some { element := e, detail := detail })) ∧
  (∀ (s : State) (st : Settings) (due : Time),
     s.settings = some st → s.ssc.station.protects = true → s.ssc.station ≠ .test → st.inService .e1 = true →
     s.ssc.debounceTimers[inputIdx .extTrip] = some due →
     s.pins.raw[inputIdx .extTrip] ≠ s.input .extTrip →
     ∃ t, exec (.debounceExpiry .extTrip) s = .next t ∧ t.input .extTrip = s.pins.raw[inputIdx .extTrip] ∧
       .csqPes false ∈ t.due ∧
       (s.pins.raw[inputIdx .extTrip] = true → (s.pes.el .e1).state = .dropped →
         (t.pes.el .e1).state = .operated ∧ .tripClaim .e1 0 ∈ t.due ∧ .drcTrigger .trip .e1 ∈ t.due ∧
         (st.station.role = .feeder → s.ssc.station = .auto → s.csq.state ≠ .inactive →
           t.csq.state = .tripped ∧ t.csq.shedCause = none) ∧
         (s.sli.conflict = none → t.sli.noticeSlot = some { element := .e1, detail := 0 })) ∧
       (let claims : Prop := s.pins.raw[inputIdx .extTrip] = true ∧ (s.pes.el .e1).state = .dropped
        (∀ f x, .tripClaim f x ∈ t.due → (claims ∧ f = .e1 ∧ x = 0) ∨ .tripClaim f x ∈ s.due) ∧
        (∀ k f, .drcTrigger k f ∈ t.due → (claims ∧ k = .trip ∧ f = .e1) ∨ .drcTrigger k f ∈ s.due)) ∧
       (s.pins.raw[inputIdx .extTrip] = false → (t.pes.el .e1).state = .dropped)) ∧
  (∀ (s : State) (st : Settings) (r : Record),
     s.settings = some st → s.cme.record = some r → s.ssc.station.protects = true → Settled s →
     newlyOperated st s.pes (s.pes.evaluate st s.bkc.state r) = [] →
     ∃ t, exec .pesCycleEvaluation s = .next t ∧ t = { s with pes := t.pes, due := t.due } ∧
       let picked : ElementNo → Prop := fun e => (s.pes.el e).state = .dropped ∧ (t.pes.el e).state ≠ .dropped
       let lowest : ElementNo → Prop := fun e => picked e ∧ ∀ f, picked f → elementNumber e ≤ elementNumber f
       .csqPes true ∈ t.due ∧ (∀ e, lowest e → .drcTrigger .pickup e ∈ t.due) ∧
       (∀ k f, .drcTrigger k f ∈ t.due → (k = .pickup ∧ lowest f) ∨ .drcTrigger k f ∈ s.due) ∧
       (∀ f x, .tripClaim f x ∈ t.due → .tripClaim f x ∈ s.due))

/-- A test operation (R40): in TEST the same evaluation makes no trip claim and no notice, drives no coil and leaves the
breaker record, the sequence and the link as they stand; only the recorder gets its TRIP trigger.
PES_STATION_STATE_CHANGE (R25, R33, R41): in an inactive state the element set stands reset, and a passage between two
active states neither of which is TEST leaves it as it stands. A passage into or out of TEST re-initializes it, and one
from an inactive state to an active one leaves all but element 1; at both element 1, in service, takes the debounced
EXT_TRIP: with it active it operates from DROPPED, which into TEST is a test operation and otherwise a trip claim with a
TRIP trigger, a TRIP notice unless the link is in conflict, and TRIPPED for a FEEDER's running sequence. After each of
these events the PES publishes to the CSQ (R22), and its publication says whether a cycle evaluation made it
(notes/assumptions/24). -/
def Obligations.TestOperationsClaimNothing : Prop :=
  (∀ (s : State) (st : Settings) (r : Record) (e : ElementNo) (rest : List ElementNo),
     s.settings = some st → s.cme.record = some r → s.ssc.station = .test → Settled s →
     newlyOperated st s.pes (s.pes.evaluate st s.bkc.state r) = e :: rest →
     ∃ t, exec .pesCycleEvaluation s = .next t ∧ t = { s with pes := t.pes, due := t.due } ∧
       .csqPes true ∈ t.due ∧ (t.pes.el e).state = .operated ∧ .drcTrigger .trip e ∈ t.due ∧
       (∀ f detail, .tripClaim f detail ∈ t.due → .tripClaim f detail ∈ s.due)) ∧
  (∀ (s : State) (st : Settings) (a b : StationState), s.settings = some st → a ≠ b → Settled s →
     let resetElement : Element := { state := .dropped, counter := 0, held := false }
     let operated : Element := { state := .operated, counter := 0, held := false }
     let tested : Prop := a = .test ∨ b = .test
     let comes : Prop := a.protects = false ∧ ¬ tested
     let takes : Prop := st.inService .e1 = true ∧ s.input .extTrip = true
     let claims : Prop := b.protects = true ∧ takes ∧ (tested ∨ (comes ∧ (s.pes.el .e1).state = .dropped))
     ∃ t, exec (.pesStationStateChange a b) s = .next t ∧ .csqPes false ∈ t.due ∧
       -- the element set
       (b.protects = false → t.pes.transfers = [] ∧ (∀ i : Fin 3, t.pes.phases[i] = { acc := 0, state := .idle }) ∧
         ∀ e : ElementNo, t.pes.el e = resetElement) ∧
       (b.protects = true → a.protects = true → ¬ tested → t.pes = s.pes) ∧
       (b.protects = true → tested →
         t.pes.transfers = [] ∧ (∀ i : Fin 3, t.pes.phases[i] = { acc := 0, state := .idle }) ∧
         (∀ e : ElementNo, e ≠ .e1 → t.pes.el e = resetElement) ∧
         (takes → t.pes.el .e1 = operated) ∧ (¬ takes → t.pes.el .e1 = resetElement)) ∧
       (b.protects = true → comes →
         t.pes.transfers = s.pes.transfers ∧ t.pes.phases = s.pes.phases ∧
         (∀ e : ElementNo, e ≠ .e1 → t.pes.el e = s.pes.el e) ∧
         (takes → (s.pes.el .e1).state = .dropped → t.pes.el .e1 = operated) ∧
         (takes → (s.pes.el .e1).state ≠ .dropped → t.pes.el .e1 = s.pes.el .e1) ∧
         (st.inService .e1 = true → s.input .extTrip = false → t.pes.el .e1 = resetElement) ∧
         (st.inService .e1 = false → t.pes.el .e1 = s.pes.el .e1)) ∧
       -- what element 1 makes as it operates
       (¬ claims → t = { s with pes := t.pes, due := t.due } ∧
         (∀ f x, .tripClaim f x ∈ t.due → .tripClaim f x ∈ s.due) ∧
         (∀ k f, .drcTrigger k f ∈ t.due → .drcTrigger k f ∈ s.due)) ∧
       (claims → .drcTrigger .trip .e1 ∈ t.due ∧
         (∀ k f, .drcTrigger k f ∈ t.due → (k = .trip ∧ f = .e1) ∨ .drcTrigger k f ∈ s.due) ∧
         (b = .test → t = { s with pes := t.pes, due := t.due } ∧
           (∀ f x, .tripClaim f x ∈ t.due → .tripClaim f x ∈ s.due)) ∧
         (b ≠ .test → .tripClaim .e1 0 ∈ t.due ∧
           (∀ f x, .tripClaim f x ∈ t.due → (f = .e1 ∧ x = 0) ∨ .tripClaim f x ∈ s.due) ∧
           (s.sli.conflict = none → t.sli.noticeSlot = some { element := .e1, detail := 0 }) ∧
           (s.sli.conflict.isSome → t.sli = s.sli) ∧
           (st.station.role = .feeder → s.ssc.station = .auto → s.csq.state ≠ .inactive →
             t.csq.state = .tripped ∧ t.csq.shedCause = none))))

/-- BF_TRANSFER_RECEIVED at the PES (R34, R36), outside TEST, from another station: a known origin is confirmed; a new
one in scope is added and operates element 2 from DROPPED; a new one out of scope is disregarded. In a set of 30 the
origin that bears the own number makes room (the model's choice, notes/assumptions/38). PES_CONFLICT_MARKING and
TRANSFER_ORIGIN_EXPIRY (R35): the origin leaves the transfer set, and with the last origin element 2 drops.
REPORT_RECEIVED at the PES (R35), outside TEST, of a report that the peer table records: its BF flag set is taken as a
notice with the section set of the report, both sections of a TIE, and its BF flag clear removes the origin; a report
without the flag does neither (the model's choice, notes/assumptions/23). -/
def Obligations.TransferOriginsComeAndGo : Prop :=
  (∀ (s : State) (st : Settings) (n : StationNo) (sections : Byte),
     s.settings = some st → s.ssc.station.protects = true → s.ssc.station ≠ .test → st.inService .e2 = true →
     s.sli.watching = true → n ≠ s.sli.ownNumber → s.sli.conflict = none → n ≠ 0 →
     let inScope := st.station.role = .tie ∨ ((st.station.role = .incomer ∨ st.station.role = .generator) ∧
       st.station.sections.overlaps (sectionsOfByte sections) = true)
     let known := ∃ o ∈ s.pes.transfers, o.station = n
     ∃ t, exec (.bfTransferReceived n sections) s = .next t ∧ .csqPes false ∈ t.due ∧
       (known → t.pes.elements = s.pes.elements ∧
         t.pes.transfers = s.pes.transfers.map fun o => if o.station = n then { o with confirmed := s.localTime } else o) ∧
       (¬ known → ¬ inScope → t.pes = s.pes) ∧
       (¬ known → inScope →
         let origin : Origin := { station := n, sections := sectionsOfByte sections, confirmed := s.localTime }
         let others := s.pes.transfers.filter fun o => o.station != s.sli.ownNumber
         (s.pes.transfers.length < 30 → t.pes.transfers = s.pes.transfers ++ [origin]) ∧
         (30 ≤ s.pes.transfers.length → t.pes.transfers.length ≤ 30 ∧
           (others.length < 30 → t.pes.transfers = others ++ [origin])) ∧
         ((s.pes.el .e2).state = .dropped → (t.pes.el .e2).state = .operated ∧
           .tripClaim .e2 (BitVec.ofNat 8 n.val) ∈ t.due ∧
           t.sli.noticeSlot = some { element := .e2, detail := BitVec.ofNat 8 n.val }) ∧
         ((s.pes.el .e2).state ≠ .dropped → t.pes.elements = s.pes.elements))) ∧
  (∀ (s : State) (n : StationNo) (o : Origin), s.pes.origin n = some o → Settled s →
     let rest := s.pes.transfers.filter fun x => x.station != n
     (∃ t, exec (.pesConflictMarking n) s = .next t ∧ t = { s with pes := t.pes, due := t.due } ∧
       t.pes.transfers = rest ∧ (∀ e, e ≠ .e2 → t.pes.el e = s.pes.el e) ∧
       t.pes.el .e2 = if rest = [] then { state := .dropped, counter := 0, held := false } else s.pes.el .e2) ∧
     (∃ t, exec (.transferOriginExpiry n) s = .next t ∧
       t = { s with pes := t.pes, due := t.due, localTime := (s.reach (o.confirmed + 1000)).localTime } ∧
       t.pes.transfers = rest ∧ (∀ e, e ≠ .e2 → t.pes.el e = s.pes.el e) ∧
       t.pes.el .e2 = if rest = [] then { state := .dropped, counter := 0, held := false } else s.pes.el .e2)) ∧
  (∀ (s : State) (st : Settings) (n : StationNo) (payload : Vector Byte 58),
     s.settings = some st → s.ssc.station.protects = true → s.ssc.station ≠ .test → st.inService .e2 = true →
     s.sli.watching = true → n ≠ s.sli.ownNumber → s.sli.conflict = none → n ≠ 0 →
     (s.ptb.entries[n].state = .conflicted → ∃ c, s.ptb.entries[n].conflict = some c ∧ c.cleared = true) →
     let known := ∃ o ∈ s.pes.transfers, o.station = n
     let rest := s.pes.transfers.filter fun x => x.station != n
     ∃ t, exec (.reportReceived n payload) s = .next t ∧
       ((decodeReport payload.toList).body = none → t.pes = s.pes) ∧
       ∀ b, (decodeReport payload.toList).body = some b →
         let shown : SectionSet := if b.role = .tie then { a := true, b := true } else b.sections
         let inScope := st.station.role = .tie ∨ ((st.station.role = .incomer ∨ st.station.role = .generator) ∧
           st.station.sections.overlaps shown = true)
         .csqPes false ∈ t.due ∧
         (b.bf = true → known → t.pes.elements = s.pes.elements ∧
           t.pes.transfers =
             s.pes.transfers.map fun o => if o.station = n then { o with confirmed := s.localTime } else o) ∧
         (b.bf = true → ¬ known → ¬ inScope → t.pes = s.pes) ∧
         (b.bf = true → ¬ known → inScope →
           (s.pes.transfers.length < 30 → t.pes.transfers =
             s.pes.transfers ++ [{ station := n, sections := shown, confirmed := s.localTime }]) ∧
           ((s.pes.el .e2).state = .dropped → (t.pes.el .e2).state = .operated ∧
             .tripClaim .e2 (BitVec.ofNat 8 n.val) ∈ t.due ∧ .drcTrigger .trip .e2 ∈ t.due ∧
             t.sli.noticeSlot = some { element := .e2, detail := BitVec.ofNat 8 n.val }) ∧
           ((s.pes.el .e2).state ≠ .dropped → t.pes.elements = s.pes.elements)) ∧
         (b.bf = false → ¬ known → t.pes = s.pes) ∧
         (b.bf = false → known → t.pes.transfers = rest ∧ (∀ e, e ≠ .e2 → t.pes.el e = s.pes.el e) ∧
           t.pes.el .e2 = if rest = [] then { state := .dropped, counter := 0, held := false } else s.pes.el .e2))

/-- The element set (R27, R30, R34), kept by every step: the counters agree with the states, no accumulator leaves its
range, the transfer set lists at most 30 origins and each once, and in START the set is at its reset value. -/
def Obligations.EveryStepKeepsTheElements : Prop :=
  ∀ s t : State, ProtectionKept s → step s = .next t → ProtectionKept t

/-! ### Breaker and coils -/

/-- TRIP_CLAIM (R54, R56, R58, R61, R62): in every breaker state the cause is recorded, lockout is set, breaker failure
is armed from its first start, the close coil is idle and a diagnostic run is ended; the trip coil and the state
follow the table of R54. Nothing outside the breaker record, the coils, the synchronizer's request with its claim
slot, the load share controller and the deliveries changes. OPEN_CLAIM (R54): the same drive, but no cause, no
lockout and no breaker failure. -/
def Obligations.TripAndOpenClaimsAreTaken : Prop :=
  (∀ (s : State) (st : Settings) (cause : ElementNo) (detail : Byte),
     s.settings = some st → s.ssc.station.atWork = true →
     ∃ t, exec (.tripClaim cause detail) s = .next t ∧
       t = { s with bkc := t.bkc, cds := t.cds, sli := t.sli, syn := t.syn, lsc := t.lsc, due := t.due } ∧
       t.bkc.lastTrip = some { element := cause, detail := detail } ∧ t.bkc.lockout = true ∧
       t.bkc.lockoutPulse = (if s.bkc.lockout then s.bkc.lockoutPulse
         else some { onSet := true, due := s.localTime + 50 }) ∧
       t.bkc.bfTimer = (if s.bkc.bfTimer.isSome then s.bkc.bfTimer
         else some { start := s.localTime, due := s.localTime + BitVec.ofNat 32 st.brk.bfMs }) ∧
       t.cds.closeOut = false ∧ t.bkc.closePulse = none ∧ t.cds.run = none ∧
       (s.bkc.state ∈ ([.closed, .closing, .discrepant] : List BreakerState) →
         t.bkc.state = .opening ∧ t.cds.tripOut = true ∧ t.bkc.tripPulse = some (s.localTime + 200) ∧
         t.bkc.stuckTimer = some (s.localTime + 300) ∧ t.bkc.closingTimer = none ∧
         t.bkc.lastPurpose = some .protection) ∧
       (s.bkc.state = .stuckClosed → t.bkc.state = .stuckClosed ∧
         (s.bkc.tripPulse = none → t.cds.tripOut = true ∧ t.bkc.tripPulse = some (s.localTime + 200) ∧
           t.bkc.lastPurpose = some .protection)) ∧
       ((s.bkc.state ∈ ([.opening, .opened, .withdrawn] : List BreakerState) ∨
           (s.bkc.state = .stuckClosed ∧ s.bkc.tripPulse.isSome)) →
         t.bkc.state = s.bkc.state ∧ t.cds.tripOut = s.cds.tripOut ∧ t.bkc.tripPulse = s.bkc.tripPulse ∧
         t.bkc.stuckTimer = s.bkc.stuckTimer ∧ t.bkc.lastPurpose = s.bkc.lastPurpose) ∧
       t.bkc.bfFlag = s.bkc.bfFlag ∧ t.bkc.failedToClose = s.bkc.failedToClose ∧
       t.bkc.stuckAlarm = s.bkc.stuckAlarm ∧ t.bkc.closeCircuitFault = s.bkc.closeCircuitFault) ∧
  (∀ (s : State) (st : Settings) (purpose : OpenPurpose),
     s.settings = some st → s.ssc.station.atWork = true →
     ∃ t, exec (.openClaim purpose) s = .next t ∧
       t = { s with bkc := t.bkc, cds := t.cds, sli := t.sli, syn := t.syn, lsc := t.lsc, due := t.due } ∧
       t.bkc.lastTrip = s.bkc.lastTrip ∧ t.bkc.lockout = s.bkc.lockout ∧ t.bkc.lockoutPulse = s.bkc.lockoutPulse ∧
       t.bkc.bfTimer = s.bkc.bfTimer ∧ t.bkc.bfFlag = s.bkc.bfFlag ∧ t.cds.run = none ∧
       (s.bkc.state ∈ ([.closed, .closing, .discrepant] : List BreakerState) →
         t.bkc.state = .opening ∧ t.cds.tripOut = true ∧ t.cds.closeOut = false ∧
         t.bkc.tripPulse = some (s.localTime + 200) ∧ t.bkc.stuckTimer = some (s.localTime + 300) ∧
         t.bkc.closingTimer = none ∧ t.bkc.lastPurpose = some (openPurpose purpose)) ∧
       (s.bkc.state = .stuckClosed → t.bkc.state = .stuckClosed ∧
         (s.bkc.tripPulse = none → t.cds.tripOut = true ∧ t.bkc.tripPulse = some (s.localTime + 200) ∧
           t.bkc.lastPurpose = some (openPurpose purpose))) ∧
       ((s.bkc.state ∈ ([.opening, .opened, .withdrawn] : List BreakerState) ∨
           (s.bkc.state = .stuckClosed ∧ s.bkc.tripPulse.isSome)) → t.bkc = s.bkc ∧ t.cds.tripOut = s.cds.tripOut))

/-- CLOSE_CLAIM (R49, R50, R51): with every check holding, the claim is taken: the close coil is energized, the state is
CLOSING and the close pulse and the 250 ms CLOSING timer start; with some check failing, the breaker record and the
coils stay as they stand. What the claimant learns of it: a SYNC claim (R128) goes in flight, or starts the refusal wait
of a held request with the consecutive-permit count at 0; a DEAD_BUS claim that is WON (R137, R138) stops the sync timer, or is given up with the refusal wait;
a FEEDER's restoration (R174) goes on in RESTORING, or back to SHED with the restore wait. That this passage into SHED
starts the shed settle timer is the model's choice (notes/assumptions/28), and so is that a claimant takes the answer by
its record as it stands, whether the request, claim or restoration that made the claim still stands, has ended, or has
been followed by another (notes/assumptions/69). -/
def Obligations.CloseClaimIsChecked : Prop :=
  ∀ (s : State) (st : Settings) (purpose : ClosePurpose), s.settings = some st → s.ssc.station.atWork = true →
    let purposeCheck : Prop :=
      (purpose = .deadBus → ∃ r, s.cme.record = some r ∧ r.warmup = false ∧ r.bus = .dead) ∧
      (purpose = .feeder → ∃ r, s.cme.record = some r ∧ r.warmup = false ∧ r.bus = .live ∧
        (st.brk.lineVtFitted = true → r.line ≠ .live))
    let checks : Prop := s.bkc.state = .opened ∧ (s.ssc.station = .auto ∨ s.ssc.station = .manual) ∧
      s.bkc.lockout = false ∧ s.input .springOk = true ∧ s.bkc.closeCircuitFault = false ∧ s.cds.tripOut = false ∧
      purposeCheck
    ∃ t, exec (.closeClaim purpose) s = .next t ∧
      (checks → t.bkc.state = .closing ∧ t.cds.closeOut = true ∧ t.cds.tripOut = false ∧ t.cds.run = none ∧
        t.bkc.lastPurpose = some (closePurpose purpose) ∧
        t.bkc.closePulse = some (s.localTime + BitVec.ofNat 32 st.brk.closePulseMs) ∧
        t.bkc.closingTimer = some (s.localTime + 250) ∧ t.bkc.lockout = false ∧ t.bkc.lastTrip = s.bkc.lastTrip ∧
        t.bkc.bfTimer = s.bkc.bfTimer ∧ t.bkc.bfFlag = s.bkc.bfFlag) ∧
      (¬ checks → t.bkc = s.bkc ∧ t.cds = s.cds) ∧
      -- a SYNC claim
      (purpose = .sync → t.csq = s.csq ∧ t.sli.claimSlot = s.sli.claimSlot ∧
        (checks → t.syn.closeInFlight = true ∧ t.syn.syncTimer = none ∧ t.syn.correction = false ∧
          t.syn.avrRaise = false ∧ t.syn.avrLower = false ∧ t.syn.state = s.syn.state ∧
          t.syn.request = s.syn.request ∧ t.syn.claim = s.syn.claim ∧ t.syn.refusalTimer = s.syn.refusalTimer) ∧
        (¬ checks → s.syn.request.isSome → t.syn =
          { s.syn with permitCount := 0, refusalTimer := some (s.localTime + 1000) }) ∧
        (¬ checks → s.syn.request = none → t.syn = s.syn)) ∧
      -- a DEAD_BUS claim that is WON
      (purpose = .deadBus → t.csq = s.csq ∧ ((∀ c, s.syn.claim = some c → c.phase ≠ .won) → t.syn = s.syn) ∧
        ∀ c, s.syn.claim = some c → c.phase = .won →
        (checks → t.syn.claim = some c ∧ t.syn.syncTimer = none ∧ t.syn.state = s.syn.state ∧
          t.syn.request = s.syn.request ∧ t.sli.claimSlot = s.sli.claimSlot) ∧
        (¬ checks → t.syn.claim = none ∧ t.syn.state = .synchronizing ∧ t.syn.permitCount = 0 ∧
          t.syn.request = s.syn.request ∧ t.syn.syncTimer = s.syn.syncTimer ∧
          t.syn.refusalTimer = some (s.localTime + 1000) ∧
          (s.sli.claimSlot = none → s.sli.conflict = none → t.sli.claimSlot = some .withdraw))) ∧
      -- a restoration
      (purpose = .feeder → t.syn = s.syn ∧
        (s.csq.state ≠ .restoring → t.csq = s.csq) ∧
        (s.csq.state = .restoring →
          (checks → t.csq = { s.csq with restoreTaken := true }) ∧
          (¬ checks → t.csq.state = .shed ∧ t.csq.shedCause = s.csq.shedCause ∧
            t.csq.restoreWait = some (s.localTime + 1000) ∧
            t.csq.shedSettle = some (s.localTime + BitVec.ofNat 32 st.csq.shedSettleMs)))) ∧
      t.localTime = s.localTime ∧ t.pes = s.pes ∧ t.cme = s.cme ∧ t.siu = s.siu ∧ t.drc = s.drc ∧
      t.settings = s.settings

/-- CLOSE_PULSE_END, TRIP_PULSE_END and LOCKOUT_PULSE_END (R51, R55, R62, R71): the pulse ends, and a coil pulse that
ran at its setting from start to end clears DRIVE_REDUCED. The breaker state is left. CLOSING_TIMER_EXPIRY in
CLOSING (R52), STUCK_TIMER_EXPIRY in OPENING (R55) and DISCREPANCY_TIMER_EXPIRY in OPEN and CLOSED (R46): the state
each leaves, its alarm, and what of the record stays. STUCK_CLOSED is made with the contacts not yet open; that contacts
which show open at the expiry end the trip in OPEN is the model's choice (notes/assumptions/48). -/
def Obligations.BreakerPulsesAndTimersEnd : Prop :=
  (∀ (s : State), Settled s →
     (∀ due, s.bkc.closePulse = some due → s.cds.closeOut = true →
       ∃ t, exec .closePulseEnd s = .next t ∧
         t = { s with bkc := { s.bkc with closePulse := none }, due := t.due, localTime := (s.reach due).localTime,
                      cds := { s.cds with closeOut := false, reduced := s.cds.lowered && s.cds.reduced } }) ∧
     (∀ due, s.bkc.tripPulse = some due → s.cds.tripOut = true →
       ∃ t, exec .tripPulseEnd s = .next t ∧
         t = { s with bkc := { s.bkc with tripPulse := none }, due := t.due, localTime := (s.reach due).localTime,
                      cds := { s.cds with tripOut := false, reduced := s.cds.lowered && s.cds.reduced } }) ∧
     (∀ p, s.bkc.lockoutPulse = some p →
       ∃ t, exec .lockoutPulseEnd s = .next t ∧ t.lockoutSetOut = false ∧ t.lockoutClrOut = false ∧
         t = { s with bkc := { s.bkc with lockoutPulse := none }, due := t.due,
                      localTime := (s.reach p.due).localTime })) ∧
  (∀ (s : State) (due : Time), LineSettled s →
     (s.bkc.closingTimer = some due → s.bkc.state = .closing →
       ∃ t, exec .closingTimerExpiry s = .next t ∧
         t = { s with bkc := t.bkc, cds := t.cds, lsc := t.lsc, due := t.due,
                      localTime := (s.reach due).localTime } ∧
         t.bkc = { s.bkc with state := .opened, failedToClose := true, closingTimer := none, closePulse := none,
                              discrepancyTimer := none } ∧
         t.cds.closeOut = false ∧ t.cds.tripOut = s.cds.tripOut) ∧
     (s.bkc.stuckTimer = some due → s.bkc.state = .opening →
       ∃ t, exec .stuckTimerExpiry s = .next t ∧
         t = { s with bkc := t.bkc, cds := t.cds, lsc := t.lsc, due := t.due,
                      localTime := (s.reach due).localTime } ∧ t.cds.closeOut = false ∧
         (s.contacts ≠ .opened →
           t.bkc = { s.bkc with state := .stuckClosed, stuckAlarm := true, stuckTimer := none, closePulse := none,
                                discrepancyTimer := none } ∧ t.cds.tripOut = s.cds.tripOut) ∧
         (s.contacts = .opened →
           t.bkc = { s.bkc with state := .opened, stuckTimer := none, tripPulse := none, closePulse := none,
                                discrepancyTimer := none } ∧ t.cds.tripOut = false)) ∧
     (s.bkc.discrepancyTimer = some due → (s.bkc.state = .opened ∨ s.bkc.state = .closed) →
       ∃ t, exec .discrepancyTimerExpiry s = .next t ∧
         t = { s with bkc := t.bkc, cds := t.cds, lsc := t.lsc, due := t.due,
                      localTime := (s.reach due).localTime } ∧
         t.bkc = { s.bkc with state := .discrepant, discrepancyTimer := none, closePulse := none } ∧
         t.cds.closeOut = false ∧ t.cds.tripOut = s.cds.tripOut))

/-- BF_TIMER_EXPIRY and BF_RECHECK_EXPIRY (R59, R60): when breaker failure operates, and when its flag clears. -/
def Obligations.BreakerFailureIsDecided : Prop :=
  ∀ (s : State) (st : Settings), s.settings = some st → Settled s →
    let current : Prop := ∃ r, s.cme.record = some r ∧ r.warmup = false ∧
      ∃ i : Fin 3, ∃ ms, r.ms[i.val + 4] = some ms ∧ st.brk.bfpu * st.brk.bfpu < ms
    (∀ b, s.bkc.bfTimer = some b →
      ∃ t, exec .bfTimerExpiry s = .next t ∧ t.bkc.bfTimer = none ∧ t.bkc.state = s.bkc.state ∧
        t = { s with bkc := t.bkc, cds := t.cds, sli := t.sli, due := t.due,
                     localTime := (s.reach b.due).localTime } ∧
        ((s.input .bkrClosed = true ∨ current) →
          t.bkc.bfFlag = true ∧ t.bkc.lockout = true ∧ t.cds.closeOut = false ∧ t.bkc.recheckTimer.isSome = true ∧
          (s.sli.conflict = none → t.sli.bfSlot = some st.station.sections)) ∧
        (¬ (s.input .bkrClosed = true ∨ current) →
          t.bkc = { s.bkc with bfTimer := none } ∧ t.cds = s.cds ∧ t.sli = s.sli)) ∧
    (∀ due, s.bkc.recheckTimer = some due →
      ∃ t, exec .bfRecheckExpiry s = .next t ∧
        t = { s with bkc := t.bkc, due := t.due, localTime := (s.reach due).localTime } ∧
        ((s.bkc.state = .opened ∨ s.bkc.state = .withdrawn) ∧ ¬ current →
          t.bkc = { s.bkc with bfFlag := false, recheckTimer := none }) ∧
        (¬ ((s.bkc.state = .opened ∨ s.bkc.state = .withdrawn) ∧ ¬ current) →
          t.bkc = { s.bkc with recheckTimer := some (t.localTime + 20) }))

/-- DEBOUNCE_EXPIRY of an auxiliary contact (R45, R46, R47, R52, R55, R56): how the breaker state follows the new
contact position. DEBOUNCE_EXPIRY of RACKED_IN (R45, R48): WITHDRAWN with both coils idle when it becomes inactive,
the derivation from the contacts when it becomes active; the latched alarms, lockout and the BF timer are left. -/
def Obligations.BreakerFollowsItsContacts : Prop :=
  (∀ (s : State) (st : Settings) (i : Input) (due : Time),
     s.settings = some st → s.ssc.station.atWork = true → (i = .bkrClosed ∨ i = .bkrOpen) →
     s.ssc.debounceTimers[inputIdx i] = some due → s.pins.raw[inputIdx i] ≠ s.input i →
     ∃ t, exec (.debounceExpiry i) s = .next t ∧ t.input i = s.pins.raw[inputIdx i] ∧
       t.bkc.lockout = s.bkc.lockout ∧ t.bkc.bfTimer = s.bkc.bfTimer ∧
       (s.bkc.state = .opened → t.contacts = .closed → t.bkc.state = .closed ∧
         t.bkc.lastPurpose = some .uncommanded ∧ t.bkc.discrepancyTimer = none) ∧
       (s.bkc.state = .closed → t.contacts = .opened → t.bkc.state = .opened ∧ t.cds.closeOut = false ∧
         t.bkc.lastPurpose = some .uncommanded ∧ t.bkc.discrepancyTimer = none) ∧
       (s.bkc.state = .opened ∨ s.bkc.state = .closed → t.contacts = .transit ∨ t.contacts = .contradictory →
         t.bkc.state = s.bkc.state ∧ t.bkc.discrepancyTimer =
           if s.bkc.discrepancyTimer.isSome then s.bkc.discrepancyTimer else some (t.localTime + 50)) ∧
       ((s.bkc.state = .opened ∧ t.contacts = .opened) ∨ (s.bkc.state = .closed ∧ t.contacts = .closed) →
         t.bkc = { s.bkc with discrepancyTimer := none }) ∧
       (s.bkc.state = .discrepant → t.contacts = .opened ∨ t.contacts = .closed →
         t.bkc.state = t.contacts.derived ∧ t.bkc.lastPurpose = some .uncommanded) ∧
       (s.bkc.state = .discrepant → t.contacts = .transit ∨ t.contacts = .contradictory → t.bkc = s.bkc) ∧
       (s.bkc.state = .closing → t.contacts = .closed → t.bkc.state = .closed ∧ t.bkc.closingTimer = none ∧
         t.bkc.closePulse = s.bkc.closePulse ∧ t.cds.closeOut = s.cds.closeOut) ∧
       (s.bkc.state = .closing → t.contacts ≠ .closed → t.bkc = s.bkc) ∧
       (s.bkc.state = .opening ∨ s.bkc.state = .stuckClosed →
         (t.contacts = .opened → t.bkc.state = .opened ∧ t.cds.tripOut = false ∧ t.bkc.stuckTimer = none ∧
           t.bkc.tripPulse = none ∧ t.bkc.stuckAlarm = s.bkc.stuckAlarm) ∧
         (t.contacts ≠ .opened → t.bkc = s.bkc)) ∧
       (s.bkc.state = .withdrawn → t.bkc = s.bkc)) ∧
  (∀ (s : State) (st : Settings) (due : Time),
     s.settings = some st → s.ssc.station.atWork = true →
     s.ssc.debounceTimers[inputIdx .rackedIn] = some due → s.pins.raw[inputIdx .rackedIn] ≠ s.input .rackedIn →
     ∃ t, exec (.debounceExpiry .rackedIn) s = .next t ∧ t.cds.closeOut = false ∧ t.cds.tripOut = false ∧
       t.bkc.state = (if s.pins.raw[inputIdx .rackedIn] then
         (match s.input .bkrClosed, s.input .bkrOpen with
           | false, true => .opened
           | true, false => .closed
           | _, _ => .discrepant) else .withdrawn) ∧
       t.bkc.discrepancyTimer = none ∧ t.bkc.tripPulse = none ∧ t.bkc.closePulse = none ∧
       t.bkc.failedToClose = s.bkc.failedToClose ∧ t.bkc.stuckAlarm = s.bkc.stuckAlarm ∧
       t.bkc.lockout = s.bkc.lockout ∧ t.bkc.bfTimer = s.bkc.bfTimer ∧ t.bkc.lastPurpose = s.bkc.lastPurpose ∧
       t.bkc.lastTrip = s.bkc.lastTrip)

/-- The coil law (R53), kept by every step: the close coil is energized only in CLOSING and CLOSED, with the trip coil
idle and lockout clear, and only in AUTO, MANUAL or an address conflict entered from one of them; and what carries
it. -/
def Obligations.EveryStepKeepsTheCoilLaw : Prop :=
  ∀ s t : State, CoilsKept s → step s = .next t → CoilsKept t

/-- OVERTEMP_RISE and OVERTEMP_FALL, and the level at which a trip pulse begins (R70, R71). PERIOD_TIMER_EXPIRY and
DIAGNOSTIC_RETRY_EXPIRY (R72, R76): the period timer starts again, and a start with no run in progress begins a run,
or records why it does not. CDS_BREAKER_STATE_CHANGE (R75): a breaker state other than the run's start state aborts
the run; and CDS_STATION_STATE_CHANGE (R76): the changes are taken one by one, and the first passage into AUTO or MANUAL
starts the period timer, whatever the station state is by then. That the command acts on the present station state where
no change waits is the model's choice (notes/assumptions/3). -/
def Obligations.DriveLevelAndDiagnosticsStart : Prop :=
  (∀ (s : State), Settled s →
     (∃ t, exec .overtempRise s = .next t ∧
       t = { s with pins := { s.pins with overTemp := true }, cds := t.cds, due := t.due } ∧
       (s.cds.tripOut = true ∨ s.cds.closeOut = true →
         (s.cds.level = .low → t.cds = s.cds) ∧
         (s.cds.level = .normal → t.cds = { s.cds with level := .low, lowered := true, reduced := true }) ∧
         (s.cds.level = .high → t.cds = { s.cds with level := .normal, lowered := true, reduced := true })) ∧
       (s.cds.tripOut = false → s.cds.closeOut = false → t.cds = s.cds)) ∧
     (∃ t, exec .overtempFall s = .next t ∧
       t = { s with pins := { s.pins with overTemp := false }, due := t.due }) ∧
     (∀ st, s.settings = some st → ∀ cause detail, s.ssc.station.atWork = true → s.bkc.state = .closed →
       s.cds.tripOut = false → s.cds.closeOut = false →
       ∃ t, exec (.tripClaim cause detail) s = .next t ∧ t.cds.tripOut = true ∧
         t.cds.level = (if s.pins.overTemp then st.brk.driveLevel.lower else st.brk.driveLevel) ∧
         t.cds.lowered = (s.pins.overTemp && st.brk.driveLevel != .low) ∧
         t.cds.reduced = (s.cds.reduced || t.cds.lowered))) ∧
  (∀ (s : State) (st : Settings) (due : Time), s.settings = some st → Settled s →
     (s.cds.periodTimer = some due →
       ∃ t, exec .periodTimerExpiry s = .next t ∧
         t = { s with cds := t.cds, due := t.due, localTime := (s.reach due).localTime } ∧ RunStart s t ∧
         t.cds.periodTimer = some (t.localTime + BitVec.ofNat 32 (1000 * st.brk.diagPeriodS))) ∧
     (s.cds.retryTimer = some due →
       ∃ t, exec .diagnosticRetryExpiry s = .next t ∧
         t = { s with cds := t.cds, due := t.due, localTime := (s.reach due).localTime } ∧ RunStart s t ∧
         t.cds.periodTimer = s.cds.periodTimer ∧ (s.cds.run.isSome → t.cds.retryTimer = none))) ∧
  (∀ (s : State) (st : Settings), s.settings = some st → Settled s →
     (∃ t, exec .cdsBreakerStateChange s = .next t ∧ t = { s with cds := t.cds, due := t.due } ∧
       (s.cds.run = none → t.cds = s.cds) ∧
       (∀ r, s.cds.run = some r → (r.startState = s.bkc.state → t.cds = s.cds) ∧
         (r.startState ≠ s.bkc.state → t.cds.run = none ∧
           t.cds.lastRun = some { circuit := r.circuit.runCircuit, outcome := .aborted, time := s.localTime } ∧
           (∀ i : Fin 4, t.cds.steps[i] = if i.val + 1 < r.step then s.cds.steps[i] else .notRun) ∧
           t.cds.retryTimer = (if s.cds.retryTimer.isSome then s.cds.retryTimer else some (s.localTime + 1000)) ∧
           t.cds.tripResult = s.cds.tripResult ∧ t.cds.closeResult = s.cds.closeResult))) ∧
     (∃ t, exec .cdsStationStateChange s = .next t ∧ t = { s with cds := t.cds, due := t.due } ∧
       -- `y` is the state that the change taken passed into
       (∀ y, let first : Prop := s.cds.periodStarted = false ∧ (y = .auto ∨ y = .manual)
         let acts : Prop :=
           (first → t.cds.periodTimer = some (s.localTime + BitVec.ofNat 32 (1000 * st.brk.diagPeriodS)) ∧
             t.cds.periodStarted = true ∧ t.cds.run = s.cds.run) ∧
           (¬ first → t.cds = s.cds)
         (∀ before after, s.due = before ++ .cdsStation y :: after → (∀ x, .cdsStation x ∉ before) →
           acts ∧ t.due = before ++ after) ∧
         ((∀ x, .cdsStation x ∉ s.due) → y = s.ssc.station → acts ∧ t.due = s.due))))

/-- DIAGNOSTIC_STEP_END (R73, R74, R77, R78): the result of each step, the end of the run at a failed step 1 or 2 and at
step 4, and what the summary becomes. -/
def Obligations.DiagnosticStepsAreJudged : Prop :=
  ∀ (s : State) (st : Settings) (r : DiagRun) (x : Reading), s.settings = some st → s.cds.run = some r →
    DiagnosticsKept s → Settled s →
    let limits := match r.circuit with
      | .trip => (st.brk.rminTrip, st.brk.rmaxTrip)
      | .close => (st.brk.rminClose, st.brk.rmaxClose)
    let result : StepResult :=
      if r.step = 1 then (if x.heldAtSupply then .fail .short else .pass)
      else if r.step = 2 then (match x.pullDown with
        | .heldAtGround => .fail .short
        | .noContinuity => .fail .openCircuit
        | .followsCoil => .pass)
      else if r.step = 3 then (if x.ohms < limits.1 then .fail .short
        else if limits.2 < x.ohms then .fail .highResistance else .pass)
      else (if x.senseFault then .fail .driverFault else .pass)
    ∃ t, exec (.diagnosticStepEnd x) s = .next t ∧
      t = { s with bkc := t.bkc, cds := t.cds, due := t.due, localTime := (s.reach r.due).localTime } ∧
      (∀ i : Fin 4, t.cds.steps[i] = if i.val + 1 = r.step then result else s.cds.steps[i]) ∧
      (r.step = 4 ∨ (r.step ≤ 2 ∧ result ≠ .pass) →
        t.cds.run = none ∧
        ∃ summary : CircuitResult, (summary = .ok ↔ ∀ i : Fin 4, ∀ f, t.cds.steps[i] ≠ .fail f) ∧
          (summary ≠ .ok → ∃ i : Fin 4, t.cds.steps[i] = .fail summary ∧
            ∀ j : Fin 4, j < i → ∀ g, t.cds.steps[j] ≠ .fail g) ∧
          t.cds.lastRun =
            some { circuit := r.circuit.runCircuit, outcome := summary.outcome, time := t.localTime } ∧
          (r.circuit = .trip → t.cds.tripResult = summary ∧ t.cds.closeResult = s.cds.closeResult ∧
            t.bkc = s.bkc) ∧
          (r.circuit = .close → t.cds.closeResult = summary ∧ t.cds.tripResult = s.cds.tripResult ∧
            t.bkc = { s.bkc with
              closeCircuitFault := (if summary = .openCircuit ∨ summary = .short then true
                else if summary = .ok then false else s.bkc.closeCircuitFault) })) ∧
      (¬ (r.step = 4 ∨ (r.step ≤ 2 ∧ result ≠ .pass)) →
        t.cds.run = some
          { circuit := r.circuit, startState := r.startState, step := r.step + 1,
            due := t.localTime + BitVec.ofNat 32 (stepMs (r.step + 1)) } ∧
        t.bkc = s.bkc ∧ t.cds.lastRun = s.cds.lastRun ∧ t.cds.tripResult = s.cds.tripResult ∧
        t.cds.closeResult = s.cds.closeResult)

/-! ### Synchronizer -/

/-- SYN_CYCLE_COMPLETION in SYNCHRONIZING at a record that is not WARMUP, with no close in flight and no refusal wait
(R126, R127, R128): the permit's conditions, the consecutive-permit count and the SYNC claim at the second permit.
SYN_CYCLE_COMPLETION in every SYN state (R125, R136, R139): the dead count, the WARMUP record, the withdrawal of an
open claim whose bus is no longer dead, and the end of YIELDED on a live bus. While the refusal wait runs the count stays
at 0 and no claim is made, whatever the record (R128). That an open claim is withdrawn (R136) at
a WARMUP record, at which R125 has the SYN take no other step, is the model's choice (notes/assumptions/10). -/
def Obligations.SynchronizerTakesCycleCompletions : Prop :=
  (∀ (s : State) (st : Settings) (r : Record), s.settings = some st → s.cme.record = some r → r.warmup = false →
     s.syn.state = .synchronizing → s.syn.closeInFlight = false → s.syn.closeTaken = false →
     s.syn.refusalTimer = none → s.syn.permitCount ≤ 1 → LineSettled s →
     let permitted : Prop := r.line = .live ∧ r.bus = .live ∧ ∃ th, r.theta = some th ∧
       ∃ fl, r.fLine = some fl ∧ ∃ fb, r.fBus = some fb ∧
       let v0 : Int := (r.rms[0].getD 0 : Nat)
       let v3 : Int := (r.rms[3].getD 0 : Nat)
       let ahead := th + Int.tdiv ((fl - fb) * st.syn.tcMs * 36) 1000
       -- the predicted angle, reduced to -17999..18000
       let p := ahead - 36000 * ((ahead + 17999) / 36000)
       (Int.tdiv ((v0 - v3) * 1000) v3).natAbs ≤ st.syn.voltageWindow ∧
       (fl - fb).natAbs ≤ st.syn.slipWindow ∧
       (st.station.role = .generator → st.syn.positiveSlipOnly = true → 0 < fl - fb) ∧
       p.natAbs ≤ st.syn.angleWindow ∧ p.natAbs ≤ th.natAbs
     ∃ t, exec .synCycleCompletion s = .next t ∧
       t = { s with syn := t.syn, sli := t.sli, lsc := t.lsc, due := t.due } ∧
       (permitted → t.syn.state = .synchronizing ∧ t.sli = s.sli ∧
         (s.syn.permitCount = 1 → t.syn.permitCount = 0 ∧ .closeClaim .sync ∈ t.due) ∧
         (s.syn.permitCount = 0 → t.syn.permitCount = 1)) ∧
       (¬ permitted → t.syn.permitCount = 0 ∧ (.closeClaim .sync ∈ t.due → .closeClaim .sync ∈ s.due))) ∧
  (∀ (s : State) (st : Settings) (r : Record), s.settings = some st → s.cme.record = some r → LineSettled s →
     ∃ t, exec .synCycleCompletion s = .next t ∧
       t.syn.deadCount = (if r.warmup then 0 else if r.bus = .dead then min 3 (s.syn.deadCount + 1) else 0) ∧
       (r.warmup = true → t.syn.permitCount = 0) ∧
       (r.warmup = true → s.syn.state ≠ .claiming →
         t.syn = { s.syn with deadCount := 0, permitCount := 0 } ∧ t.sli = s.sli) ∧
       (∀ c, s.syn.claim = some c → s.syn.state = .claiming → c.phase ≠ .won → t.syn.deadCount < 3 →
         t.syn.state = .synchronizing ∧ t.syn.claim = none ∧ t.syn.holdTimer = none ∧ t.syn.permitCount = 0) ∧
       (s.syn.state = .claiming → s.syn.deadCount = 3 → r.warmup = false → r.bus = .dead →
         t.syn = s.syn) ∧
       (s.syn.state = .yielded → r.warmup = false → r.bus = .live →
         t.syn.state = .synchronizing ∧ t.syn.winner = none ∧ t.syn.yieldTimer = none ∧ t.sli = s.sli) ∧
       (s.syn.state = .idle ∨ s.syn.state = .syncFailed → t.syn.state = s.syn.state ∧ t.sli = s.sli) ∧
       (s.syn.state = .synchronizing → s.syn.refusalTimer.isSome → s.syn.closeInFlight = false →
         s.syn.closeTaken = false →
         t.syn.permitCount = 0 ∧ t.syn.state = .synchronizing ∧ t.syn.refusalTimer = s.syn.refusalTimer ∧
         t.sli = s.sli ∧ (.closeClaim .sync ∈ t.due → .closeClaim .sync ∈ s.due)))

/-- The voltage-regulator check of SYN_CYCLE_COMPLETION (R130), and the ends of its pulse and spacing (AVR_PULSE_END,
AVR_SPACING_EXPIRY). -/
def Obligations.VoltageRegulatorPulses : Prop :=
  (∀ (s : State) (st : Settings) (r : Record) (q : SynRequest), s.settings = some st → s.cme.record = some r →
    r.warmup = false → r.line = .live → r.bus = .live → s.syn.state = .synchronizing → s.syn.request = some q →
    q.mode = .auto → s.syn.closeInFlight = false → s.syn.avrPulse = none → s.syn.avrSpacing = none →
    let dv := Int.tdiv ((((r.rms[0].getD 0 : Nat) : Int) - ((r.rms[3].getD 0 : Nat) : Int)) * 1000)
      ((r.rms[3].getD 0 : Nat) : Int)
    ∃ t, exec .synCycleCompletion s = .next t ∧
      (st.syn.voltageWindow / 2 < dv.natAbs →
        (t.syn.avrRaise = true ↔ dv < 0) ∧ (t.syn.avrLower = true ↔ 0 < dv) ∧
        t.syn.avrPulse = some (s.localTime + BitVec.ofNat 32 (min 500 (dv.natAbs * 10))) ∧
        t.syn.avrSpacing = some (s.localTime + 1000)) ∧
      (dv.natAbs ≤ st.syn.voltageWindow / 2 →
        t.syn.avrRaise = s.syn.avrRaise ∧ t.syn.avrLower = s.syn.avrLower ∧ t.syn.avrPulse = none ∧
        t.syn.avrSpacing = none)) ∧
  (∀ (s : State) (due : Time), Settled s →
    (s.syn.avrPulse = some due → ∃ t, exec .avrPulseEnd s = .next t ∧
      t = { s with due := t.due, localTime := (s.reach due).localTime,
                   syn := { s.syn with avrRaise := false, avrLower := false, avrPulse := none } }) ∧
    (s.syn.avrSpacing = some due → ∃ t, exec .avrSpacingExpiry s = .next t ∧
      t = { s with due := t.due, localTime := (s.reach due).localTime,
                   syn := { s.syn with avrSpacing := none } }))

/-- SYN_VIEW_EVENT in SYNCHRONIZING (R132, R133): a SYN that is eligible makes its claim at that event, and one that is
not does nothing. SYN_VIEW_EVENT with an open claim (R134, R135, R136): a lower-numbered overlapping claim in the
view is yielded to, in phase PENDING and in phase HOLDING; without one, a closed source or other claim sections withdraw
the claim; a WON claim is not given up. That a view which shows both a lower claim and a cause of withdrawal is answered
by the yield is the model's choice (notes/assumptions/14). That eligibility follows the list of R132 alone, also for a
request whose close the BKC has taken and which is no longer in flight (after a trip during CLOSING or a racking out),
where R128 keeps the SYN in SYNCHRONIZING until CLOSED or OPEN, is the model's choice too (notes/assumptions/52). -/
def Obligations.ClaimsAreMadeAndYielded : Prop :=
  (∀ (s : State) (st : Settings), s.settings = some st → s.syn.state = .synchronizing → LineSettled s →
     let wanted := if st.station.role = .tie then ({ a := false, b := true } : SectionSet) else s.groupSections
     let eligible : Prop := s.syn.deadCount = 3 ∧ (∃ r, s.cme.record = some r ∧ r.line = .live ∧
         (st.station.role = .generator → s.input .genReady = true ∧
           ∃ f, r.fLine = some f ∧ (f - st.station.fnom * 1000).natAbs ≤ 500)) ∧
       s.syn.refusalTimer = none ∧ s.syn.closeInFlight = false ∧ s.closedSources wanted = [] ∧
       s.claimsActive wanted = []
     ∃ t, exec .synViewEvent s = .next t ∧
       t = { s with syn := t.syn, sli := t.sli, lsc := t.lsc, due := t.due } ∧
       (eligible → t.syn.state = .claiming ∧ t.syn.claim = some { sections := wanted, phase := .pending } ∧
         t.syn.avrRaise = false ∧ t.syn.avrLower = false ∧ t.syn.correction = false ∧
         (s.sli.conflict = none → t.sli.claimSlot = some (.claim wanted)) ∧
         t.syn.claimField = .claiming wanted) ∧
       (¬ eligible → t.syn = s.syn ∧ t.sli = s.sli)) ∧
  (∀ (s : State) (st : Settings) (c : Claim), s.settings = some st → s.syn.state = .claiming →
     s.syn.claim = some c → LineSettled s →
     let wanted := if st.station.role = .tie then ({ a := false, b := true } : SectionSet) else s.groupSections
     let lower := (((s.claimsActive wanted).filter fun m => m.entry.claim.activeOn c.sections).map fun m =>
       m.number).filter fun n => decide (n < s.sli.ownNumber)
     ∃ t, exec .synViewEvent s = .next t ∧
       t = { s with syn := t.syn, sli := t.sli, lsc := t.lsc, due := t.due } ∧
       (c.phase = .won → t.syn = s.syn ∧ t.sli = s.sli) ∧
       (c.phase ≠ .won → lower ≠ [] →
         t.syn.state = .yielded ∧ t.syn.claim = none ∧ t.syn.holdTimer = none ∧
         t.syn.yieldTimer = some (s.localTime + 2000) ∧
         (∃ w ∈ lower, t.syn.winner = some w ∧ ∀ n ∈ lower, w ≤ n) ∧ t.syn.claimField = .none ∧
         -- a CLAIM waiting in its slot is taken out; otherwise a CLAIM_WITHDRAW is placed
         (s.sli.conflict = none →
           let waits : Prop := (∃ x, s.sli.claimSlot = some x ∧ x ≠ .withdraw) ∧
             ¬ (∃ f, s.sli.flight = some f ∧ f.slot = .claim ∧ f.replaced = false)
           (waits → t.sli.claimSlot = none) ∧ (¬ waits → t.sli.claimSlot = some .withdraw))) ∧
       (c.phase ≠ .won → lower = [] → s.closedSources wanted = [] → wanted = c.sections →
         t.syn = s.syn ∧ t.sli = s.sli) ∧
       (c.phase ≠ .won → lower = [] → s.closedSources wanted ≠ [] →
         t.syn.state = .synchronizing ∧ t.syn.claim = none ∧ t.syn.holdTimer = none ∧ t.syn.permitCount = 0) ∧
       (c.phase ≠ .won → lower = [] → s.closedSources wanted = [] → wanted ≠ c.sections →
         t.syn.holdTimer = none ∧ t.syn.permitCount = 0 ∧
         ((t.syn.state = .synchronizing ∧ t.syn.claim = none) ∨
           (t.syn.state = .claiming ∧ t.syn.claim = some { sections := wanted, phase := .pending }))))

/-- HOLD_TIMER_EXPIRY (R137): with the dead count at 3 a DEAD_BUS close is claimed and the claim is WON; with it below 3
the claim is withdrawn. SYNC_TIMER_EXPIRY and SYN_RETRY_EXPIRY (R131): the first timeout keeps the request for a
retry after 10 s, the second ends it with the latched SYNC_FAILED alarm. YIELD_TIMER_EXPIRY and REFUSAL_WAIT_EXPIRY
(R128, R132, R139): back to SYNCHRONIZING, and eligibility judged at that event. -/
def Obligations.SynchronizerTimersEnd : Prop :=
  (∀ (s : State) (st : Settings) (c : Claim) (due : Time), s.settings = some st → s.syn.holdTimer = some due →
     s.syn.claim = some c → LineSettled s →
     ∃ t, exec .holdTimerExpiry s = .next t ∧
       t = { s with syn := t.syn, sli := t.sli, lsc := t.lsc, due := t.due,
                    localTime := (s.reach due).localTime } ∧
       (s.syn.deadCount = 3 → .closeClaim .deadBus ∈ t.due ∧ t.sli = s.sli ∧
         t.syn = { s.syn with claim := some { sections := c.sections, phase := .won }, holdTimer := none }) ∧
       (s.syn.deadCount < 3 → t.syn.state = .synchronizing ∧ t.syn.claim = none ∧ t.syn.holdTimer = none ∧
         (.closeClaim .deadBus ∈ t.due → .closeClaim .deadBus ∈ s.due))) ∧
  (∀ (s : State) (q : SynRequest) (due : Time), s.syn.request = some q →
     (s.syn.syncTimer = some due →
       ∃ t, exec .syncTimerExpiry s = .next t ∧
         t = { s with syn := t.syn, sli := t.sli, lsc := t.lsc, due := t.due,
                      localTime := (s.reach due).localTime } ∧
         t.syn.claim = none ∧ t.syn.permitCount = 0 ∧ t.syn.avrRaise = false ∧ t.syn.avrLower = false ∧
         t.syn.syncTimer = none ∧
         (s.syn.attempt = 1 → t.syn.state = .idle ∧ t.syn.request = some q ∧
           t.syn.retryTimer = some (t.localTime + 10000) ∧ t.syn.failedAlarm = s.syn.failedAlarm) ∧
         (s.syn.attempt = 2 → t.syn.state = .syncFailed ∧ t.syn.request = none ∧ t.syn.retryTimer = none ∧
           t.syn.failedAlarm = true ∧ .csqSyn (some .syncFailed) ∈ t.due)) ∧
     (s.syn.retryTimer = some due → s.settings.isSome →
       ∃ t, exec .synRetryExpiry s = .next t ∧
         t = { s with syn := t.syn, sli := t.sli, lsc := t.lsc, due := t.due,
                      localTime := (s.reach due).localTime } ∧
         t.syn.attempt = 2 ∧ t.syn.retryTimer = none ∧ t.syn.syncTimer = some (t.localTime + 60000) ∧
         t.syn.request = some q ∧ (t.syn.state = .synchronizing ∨ t.syn.state = .claiming))) ∧
  (∀ (s : State) (due : Time), LineSettled s →
     (s.syn.yieldTimer = some due →
       ∃ t, exec .yieldTimerExpiry s = .next t ∧
         t = { s with syn := t.syn, sli := t.sli, lsc := t.lsc, due := t.due,
                      localTime := (s.reach due).localTime } ∧
         t.syn.winner = none ∧ t.syn.yieldTimer = none ∧ t.syn.permitCount = 0 ∧
         (s.syn.deadCount < 3 → t.syn.state = .synchronizing ∧ t.sli = s.sli) ∧
         (t.syn.state = .synchronizing ∨ (t.syn.state = .claiming ∧ s.syn.deadCount = 3))) ∧
     (s.syn.refusalTimer = some due →
       ∃ t, exec .refusalWaitExpiry s = .next t ∧
         t = { s with syn := t.syn, sli := t.sli, lsc := t.lsc, due := t.due,
                      localTime := (s.reach due).localTime } ∧
         t.syn.refusalTimer = none ∧
         (s.syn.state ≠ .synchronizing ∨ s.syn.deadCount < 3 →
           t.syn = { s.syn with refusalTimer := none } ∧ t.sli = s.sli)))

/-- SYN_BREAKER_RECORD, SYN_STATION_STATE_CHANGE, OPEN_CLAIM and TRIP_CLAIM (R124): how a held request ends. OPEN ends
it as CLOSE_FAILED after a close that the BKC has taken (R128, R138), also one that an earlier request left in flight. An
open claim and a trip cancel it, but a trip during CLOSING of such a close leaves it, with its claim, to the record that
shows OPEN (R124, R138). The model's choices: that a WON claim counts from the BKC's taking, and that a lockout already
seen cancels no request (notes/assumptions/17); that the trip during CLOSING counts as CLOSE_FAILED and not as the trip
taken, and the lockout that it sets as seen (notes/assumptions/61); and that a record which shows CLOSED, or OPEN after a
close, together with a lockout newly set gives CLOSED or CLOSE_FAILED (notes/assumptions/65). -/
def Obligations.CloseRequestsEnd : Prop :=
  ∀ (s : State) (q : SynRequest), s.syn.request = some q → LineSettled s →
    let closing : Prop := s.syn.closeTaken = true ∨ s.syn.closeInFlight = true
    let ended : State → SynOutcome → Prop := fun t o =>
      t.syn.request = none ∧ t.syn.claim = none ∧ t.syn.state = .idle ∧ t.syn.permitCount = 0 ∧
      t.syn.avrRaise = false ∧ t.syn.avrLower = false ∧ t.syn.syncTimer = none ∧ t.syn.retryTimer = none ∧
      t.syn.holdTimer = none ∧ t.syn.yieldTimer = none ∧ t.syn.refusalTimer = none ∧ .csqSyn (some o) ∈ t.due
    (∃ t, exec .synBreakerRecord s = .next t ∧
      t = { s with syn := t.syn, sli := t.sli, lsc := t.lsc, due := t.due } ∧
      t.syn.closeInFlight = (s.syn.closeInFlight && s.bkc.state == .closing) ∧
      (s.bkc.state = .closed → ended t .closed) ∧
      (s.bkc.state = .opened → closing → ended t .closeFailed) ∧
      (s.bkc.state ≠ .closed → ¬ (s.bkc.state = .opened ∧ closing) →
        (s.bkc.lockout = true → s.syn.lockoutSeen = false → ended t .cancelled) ∧
        (s.bkc.lockout = false ∨ s.syn.lockoutSeen = true → t.syn.request = some q ∧ t.syn.state = s.syn.state ∧
          t.syn.claim = s.syn.claim ∧ t.sli = s.sli))) ∧
    (∀ a b, ∃ t, exec (.synStationStateChange a b) s = .next t ∧
      t = { s with syn := t.syn, sli := t.sli, lsc := t.lsc, due := t.due } ∧ ended t .cancelled) ∧
    (∀ st, s.settings = some st → s.ssc.station.atWork = true →
      (∀ purpose, ∃ t, exec (.openClaim purpose) s = .next t ∧ ended t .cancelled) ∧
      (∀ cause detail, ∃ t, exec (.tripClaim cause detail) s = .next t ∧
        (¬ (s.bkc.state = .closing ∧ closing) → ended t .cancelled) ∧
        (s.bkc.state = .closing → closing →
          t.syn = { s.syn with closeTaken := true, lockoutSeen := true } ∧ t.sli = s.sli ∧ t.bkc.state = .opening ∧
          -- the request stands at the record of OPENING, and the record that shows OPEN ends it
          (∃ u, exec .synBreakerRecord t = .next u ∧ u.syn.request = some q ∧ u.syn.claim = s.syn.claim ∧
            u.sli = s.sli) ∧
          (∀ b : Bkc, b.state = .opened →
            ∃ u, exec .synBreakerRecord (t.withBkc b) = .next u ∧ ended u .closeFailed ∧
              (∀ c, s.syn.claim = some c → s.sli.claimSlot = none → s.sli.conflict = none →
                u.sli.claimSlot = some .withdraw)))))

/-- The synchronizer's record (R121, R122, R128, R131, R133, R139), kept by every step. -/
def Obligations.EveryStepKeepsTheSynchronizer : Prop :=
  ∀ s t : State, SynKept s → step s = .next t → SynKept t

/-! ### Load share -/

/-- LSC_SYN_PUBLICATION and LSC_SLIP_CORRECTION (R146): the entry into SYNC_CORRECT with bias 0, and the correction
from the slip of the record. LSC_STATION_STATE_CHANGE (R155): at the passage into ADDRESS_CONFLICT the load-carrying
modes are held with their bias, and at the return to AUTO the mode held is resumed and an unload's timer starts again.
That it starts again too where a share interval has resumed the unload before the LSC takes the return is the model's
choice (notes/assumptions/16).
GOV_BIAS_PERIOD_START (R145): the period that begins has the duty 500 + bias, and runs on with it whatever the bias
does next; no other command changes the duty but RESET. -/
def Obligations.BiasIsCorrectedHeldAndPutOut : Prop :=
  (∀ (s : State) (st : Settings), s.settings = some st → s.zeroHolds = false → LineSettled s →
     (s.syn.correction = true → s.lsc.mode = .zero →
       ∃ t, exec .lscSynPublication s = .next t ∧
         t = { s with due := t.due, lsc := { s.lsc with mode := .syncCorrect, bias := 0 } }) ∧
     (s.lsc.mode ≠ .zero ∨ s.syn.correction = false →
       ∃ t, exec .lscSynPublication s = .next t ∧ t = { s with due := t.due }) ∧
     (∀ r, s.cme.record = some r → ∀ fl, r.fLine = some fl → ∀ fb, r.fBus = some fb → s.lsc.mode = .syncCorrect →
       s.syn.correction = true → r.warmup = false →
       ∃ t, exec .lscSlipCorrection s = .next t ∧
         t = { s with due := t.due, lsc := { s.lsc with bias := clampInt (-500) 500 (s.lsc.bias +
           clampInt (-20) 20 (Int.tdiv ((st.lsc.slipTarget - (fl - fb)) * st.lsc.ks) 256)) } }) ∧
     (s.lsc.mode ≠ .syncCorrect ∨ s.syn.correction = false →
       ∃ t, exec .lscSlipCorrection s = .next t ∧ t = { s with due := t.due })) ∧
  (∀ (s : State) (st : Settings) (a : StationState), s.settings = some st → s.zeroHolds = false → LineSettled s →
     st.station.role = .generator →
     -- no overlap deadline is to be set at this event (R154)
     (s.bkc.state = .opened ∨ s.bkc.state = .withdrawn ∨ s.lsc.overlap.isSome ∨
       ∀ m ∈ s.incomers s.groupSections, m.entry.breaker ≠ some .closed) →
     let overlap := if s.bkc.state = .opened ∨ s.bkc.state = .withdrawn then none else s.lsc.overlap
     (s.ssc.station = .addressConflict →
       ∃ t, exec (.lscStationStateChange a .addressConflict) s = .next t ∧
         t = { s with lsc := t.lsc, due := t.due } ∧ t.lsc.bias = s.lsc.bias ∧ t.lsc.unloadTimer = none ∧
         t.lsc.overlap = overlap ∧
         (s.lsc.mode ∈ ([.softLoad, .share, .unload] : List LscMode) →
           t.lsc.mode = .hold ∧ t.lsc.resume = some s.lsc.mode) ∧
         (s.lsc.mode ∉ ([.softLoad, .share, .unload] : List LscMode) →
           t.lsc.mode = s.lsc.mode ∧ t.lsc.resume = s.lsc.resume)) ∧
     (s.ssc.station = .auto →
       let again := some (s.localTime + BitVec.ofNat 32 (1000 * st.lsc.unloadTimeoutS))
       ∃ t, exec (.lscStationStateChange .addressConflict .auto) s = .next t ∧
         t = { s with lsc := t.lsc, due := t.due } ∧ t.lsc.bias = s.lsc.bias ∧ t.lsc.overlap = overlap ∧
         (∀ m, s.lsc.resume = some m → s.lsc.mode = .hold → t.lsc.mode = m ∧ t.lsc.resume = none ∧
           t.lsc.unloadTimer = (if m = .unload then again else s.lsc.unloadTimer)) ∧
         -- a share interval after the return has resumed the mode already
         (s.lsc.mode ≠ .hold → t.lsc.mode = s.lsc.mode ∧ t.lsc.resume = s.lsc.resume ∧
           t.lsc.unloadTimer = (if s.lsc.mode = .unload then again else s.lsc.unloadTimer)))) ∧
  ((∀ s : State, Settled s → ∃ t, exec .govBiasPeriodStart s = .next t ∧
     t = { s with due := t.due, lsc := { s.lsc with duty := 500 + s.lsc.bias } }) ∧
   (∀ (c : Instr) (s t : State), c ≠ .govBiasPeriodStart → (∀ straps raw, c ≠ .reset straps raw) →
     exec c s = .next t → t.lsc.duty = s.lsc.duty))

/-- SHARE_INTERVAL_EXPIRY without a load at hand (R141, R151): HOLD is entered with its resume mode, or kept, and the
timer runs on. That an UNLOAD held so keeps its open-claimed flag, where R141 lets the flag stand only until the mode
next leaves UNLOAD, is the model's choice (notes/assumptions/15). The frequency error of the share interval (R149, R150). -/
def Obligations.ShareIntervalWithoutLoadAndFrequencyError : Prop :=
  (∀ (s : State) (st : Settings) (due : Time), s.settings = some st → s.zeroHolds = false → LineSettled s →
     s.ssc.station = .auto → s.lsc.shareTimer = some due →
     (∀ r, s.cme.record = some r → r.warmup = true ∨ r.load = none) →
     ∃ t, exec .shareIntervalExpiry s = .next t ∧
       t = { s with lsc := t.lsc, due := t.due, localTime := (s.reach due).localTime } ∧
       t.lsc = { s.lsc with
         shareTimer := some (due + 20)
         mode := (if s.lsc.mode ∈ ([.softLoad, .share, .unload] : List LscMode) then .hold else s.lsc.mode)
         resume := (if s.lsc.mode ∈ ([.softLoad, .share, .unload] : List LscMode) then some s.lsc.mode
           else s.lsc.resume) }) ∧
  (∀ (s : State) (st : Settings),
     ((∃ m ∈ s.incomers s.groupSections, m.closed = true) → s.frequencyError st = 0) ∧
     (¬ (∃ m ∈ s.incomers s.groupSections, m.closed = true) →
       (∀ slip, ((s.incomers s.groupSections).filterMap fun m =>
           if m.entry.state = .fresh ∧ m.csq = some .retransfer ∧
               (m.entry.body.any fun b => b.roleDetail.modeClosed) = true
           then m.entry.body.bind fun b => b.slip else none).head? = some slip →
         s.frequencyError st = st.lsc.retransferSlipTarget + slip) ∧
       ((∀ m ∈ s.incomers s.groupSections, m.entry.state = .fresh → m.csq = some .retransfer →
           ∀ b, m.entry.body = some b → b.roleDetail.modeClosed = true → b.slip = none) →
         s.frequencyError st = (match s.cme.record.bind fun r => r.fLine with
           | some f => st.station.fnom * 1000 - f
           | none => 0))))

/-- SHARE_INTERVAL_EXPIRY with the load p of a record that is not WARMUP, in SOFT_LOAD, SHARE or UNLOAD, or in HOLD
resuming one of them (R148, R151, R153). That an unload ramp which started below 0 is brought up to 0 by its first step
is the model's choice (notes/assumptions/19). -/
def Obligations.ShareIntervalIntegratesTheBias : Prop :=
  ∀ (s : State) (st : Settings) (due : Time) (r : Record) (p : Int) (m : LscMode),
    s.settings = some st → s.zeroHolds = false → LineSettled s → s.ssc.station = .auto → s.lsc.shareTimer = some due →
    s.cme.record = some r → r.warmup = false → r.load = some p →
    m ∈ ([.softLoad, .share, .unload] : List LscMode) →
    ((s.lsc.mode = m ∧ s.lsc.resume = none) ∨ (s.lsc.mode = .hold ∧ s.lsc.resume = some m)) →
    let target := s.shareTarget st p
    let ramp := s.lsc.ramp.getD 0
    let moved := clampInt (-1000) 2000 (if m = .softLoad then ramp + st.lsc.softRate / 50
      else max 0 (ramp - (if s.lsc.reason = some .overlap then 10 * (st.lsc.unloadRate / 50)
        else st.lsc.unloadRate / 50 : Nat)))
    let te := if m = .softLoad then min target moved else if m = .unload then moved else target
    let bias := clampInt (-500) 500 (s.lsc.bias +
      clampInt (-20) 20 (Int.tdiv ((te - p) * st.lsc.kp + s.frequencyError st * st.lsc.kf) 1024))
    ∃ t, exec .shareIntervalExpiry s = .next t ∧
      t = { s with lsc := t.lsc, due := t.due, localTime := (s.reach due).localTime } ∧
      t.lsc.shareTimer = some (due + 20) ∧ t.lsc.resume = none ∧
      -- the share set: the station itself and the FRESH online generators of its group
      (let xs := (p, st.station.ratedKw) :: s.freshLoads
       (xs.map fun x => x.2).sum ≠ 0 →
         target = Int.tdiv ((xs.map fun x => x.1 * (x.2 : Int)).sum) ((xs.map fun x => x.2).sum : Nat)) ∧
      (m = .unload → s.lsc.openClaimed = true →
        t.lsc = { s.lsc with shareTimer := some (due + 20), mode := .unload, resume := none }) ∧
      (m = .softLoad → t.lsc.bias = bias ∧ t.lsc.te = some te ∧
        (target ≤ moved → t.lsc.mode = .share ∧ t.lsc.ramp = none) ∧
        (moved < target → t.lsc.mode = .softLoad ∧ t.lsc.ramp = some moved)) ∧
      (m = .share → t.lsc.bias = bias ∧ t.lsc.te = some target ∧ t.lsc.mode = .share ∧ t.lsc.ramp = s.lsc.ramp) ∧
      (m = .unload → s.lsc.openClaimed = false →
        t.lsc.bias = bias ∧ t.lsc.te = some te ∧ t.lsc.mode = .unload ∧ t.lsc.ramp = some moved ∧
        (p ≤ st.lsc.openThreshold → t.lsc.openClaimed = true ∧ t.lsc.unloadTimer = none ∧
          .openClaim .unload ∈ t.due) ∧
        ((st.lsc.openThreshold : Int) < p → t.lsc.openClaimed = false ∧ t.lsc.unloadTimer = s.lsc.unloadTimer ∧
          (.openClaim .unload ∈ t.due → .openClaim .unload ∈ s.due)))

/-- UNLOAD_TIMER_EXPIRY and OVERLAP_DEADLINE_EXPIRY (R153, R154): the open claim that ends an unload, made once; an
expiry finds an unload or not, and a breaker that may be opened or not. LSC_VIEW_EVENT and LSC_BREAKER_RECORD (R154):
with the overlap condition holding and no deadline set, the deadline becomes the earliest breaker-closed time of the
closed incomers plus the overlap limit, and an unload starts, in AUTO and in ADDRESS_CONFLICT alike with its timer, or
takes the reason OVERLAP; with no time left the deadline expires at that event; a deadline once set is not moved; and
one is cleared where the station can have none.
The model's choices: the earliest time is the one longest past on the local clock, which wraps (notes/assumptions/35);
the expiry of a deadline that does not run does nothing (notes/assumptions/5); and a deadline makes no second open claim
while the flag of the first stands (notes/assumptions/15). -/
def Obligations.UnloadsEndAndOverlapsAreTimed : Prop :=
  (∀ (s : State) (st : Settings), s.settings = some st → s.zeroHolds = false → LineSettled s →
     (∀ due, s.lsc.unloadTimer = some due →
       ∃ t, exec .unloadTimerExpiry s = .next t ∧
         t = { s with due := t.due, localTime := (s.reach due).localTime,
                      lsc := { s.lsc with openClaimed := s.lsc.openClaimed || s.lsc.unloading, unloadTimer := none } } ∧
         (s.lsc.unloading = true → s.lsc.openClaimed = false → .openClaim .unload ∈ t.due) ∧
         (s.lsc.unloading = false ∨ s.lsc.openClaimed = true →
           (.openClaim .unload ∈ t.due → .openClaim .unload ∈ s.due))) ∧
     (∀ d, s.lsc.overlap = some d → d.running = true →
       let claims : Prop := d.claimed = false ∧ s.bkc.state ≠ .opened ∧ s.bkc.state ≠ .withdrawn
       ∃ t, exec .overlapDeadlineExpiry s = .next t ∧
         t = { s with lsc := t.lsc, due := t.due, localTime := (s.reach d.due).localTime } ∧
         (claims → s.lsc.unloading = false → .openClaim .unload ∈ t.due ∧
           t.lsc = { s.lsc with overlap := some { due := d.due, running := false, claimed := true } }) ∧
         (claims → s.lsc.unloading = true →
           t.lsc = { s.lsc with
             openClaimed := true, unloadTimer := none,
             overlap := some { due := d.due, running := false, claimed := true } } ∧
           (s.lsc.openClaimed = false → .openClaim .unload ∈ t.due) ∧
           (s.lsc.openClaimed = true → .openClaim .unload ∈ t.due → .openClaim .unload ∈ s.due)) ∧
         (¬ claims → (.openClaim .unload ∈ t.due → .openClaim .unload ∈ s.due) ∧
           t.lsc = { s.lsc with overlap := some { due := d.due, running := false, claimed := d.claimed } })) ∧
     ((∀ d, s.lsc.overlap = some d → d.running = false) →
       ∃ t, exec .overlapDeadlineExpiry s = .next t ∧ t = { s with due := t.due })) ∧
  (∀ (s : State) (st : Settings) (c : Instr), s.settings = some st → st.station.role = .generator → LineSettled s →
     c ∈ ([.lscViewEvent, .lscBreakerRecord] : List Instr) →
     let possible : Prop := (s.ssc.station = .auto ∨ s.ssc.station = .addressConflict) ∧ s.bkc.state ≠ .opened ∧
       s.bkc.state ≠ .withdrawn
     let times := ((s.incomers s.groupSections).filter fun m => m.entry.breaker == some .closed).filterMap fun m =>
       m.entry.closedTime
     let again : State → Prop := fun t =>
       t.lsc.unloadTimer = some (s.localTime + BitVec.ofNat 32 (1000 * st.lsc.unloadTimeoutS)) ∧
       t.lsc.reason = some .overlap ∧
       (∀ r, s.cme.record = some r → r.warmup = false → ∀ p, r.load = some p → t.lsc.ramp = some p) ∧
       ((∀ r, s.cme.record = some r → r.warmup = true ∨ r.load = none) → ∀ te, s.lsc.te = some te →
         t.lsc.ramp = some te)
     (¬ possible → ∃ t, exec c s = .next t ∧ t = { s with lsc := t.lsc, due := t.due } ∧ t.lsc.overlap = none) ∧
     (possible → s.lsc.overlap.isSome ∨ times = [] → ∃ t, exec c s = .next t ∧ t = { s with due := t.due }) ∧
     (possible → s.lsc.overlap = none → ∀ first ∈ times,
       (∀ x ∈ times, (s.localTime - x).toNat ≤ (s.localTime - first).toNat) →
       let d := first + BitVec.ofNat 32 st.lsc.overlapLimitMs
       ∃ t, exec c s = .next t ∧ t = { s with lsc := t.lsc, due := t.due, freeCount := t.freeCount } ∧
         t.lsc.bias = s.lsc.bias ∧ t.lsc.te = s.lsc.te ∧ t.lsc.shareTimer = s.lsc.shareTimer ∧
         -- the mode, or in HOLD the resume mode
         (s.lsc.mode = .softLoad ∨ s.lsc.mode = .share →
           t.lsc.mode = .unload ∧ t.lsc.resume = s.lsc.resume ∧ t.lsc.reason = some .overlap) ∧
         (s.lsc.mode = .hold → s.lsc.resume = some .softLoad ∨ s.lsc.resume = some .share →
           t.lsc.mode = .hold ∧ t.lsc.resume = some .unload ∧ t.lsc.reason = some .overlap) ∧
         (s.lsc.unloading = true → t.lsc.mode = s.lsc.mode ∧ t.lsc.resume = s.lsc.resume ∧
           t.lsc.reason = some .overlap ∧ t.lsc.ramp = s.lsc.ramp) ∧
         (s.lsc.carrying = false → s.lsc.unloading = false →
           t.lsc = { s.lsc with overlap := t.lsc.overlap } ∧ t.freeCount = s.freeCount) ∧
         -- time is left
         ((s.localTime - first).toNat < st.lsc.overlapLimitMs →
           t.lsc.overlap = some { due := d, running := true, claimed := false } ∧
           t.lsc.openClaimed = s.lsc.openClaimed ∧ (.openClaim .unload ∈ t.due → .openClaim .unload ∈ s.due) ∧
           (s.lsc.carrying = true → again t) ∧ (s.lsc.unloading = true → t.lsc.unloadTimer = s.lsc.unloadTimer)) ∧
         -- none is left: the deadline expires at this event
         (st.lsc.overlapLimitMs ≤ (s.localTime - first).toNat →
           t.lsc.overlap = some { due := d, running := false, claimed := true } ∧
           (s.lsc.openClaimed = false → .openClaim .unload ∈ t.due) ∧
           (s.lsc.carrying = true ∨ s.lsc.unloading = true →
             t.lsc.openClaimed = true ∧ t.lsc.unloadTimer = none))))

/-- The governor bias and its output (R144, R145), kept by every step: the bias lies within -500..500, it is 0 while a
ZERO condition holds, and the duty lies within 0..1000. -/
def Obligations.EveryStepKeepsTheBias : Prop :=
  ∀ s t : State, BiasKept s → step s = .next t → BiasKept t

/-! ### Changeover -/

/-- CSQ_AUTO_EXIT (R158): the sequence is INACTIVE with its timers stopped and no SEQUENCE request left at the SYN,
which tells the CSQ that a request withdrawn so is CANCELLED (R124; that the CSQ counts what it is still to be told of
is the model's choice, notes/assumptions/50); the alarms, the transfer test, the inhibit, the source monitor and
RUN_REQUEST are kept. CSQ_AUTO_ENTRY on an INCOMER and a GENERATOR (R159). That a derivation into READY, STARTING or
ONLINE energizes RUN_REQUEST, and one into UNLOADING leaves it, is the model's choice (notes/assumptions/25), and so is
that a generator's readiness test fails while the latest record is WARMUP (notes/assumptions/70).
CSQ_AUTO_ENTRY on a TIE and a FEEDER (R159). -/
def Obligations.SequenceIsSuspendedAndDerived : Prop :=
  (∀ s : State, ∃ t, exec .csqAutoExit s = .next t ∧
     t = { s with csq := t.csq, syn := t.syn, sli := t.sli, lsc := t.lsc, due := t.due } ∧
     t.csq.state = .inactive ∧ t.csq.holding = false ∧
     (∀ q, s.syn.request = some q → q.requester = .sequence → t.syn.request = none ∧ t.syn.claim = none ∧
       .csqSyn (some .cancelled) ∈ t.due ∧ t.csq.withdrawn = s.csq.withdrawn + 1) ∧
     (∀ q, s.syn.request = some q → q.requester = .operator → t.syn = s.syn ∧ t.csq.withdrawn = s.csq.withdrawn) ∧
     t.csq.retransferDelay = none ∧ t.csq.overlapBackup = none ∧ t.csq.startDelay = none ∧ t.csq.startTimer = none ∧
     t.csq.cooldown = none ∧ t.csq.shedDelay = none ∧ t.csq.restoreWait = none ∧ t.csq.overloadTimer = none ∧
     t.csq.shedSettle = none ∧
     t.csq.startFailed = s.csq.startFailed ∧ t.csq.blocked = s.csq.blocked ∧
     t.csq.transferTest = s.csq.transferTest ∧ t.csq.inhibit = s.csq.inhibit ∧ t.csq.monitor = s.csq.monitor ∧
     (.openClaim .sequence ∈ t.due → .openClaim .sequence ∈ s.due) ∧
     (.closeClaim .feeder ∈ t.due → .closeClaim .feeder ∈ s.due)) ∧
  (∀ (s : State) (st : Settings), s.settings = some st → s.ssc.station = .auto →
     (st.station.role = .incomer →
       ∃ t, exec .csqAutoEntry s = .next t ∧
         (s.csq.blocked = true → t.csq.state = .blocked) ∧
         (s.csq.blocked = false → s.bkc.state.countsClosed = true → s.csq.monitor ≠ .failed →
           t.csq.state = .incNormal) ∧
         (s.csq.blocked = false → s.bkc.state.countsClosed = false → s.csq.monitor = .healthy →
           t.csq.state = .returning ∧
           t.csq.retransferDelay = some (s.localTime + BitVec.ofNat 32 (1000 * st.csq.retransferDelayS))) ∧
         (s.csq.blocked = false → s.bkc.state.countsClosed = false → s.csq.monitor ≠ .healthy →
           t.csq.state = .sourceLost)) ∧
     (st.station.role = .generator →
       ∃ t, exec .csqAutoEntry s = .next t ∧
         (s.bkc.state.countsClosed = true → s.lsc.unloading = true → t.csq.state = .unloading ∧
           t.ssc.runRequest = s.ssc.runRequest) ∧
         (s.bkc.state.countsClosed = true → s.lsc.unloading = false →
           t.csq.state = .online ∧ t.ssc.runRequest = true ∧
           (s.lsc.mode = .zero → t.lsc.mode = .softLoad)) ∧
         (s.bkc.state.countsClosed = false → s.csq.startFailed = true → t.csq.state = .startFailed) ∧
         (s.bkc.state.countsClosed = false → s.csq.startFailed = false → s.startCondition = true →
           t.ssc.runRequest = true ∧
           (s.readiness st = false → t.csq.state = .starting ∧
             t.csq.startTimer = some (s.localTime + BitVec.ofNat 32 (1000 * st.csq.startTimeS))) ∧
           (s.readiness st = true → t.csq.state ∈ ([.ready, .claiming, .synchronizing] : List CsqState))) ∧
         (s.bkc.state.countsClosed = false → s.csq.startFailed = false → s.startCondition = false →
           (s.ssc.runRequest = true → t.csq.state = .cooldown ∧
             t.csq.cooldown = some (s.localTime + BitVec.ofNat 32 (1000 * st.csq.cooldownS))) ∧
           (s.ssc.runRequest = false → t.csq.state = .stopped)))) ∧
  (∀ (s : State) (st : Settings), s.settings = some st → s.ssc.station = .auto →
     (st.station.role = .tie →
       ∃ t, exec .csqAutoEntry s = .next t ∧
         (s.bkc.state.countsClosed = true → st.csq.tieAuto = true →
           t.csq.state = .closedAuto ∧ t.csq.fedB = true) ∧
         (s.bkc.state.countsClosed = true → st.csq.tieAuto = false → t.csq.state = .closedManual) ∧
         (s.bkc.state.countsClosed = false → st.csq.tieAuto = false → t.csq.state = .openNormal) ∧
         (s.bkc.state.countsClosed = false →
           t.csq.state = .openNormal ∨ (t.csq.state = .closingAuto ∧ st.csq.tieAuto = true))) ∧
     (st.station.role = .feeder →
       ∃ t, exec .csqAutoEntry s = .next t ∧
         (s.bkc.state.countsClosed = true → t.csq.state = .feederNormal) ∧
         (s.bkc.state.countsClosed = false → s.bkc.lockout = true → s.bkc.lastPurpose = some .protection →
           t.csq.state = .tripped) ∧
         (s.bkc.state.countsClosed = false → s.bkc.lastPurpose = some .sequence →
           (t.csq.state = .shed ∨ t.csq.state = .restoring) ∧ t.csq.shedCause = some .deadBus) ∧
         (s.bkc.state.countsClosed = false → s.bkc.lastPurpose ≠ some .sequence →
           ¬ (s.bkc.lockout = true ∧ s.bkc.lastPurpose = some .protection) → t.csq.state = .openManual)))

/-- CSQ_PES_PUBLICATION and FAILURE_CONFIRM_EXPIRY on an INCOMER (R160): the source monitor and its timer. A publication
that follows a cycle evaluation is an evaluation of the monitor; one that does not leaves the monitor as it stands, and
the sequence acts on it all the same (R157). Of two that wait the first kind is taken first (the model's choice,
notes/assumptions/24). -/
def Obligations.SourceMonitorFollowsItsElements : Prop :=
  ∀ (s : State) (st : Settings), s.settings = some st → st.station.role = .incomer →
    let held : Prop := (∃ r, s.cme.record = some r ∧ r.warmup = true) ∨
      ∀ e ∈ st.sourceElements, (s.pes.el e).held = true
    let dropped : Prop := ∀ e ∈ st.sourceElements, (s.pes.el e).state = .dropped
    let another : Prop := .csqPes false ∈ s.due ∧ .csqPes true ∉ s.due
    (another → ∃ t, exec .csqPesPublication s = .next t ∧ t.csq.monitor = s.csq.monitor ∧
      t.csq.confirmTimer = s.csq.confirmTimer ∧ t.csq.confirmLeft = s.csq.confirmLeft ∧
      (s.ssc.station = .auto → s.csq.state = .incNormal → s.csq.monitor = .failed →
        t.csq.state = .sourceLost ∧ .openClaim .sequence ∈ t.due) ∧
      (s.ssc.station = .auto → s.csq.state = .sourceLost → s.csq.monitor = .healthy → t.csq.state = .returning ∧
        t.csq.retransferDelay = some (s.localTime + BitVec.ofNat 32 (1000 * st.csq.retransferDelayS)))) ∧
    (s.ssc.station.protects = true → ¬ another → ∃ t, exec .csqPesPublication s = .next t ∧
      t.csq.inhibit = s.csq.inhibit ∧
      t.csq.transferTest = s.csq.transferTest ∧
      (s.csq.transferTest = true → t.csq.monitor = .failed ∧ t.csq.confirmTimer = none) ∧
      (s.csq.transferTest = false → held → t.csq.monitor = s.csq.monitor ∧ t.csq.confirmTimer = none ∧
        (∀ due, s.csq.confirmTimer = some due → (due - s.localTime).toNat < 2147483648 →
          t.csq.confirmLeft = some (due - s.localTime).toNat)) ∧
      (s.csq.transferTest = false → ¬ held → dropped → t.csq.monitor = .healthy ∧ t.csq.confirmTimer = none) ∧
      (s.csq.transferTest = false → ¬ held → ¬ dropped →
        (s.csq.monitor = .healthy → t.csq.monitor = .suspect ∧
          t.csq.confirmTimer = some (s.localTime + BitVec.ofNat 32 st.csq.failureConfirmMs)) ∧
        (∀ left, s.csq.confirmLeft = some left → s.csq.monitor = .suspect → t.csq.monitor = .suspect ∧
          t.csq.confirmTimer = some (s.localTime + BitVec.ofNat 32 left)) ∧
        (s.csq.monitor = .suspect → s.csq.confirmLeft = none → t.csq.monitor = .suspect ∧
          t.csq.confirmTimer = s.csq.confirmTimer) ∧
        (s.csq.monitor = .failed → t.csq.monitor = .failed))) ∧
    (∀ due, s.csq.confirmTimer = some due →
      ∃ t, exec .failureConfirmExpiry s = .next t ∧ t.csq.monitor = .failed ∧ t.csq.confirmTimer = none ∧
        -- an incomer in NORMAL opens at this event (R162)
        (s.ssc.station = .auto → s.csq.state = .incNormal →
          t.csq.state = .sourceLost ∧ .openClaim .sequence ∈ t.due))

/-- How RETURNING enters RETRANSFER, in the mode the view gives (R162, R163): at
RETRANSFER_DELAY_EXPIRY, unless the inhibit or the lockout holds it with the delay marked as run out; then, with the
monitor HEALTHY, at the event that takes the last of them away: a RETRANSFER_INHIBIT OFF, a RESET_LOCKOUT or a breaker
record. That a record which goes on showing the breaker open enters RETRANSFER so, where R162 by its words starts the
delay anew, is the model's choice: only the passage into open starts it anew in RETURNING (notes/assumptions/45). How it
ends (R164, R165): CSQ_SYN_OUTCOME, a monitor evaluation that leaves the monitor anything but HEALTHY, a held one that
finds it so included, OVERLAP_BACKUP_EXPIRY and the view that ends OVERLAP. RETURNING ends with such an evaluation too
(R162). A publication of the PES that is no evaluation ends neither, whatever the monitor (R162, R164;
notes/assumptions/24 and 63). The CANCELLED of a request that the CSQ itself withdrew ends nothing (the model's choice,
notes/assumptions/50). -/
def Obligations.RetransferIsEnteredAndEnds : Prop :=
  (∀ (s : State) (st : Settings), s.settings = some st → st.station.role = .incomer →
     s.ssc.station = .auto → s.csq.state = .returning →
     let sources := s.closedSources s.groupSections
     let closedMode : Prop := st.csq.retransferClosed = true ∧ (∀ m ∈ sources, m.hasRole .incomer = false) ∧
       ∃ m ∈ sources, m.hasRole .generator = true
     let entered : State → Prop := fun t => t.csq.state = .retransfer ∧ t.csq.delayRunOut = false ∧
       t.csq.retransferDelay = none ∧
       (closedMode → t.csq.mode = some .closedMode ∧
         (s.syn.state ≠ .syncFailed → t.csq.holding = true ∧
           ∃ q, t.syn.request = some q ∧ q.requester = .sequence)) ∧
       (¬ closedMode → t.csq.mode = some .openMode)
     (∀ due, s.csq.retransferDelay = some due →
       ∃ t, exec .retransferDelayExpiry s = .next t ∧ t.csq.retransferDelay = none ∧
         (s.csq.inhibit = true ∨ s.bkc.lockout = true → t.csq.state = .returning ∧ t.csq.delayRunOut = true) ∧
         (s.csq.inhibit = false → s.bkc.lockout = false → entered t)) ∧
     (s.csq.monitor = .healthy → s.csq.delayRunOut = true → s.bkc.lockout = false →
       (∀ r, Handed s r 6 true → r.args = [0] → ∃ t, exec (.retransferInhibit r) s = .next t ∧ entered t) ∧
       (s.csq.inhibit = false → s.csq.seenBreaker = s.bkc.state →
         ∃ t, exec .csqBreakerRecord s = .next t ∧ entered t)) ∧
     (s.csq.monitor = .healthy → s.csq.delayRunOut = true → s.csq.inhibit = false → s.bkc.lockout = true → s.input .remotePermit = true →
       s.input .extTrip = false → (∀ e : ElementNo, (s.pes.el e).state = .operated → st.pes.action e ≠ .trip) →
       ∀ r, Handed s r 2 false → r.args = [] → ∃ t, exec (.resetLockout r) s = .next t ∧ entered t)) ∧
  (∀ (s : State) (st : Settings), s.settings = some st → st.station.role = .incomer → s.ssc.station = .auto →
     s.csq.monitor ≠ .failed →
     let generator : Prop := ∃ m ∈ s.closedSources s.groupSections, m.hasRole .generator = true
     (s.csq.state = .retransfer →
       (∀ o, (o = .cancelled → s.csq.withdrawn = 0) →
         ∃ t, exec (.csqSynOutcome (some o)) s = .next t ∧ t.csq.holding = false ∧
           (o = .closed → generator → t.csq.state = .overlap ∧
             t.csq.overlapBackup = some (s.localTime + BitVec.ofNat 32 (st.lsc.overlapLimitMs + 60))) ∧
           (o = .closed → ¬ generator → t.csq.state = .incNormal) ∧
           (o ≠ .closed → t.csq.state = .blocked ∧ t.csq.blocked = true)) ∧
       (0 < s.csq.withdrawn → ∃ t, exec (.csqSynOutcome (some .cancelled)) s = .next t ∧
         t.csq.state = .retransfer ∧ t.csq.mode = s.csq.mode ∧ t.csq.blocked = s.csq.blocked ∧
         t.csq.withdrawn = s.csq.withdrawn - 1)) ∧
     (s.csq.state = .overlap →
       ∃ t, exec .csqViewEvent s = .next t ∧
         (¬ generator → t.csq.state = .incNormal ∧ t.csq.overlapBackup = none) ∧
         (generator → t.csq.state = .overlap ∧ t.csq.overlapBackup = s.csq.overlapBackup)) ∧
     (∀ due, s.csq.overlapBackup = some due → s.csq.state = .overlap →
       ∃ t, exec .overlapBackupExpiry s = .next t ∧ t.csq.overlapBackup = none ∧
         (generator → t.csq.state = .blocked ∧ t.csq.blocked = true ∧ .openClaim .sequence ∈ t.due) ∧
         (¬ generator → t.csq.state = .overlap ∧ t.csq.blocked = s.csq.blocked))) ∧
  (∀ (s : State) (st : Settings), s.settings = some st → st.station.role = .incomer → s.ssc.station = .auto →
     s.csq.state = .retransfer ∨ s.csq.state = .returning → (.csqPes false ∉ s.due ∨ .csqPes true ∈ s.due) →
     let held : Prop := (∃ r, s.cme.record = some r ∧ r.warmup = true) ∨
       ∀ e ∈ st.sourceElements, (s.pes.el e).held = true
     let dropped : Prop := ∀ e ∈ st.sourceElements, (s.pes.el e).state = .dropped
     s.csq.transferTest = true ∨ (held ∧ s.csq.monitor ≠ .healthy) ∨ (¬ held ∧ ¬ dropped) →
     ∃ t, exec .csqPesPublication s = .next t ∧ t.csq.monitor ≠ .healthy ∧ t.csq.state = .sourceLost ∧
       t.csq.mode = none ∧ t.csq.blocked = s.csq.blocked ∧ t.csq.retransferDelay = none ∧
       (s.csq.state = .returning → t.syn = s.syn) ∧
       (s.csq.state = .retransfer → t.csq.holding = false ∧
         (∀ q, s.syn.request = some q → q.requester = .sequence → t.syn.request = none ∧ t.syn.claim = none ∧
           .csqSyn (some .cancelled) ∈ t.due ∧ t.csq.withdrawn = s.csq.withdrawn + 1) ∧
         ((∀ q, s.syn.request = some q → q.requester ≠ .sequence) → t.syn = s.syn))) ∧
  (∀ (s : State) (st : Settings), s.settings = some st → st.station.role = .incomer → s.ssc.station = .auto →
     .csqPes false ∈ s.due → .csqPes true ∉ s.due →
     (s.csq.state = .retransfer ∨ s.csq.state = .returning ∧ s.csq.delayRunOut = false) →
     ∃ t, exec .csqPesPublication s = .next t ∧ t.csq.state = s.csq.state ∧ t.csq.monitor = s.csq.monitor ∧
       t.csq.mode = s.csq.mode ∧ t.csq.retransferDelay = s.csq.retransferDelay)

/-- The generator's timers (R167, R169): START_DELAY_EXPIRY in STOPPED, START_TIMER_EXPIRY in STARTING and
COOLDOWN_EXPIRY in COOLDOWN. CSQ_LSC_MODE, CSQ_SYN_OUTCOME and CSQ_BREAKER_RECORD on a GENERATOR (R168, R169): what
ONLINE shows of the LSC, how an outcome acts, and how the breaker takes the generator to ONLINE and to COOLDOWN.
DEBOUNCE_EXPIRY of GEN_READY in STARTING (R167): READY at the event at which the readiness test holds. CSQ_VIEW_EVENT in
ONLINE (R169): an incomer of the group in RETRANSFER with mode OPEN makes the CSQ give the LSC an unload order. That the
CANCELLED of a request which the CSQ itself withdrew is no outcome to act on is the model's choice
(notes/assumptions/50), and so is that START_FAILED is latched without a look at the start condition
(notes/assumptions/55). CSQ_LSC_MODE and CSQ_VIEW_EVENT in READY (R168): the request is handed to the SYN when every
condition for it holds, and the CSQ shows what the SYN does with it; without the start condition it is withdrawn. What
the start condition and the readiness test are (R167); that the latter fails while the latest record is WARMUP is the
model's choice (notes/assumptions/70). -/
def Obligations.GeneratorSequenceMoves : Prop :=
  (∀ (s : State) (st : Settings) (due : Time), s.settings = some st → st.station.role = .generator →
     s.ssc.station = .auto →
     (s.csq.startDelay = some due → s.csq.state = .stopped → s.startCondition = true →
       ∃ t, exec .startDelayExpiry s = .next t ∧ t.ssc.runRequest = true ∧
         (s.readiness st = false → t.csq.state = .starting ∧
           t.csq.startTimer = some (t.localTime + BitVec.ofNat 32 (1000 * st.csq.startTimeS))) ∧
         (s.readiness st = true → t.csq.state ∈ ([.ready, .claiming, .synchronizing] : List CsqState))) ∧
     (s.csq.startTimer = some due → s.csq.state = .starting →
       ∃ t, exec .startTimerExpiry s = .next t ∧ t.csq.state = .startFailed ∧ t.csq.startFailed = true ∧
         t.ssc.runRequest = false ∧ t.csq.startTimer = none) ∧
     (s.csq.cooldown = some due → s.csq.state = .cooldown →
       ∃ t, exec .cooldownExpiry s = .next t ∧ t.csq.state = .stopped ∧ t.ssc.runRequest = false ∧
         t.csq.cooldown = none)) ∧
  (∀ (s : State) (st : Settings), s.settings = some st → st.station.role = .generator → s.ssc.station = .auto →
     (s.csq.state = .online ∨ s.csq.state = .unloading →
       ∃ t, exec .csqLscMode s = .next t ∧
         (s.lsc.unloading = true → t.csq.state = .unloading) ∧
         (s.lsc.carrying = true → s.lsc.unloading = false → t.csq.state = .online) ∧
         (s.lsc.carrying = false → s.lsc.unloading = false → t.csq.state = s.csq.state)) ∧
     (s.csq.state ∈ ([.ready, .claiming, .synchronizing] : List CsqState) → s.lsc.unloading = false →
       ∃ t, exec (.csqSynOutcome (some .closed)) s = .next t ∧ t.csq.state = .online ∧ t.csq.holding = false ∧
         t.ssc.runRequest = true) ∧
     (s.csq.state = .online ∨ s.csq.state = .unloading → s.bkc.state = .opened ∨ s.bkc.state = .withdrawn →
       ∃ t, exec .csqBreakerRecord s = .next t ∧ t.csq.state = .cooldown ∧
         t.csq.cooldown = some (s.localTime + BitVec.ofNat 32 (1000 * st.csq.cooldownS)) ∧
         t.ssc.runRequest = s.ssc.runRequest) ∧
     (s.csq.state ∈ ([.stopped, .starting, .ready, .claiming, .synchronizing, .cooldown, .startFailed] :
         List CsqState) → s.csq.seenBreaker ≠ .closed → s.bkc.state = .closed → s.lsc.unloading = false →
       ∃ t, exec .csqBreakerRecord s = .next t ∧ t.csq.state = .online ∧ t.ssc.runRequest = true ∧
         t.csq.startDelay = none ∧ t.csq.startTimer = none ∧ t.csq.cooldown = none ∧
         t.csq.startFailed = s.csq.startFailed) ∧
     (s.csq.state ∈ ([.ready, .claiming, .synchronizing] : List CsqState) → ∀ o, o ≠ .closed →
       (o = .cancelled → s.csq.withdrawn = 0) →
       ∃ t, exec (.csqSynOutcome (some o)) s = .next t ∧
         (s.startCondition = true → t.csq.state ∈ ([.ready, .claiming, .synchronizing] : List CsqState)) ∧
         (s.startCondition = false → t.csq.state = .cooldown ∧ t.csq.holding = false))) ∧
  (∀ (s : State) (st : Settings) (due : Time), s.settings = some st → st.station.role = .generator →
     s.ssc.station = .auto → s.csq.state = .starting → s.ssc.debounceTimers[inputIdx .genReady] = some due →
     s.pins.raw[inputIdx .genReady] ≠ s.input .genReady →
     ∃ t, exec (.debounceExpiry .genReady) s = .next t ∧ t.input .genReady = s.pins.raw[inputIdx .genReady] ∧
       (s.startCondition = false → t.csq.state = .cooldown ∧ t.csq.startTimer = none ∧
         t.ssc.runRequest = s.ssc.runRequest ∧
         t.csq.cooldown = some (t.localTime + BitVec.ofNat 32 (1000 * st.csq.cooldownS))) ∧
       (s.startCondition = true → t.readiness st = true →
         t.csq.state ∈ ([.ready, .claiming, .synchronizing] : List CsqState) ∧ t.csq.startTimer = none) ∧
       (s.startCondition = true → t.readiness st = false → t.csq = s.csq)) ∧
  (∀ (s : State) (st : Settings), s.settings = some st → st.station.role = .generator → s.ssc.station = .auto →
     s.csq.state = .online → s.zeroHolds = false →
     let ordered : Prop := ∃ m ∈ s.incomers s.groupSections, m.csq = some .retransfer ∧
       (m.entry.body.any fun b => b.roleDetail.modeClosed) = false
     ∃ t, exec .csqViewEvent s = .next t ∧
       (¬ ordered → t.lsc = s.lsc) ∧
       (ordered → s.lsc.carrying = true → t.lsc.unloading = true ∧ t.lsc.reason = some .retransferOpen ∧
         t.lsc.unloadTimer = some (s.localTime + BitVec.ofNat 32 (1000 * st.lsc.unloadTimeoutS)) ∧
         t.lsc.bias = s.lsc.bias ∧ t.csq.state = .unloading) ∧
       (ordered → s.lsc.unloading = true → t.lsc = s.lsc ∧ t.csq.state = .unloading) ∧
       (ordered → s.lsc.carrying = false → s.lsc.unloading = false → s.bkc.state ≠ .opened →
         s.bkc.state ≠ .withdrawn → t.lsc = s.lsc ∧ .openClaim .unload ∈ t.due ∧ t.csq.state = .online)) ∧
  (∀ (s : State) (st : Settings), s.settings = some st → st.station.role = .generator → s.ssc.station = .auto →
     s.csq.state ∈ ([.ready, .claiming, .synchronizing] : List CsqState) →
     ∀ c ∈ ([.csqLscMode, .csqViewEvent] : List Instr),
     let hands : Prop := s.syn.state = .idle ∧ s.csq.holding = false ∧ s.bkc.lockout = false ∧
       s.bkc.failedToClose = false
     ∃ t, exec c s = .next t ∧
       (s.startCondition = true → hands →
         t.csq.holding = true ∧ t.csq.state ∈ ([.ready, .claiming, .synchronizing] : List CsqState) ∧
         ∃ q, t.syn.request = some q ∧ q.requester = .sequence ∧
           (s.syn.request = none → q.mode = .auto ∧ t.syn.attempt = 1 ∧
             t.syn.syncTimer = some (s.localTime + 60000) ∧
             (t.syn.state = .synchronizing ∨ t.syn.state = .claiming))) ∧
       (s.startCondition = true → ¬ hands → t.syn = s.syn ∧ t.csq.holding = s.csq.holding ∧
         t.csq.state =
           (if s.csq.holding then
             (match s.syn.state with
               | .claiming => .claiming
               | .synchronizing | .yielded => .synchronizing
               | .idle | .syncFailed => .ready)
            else .ready)) ∧
       (s.startCondition = false → t.csq.state = .cooldown ∧ t.csq.holding = false ∧
         t.ssc.runRequest = s.ssc.runRequest ∧
         t.csq.cooldown = some (s.localTime + BitVec.ofNat 32 (1000 * st.csq.cooldownS)) ∧
         (∀ q, s.syn.request = some q →
           (q.requester = .sequence → t.syn.request = none ∧ t.syn.claim = none) ∧
           (q.requester = .operator → t.syn = s.syn)))) ∧
  (∀ (s : State) (st : Settings),
     (s.startCondition = true ↔ s.bkc.lockout = false ∧ s.csq.startFailed = false ∧
       ∀ m ∈ s.incomers s.groupSections, ∀ r, m.entry.report = some r → ∀ b, r.body = some b →
         (∀ x, b.breaker = some x → x ∈ ([.opened, .closing, .withdrawn] : List BreakerState)) ∧
         b.csq ≠ some .retransfer ∧ b.csq ≠ some .overlap) ∧
     (s.readiness st = true ↔ s.input .genReady = true ∧ ∃ r, s.cme.record = some r ∧ r.warmup = false ∧
       r.line = .live ∧ ∃ f, r.fLine = some f ∧ (f - st.station.fnom * 1000).natAbs ≤ 500))

/-- CSQ_CYCLE_COMPLETION, CSQ_VIEW_EVENT, CSQ_SYN_OUTCOME and CSQ_BREAKER_RECORD on a TIE (R170, R171). OPEN_NORMAL
tests the tie conditions at each of its events, so also at the one that enters it. CSQ_VIEW_EVENT and CSQ_LSC_MODE in
CLOSING_AUTO (R170): a tie condition other than the first that ceases while the breaker is OPEN and the claim not WON
withdraws the request. That the CANCELLED of a request which the CSQ itself withdrew is no outcome to act on is the
model's choice (notes/assumptions/50), and so are that the SYN need not be IDLE in CLOSING_AUTO (notes/assumptions/26) and
that the condition on the latest record fails while that record is WARMUP (notes/assumptions/70). -/
def Obligations.TieFeedsADeadSection : Prop :=
  ∀ (s : State) (st : Settings), s.settings = some st → st.station.role = .tie → s.ssc.station = .auto →
    let conditions : Prop := (∃ r, s.cme.record = some r ∧ r.warmup = false ∧ r.bus = .dead ∧ r.line = .live) ∧
      (∃ m ∈ s.incomers { a := false, b := true }, m.entry.state = .fresh ∧ m.csq = some .sourceLost) ∧
      s.onlineGenerators { a := false, b := true } = [] ∧ s.closedNormalIncomers { a := true, b := false } ≠ [] ∧
      s.bkc.lockout = false ∧ s.bkc.failedToClose = false ∧ s.syn.failedAlarm = false ∧ s.syn.state = .idle
    (s.csq.state = .openNormal → (∃ r, s.cme.record = some r ∧ r.warmup = false) →
      ∃ t, exec .csqCycleCompletion s = .next t ∧
        (st.csq.tieAuto = true → conditions → t.csq.state = .closingAuto ∧ t.csq.fedB = true ∧
          ∃ q, t.syn.request = some q ∧ q.requester = .sequence) ∧
        (st.csq.tieAuto = false ∨ ¬ conditions → t.csq = s.csq ∧ t.syn = s.syn)) ∧
    (s.csq.state = .closedAuto →
      ∃ t, exec .csqViewEvent s = .next t ∧ t.csq.state = .closedAuto ∧
        ((∃ m ∈ s.incomers { a := false, b := true }, m.csq = some .retransfer) →
          .openClaim .sequence ∈ t.due) ∧
        ((∀ m ∈ s.incomers { a := false, b := true }, m.csq ≠ some .retransfer) → t.csq = s.csq)) ∧
    let again : Prop := st.csq.tieAuto = true ∧ conditions
    let closing : State → Prop := fun t => t.csq.state = .closingAuto ∧ t.csq.fedB = true ∧ t.csq.holding = true ∧
      ∃ q, t.syn.request = some q ∧ q.requester = .sequence
    (s.csq.state = .closingAuto → ∀ o, (o = .cancelled → s.csq.withdrawn = 0) →
      ∃ t, exec (.csqSynOutcome (some o)) s = .next t ∧
        (o = .closed → t.csq.state = .closedAuto ∧ t.csq.holding = false) ∧
        (o ≠ .closed → s.bkc.state = .closed →
          t.csq.state = .closedManual ∧ t.csq.fedB = false ∧ t.csq.holding = false) ∧
        (o ≠ .closed → s.bkc.state ≠ .closed → again → closing t) ∧
        (o ≠ .closed → s.bkc.state ≠ .closed → ¬ again →
          t.csq.state = .openNormal ∧ t.csq.fedB = false ∧ t.csq.holding = false)) ∧
    (s.csq.state = .closedAuto ∨ s.csq.state = .closedManual → s.bkc.state = .opened ∨ s.bkc.state = .withdrawn →
      ∃ t, exec .csqBreakerRecord s = .next t ∧ (again → closing t) ∧
        (¬ again → t.csq.state = .openNormal ∧ t.csq.fedB = false)) ∧
    (s.csq.state = .closingAuto → ∀ c ∈ ([.csqViewEvent, .csqLscMode] : List Instr),
      let kept : Prop := (∃ m ∈ s.incomers { a := false, b := true }, m.entry.state = .fresh ∧
          m.csq = some .sourceLost) ∧
        s.onlineGenerators { a := false, b := true } = [] ∧ s.closedNormalIncomers { a := true, b := false } ≠ [] ∧
        s.bkc.lockout = false ∧ s.bkc.failedToClose = false ∧ s.syn.failedAlarm = false
      let won : Prop := ∃ x, s.syn.claim = some x ∧ x.phase = .won
      ∃ t, exec c s = .next t ∧
        (¬ kept → s.bkc.state = .opened → ¬ won →
          t.csq.state = .openNormal ∧ t.csq.fedB = false ∧ t.csq.holding = false ∧
          (∀ q, s.syn.request = some q →
            (q.requester = .sequence → t.syn.request = none ∧ t.syn.claim = none ∧
              .csqSyn (some .cancelled) ∈ t.due) ∧
            (q.requester = .operator → t.syn = s.syn))) ∧
        (kept ∨ s.bkc.state ≠ .opened ∨ won → t.csq = s.csq ∧ t.syn = s.syn))

/-- The feeder's timers (R172, R173, R175): SHED_DELAY_EXPIRY and OVERLOAD_TIMER_EXPIRY in NORMAL, SHED_SETTLE_EXPIRY
with the overload timer run out, and RESTORE_WAIT_EXPIRY in SHED. The restoration of a FEEDER (R173, R174): in SHED,
a cycle completion makes the FEEDER close claim exactly when the six restoration conditions hold, and passes to
RESTORING with it. CSQ_BREAKER_RECORD (R172, R174): a close takes the feeder to NORMAL, unless the feeder's own open
claim still waits at the breaker controller (the model's choice, notes/assumptions/18), an opening at the cubicle or
uncommanded to OPEN_MANUAL, an OPEN record after a restoration that was taken back to SHED, and TRIPPED stands through
every record. CSQ_VIEW_EVENT (R175): a shed that the view shows anew starts the shed settle timer; a feeder in SHED that
is newly a member counts so (the model's choice, notes/assumptions/56). The start and the stop of the shed delay timer
at a cycle completion and of the overload timer at a view in NORMAL (R172, R175), and what the overload condition is.
That the overload timer runs in NORMAL alone, and that a passage back into SHED starts the shed settle timer, are the
model's choices (notes/assumptions/28). A RESET_LOCKOUT taken by a feeder in TRIPPED (R172). -/
def Obligations.FeedersShedAndRestore : Prop :=
  (∀ (s : State) (st : Settings) (due : Time), s.settings = some st → st.station.role = .feeder →
     s.ssc.station = .auto →
     -- this station is the least important of the feeders in NORMAL
     let least : Prop := ∀ m ∈ s.feedersByPriority s.groupSections, ∀ p, m.priority = some p →
       (st.csq.priority < p ∨ (p = st.csq.priority ∧ s.sli.ownNumber < m.number)) → m.csq ≠ some .feederNormal
     (s.csq.shedDelay = some due → s.csq.state = .feederNormal →
       ∃ t, exec .shedDelayExpiry s = .next t ∧ .openClaim .sequence ∈ t.due ∧
         t.csq.shedCause = some .deadBus ∧ (t.csq.state = .shed ∨ t.csq.state = .restoring)) ∧
     (s.csq.overloadTimer = some due → s.csq.state = .feederNormal → s.csq.shedSettle = none →
       s.overloaded st = true →
       ∃ t, exec .overloadTimerExpiry s = .next t ∧
         (least → .openClaim .sequence ∈ t.due ∧ t.csq.shedCause = some .overload) ∧
         (¬ least → t.csq.state = .feederNormal ∧ t.csq.overloadExpired = true)) ∧
     (s.csq.shedSettle = some due → s.csq.state = .feederNormal → s.csq.overloadExpired = true →
       s.overloaded st = true →
       ∃ t, exec .shedSettleExpiry s = .next t ∧
         (least → .openClaim .sequence ∈ t.due ∧ t.csq.shedCause = some .overload) ∧
         (¬ least → t.csq.state = .feederNormal ∧ t.csq.shedSettle = none)) ∧
     (s.csq.restoreWait = some due → s.csq.state = .shed →
       ∃ t, exec .restoreWaitExpiry s = .next t ∧ t.csq.restoreWait = none ∧
         (t.csq.state = .shed ∨ (t.csq.state = .restoring ∧ .closeClaim .feeder ∈ t.due)))) ∧
  (∀ (s : State) (st : Settings) (r : Record), s.settings = some st → st.station.role = .feeder →
     s.ssc.station = .auto → s.csq.state = .shed → s.cme.record = some r → r.warmup = false →
     let utility : Prop := s.closedNormalIncomers s.groupSections ≠ []
     let headrooms := s.freshLoads.map fun x => Int.tdiv ((x.2 : Int) * (1000 - min x.1 1000)) 1000
     let conditions : Prop := r.bus = .live ∧
       (∀ m ∈ s.feedersByPriority s.groupSections, ∀ p, m.priority = some p →
         (p < st.csq.priority ∨ (p = st.csq.priority ∧ m.number < s.sli.ownNumber)) →
         m.csq ≠ some .shed ∧ m.csq ≠ some .restoring) ∧
       (utility ∨ (st.csq.expectedKw : Int) ≤ headrooms.sum - st.csq.reserveKw) ∧
       (s.csq.shedCause = some .overload → utility) ∧
       (∀ mark, s.ptb.addMark = some mark → st.csq.addSettleMs ≤ (s.localTime - mark).toNat) ∧
       (∀ m ∈ s.onlineGenerators s.groupSections, 2 ≤ m.entry.refresh) ∧
       s.bkc.lockout = false ∧ s.bkc.failedToClose = false ∧ s.csq.restoreWait = none
     ∃ t, exec .csqCycleCompletion s = .next t ∧
       (conditions → t.csq.state = .restoring ∧ .closeClaim .feeder ∈ t.due) ∧
       (¬ conditions → t.csq = s.csq ∧ (.closeClaim .feeder ∈ t.due → .closeClaim .feeder ∈ s.due))) ∧
  (∀ (s : State) (st : Settings), s.settings = some st → st.station.role = .feeder → s.ssc.station = .auto →
     (s.csq.state ∈ ([.shed, .restoring, .openManual] : List CsqState) → s.bkc.state = .closed →
       ∃ t, exec .csqBreakerRecord s = .next t ∧
         (.openClaim .sequence ∉ s.due → t.csq.state = .feederNormal ∧ t.csq.shedCause = none) ∧
         (.openClaim .sequence ∈ s.due → t.csq.state ≠ .feederNormal ∧ t.csq.shedCause = s.csq.shedCause)) ∧
     (s.csq.state ∈ ([.feederNormal, .shed, .restoring, .openManual] : List CsqState) →
       s.bkc.state = .opened ∨ s.bkc.state = .withdrawn →
       s.bkc.lastPurpose = some .localButton ∨ s.bkc.lastPurpose = some .uncommanded →
       ∃ t, exec .csqBreakerRecord s = .next t ∧ t.csq.state = .openManual ∧ t.csq.shedCause = none) ∧
     (s.csq.state ≠ .inactive →
       let sheds := ((s.members s.groupSections).filter fun m => m.hasRole .feeder && m.csq == some .shed).map fun m =>
         m.number
       ∃ t, exec .csqViewEvent s = .next t ∧ t.csq.seenShed = sheds ∧
         ((∃ n ∈ sheds, n ∉ s.csq.seenShed) →
           t.csq.shedSettle = some (s.localTime + BitVec.ofNat 32 st.csq.shedSettleMs)) ∧
         ((∀ n ∈ sheds, n ∈ s.csq.seenShed) → t.csq.shedSettle = s.csq.shedSettle))) ∧
  (∀ (s : State) (st : Settings), s.settings = some st → st.station.role = .feeder → s.ssc.station = .auto →
     (s.csq.state = .restoring → s.csq.restoreTaken = true → s.bkc.state = .opened →
       s.bkc.lastPurpose ≠ some .localButton → s.bkc.lastPurpose ≠ some .uncommanded →
       ∃ t, exec .csqBreakerRecord s = .next t ∧ t.csq.shedCause = s.csq.shedCause ∧
         t.csq.shedSettle = some (s.localTime + BitVec.ofNat 32 st.csq.shedSettleMs) ∧
         (s.bkc.failedToClose = true → t.csq.state = .shed) ∧
         (t.csq.state = .shed ∨ t.csq.state = .restoring)) ∧
     (s.csq.state = .tripped → ∃ t, exec .csqBreakerRecord s = .next t ∧ t.csq.state = .tripped) ∧
     (s.csq.state = .tripped → s.input .remotePermit = true → s.input .extTrip = false →
       (∀ e : ElementNo, (s.pes.el e).state = .operated → st.pes.action e ≠ .trip) →
       ∀ r, Handed s r 2 false → r.args = [] → ∃ t, exec (.resetLockout r) s = .next t ∧ t.bkc.lockout = false ∧
         t.csq.state = if s.bkc.state.countsClosed then .feederNormal else .openManual)) ∧
  (∀ (s : State) (st : Settings), s.settings = some st → st.station.role = .feeder → s.ssc.station = .auto →
     s.csq.state = .feederNormal →
     (∀ r, s.cme.record = some r → r.warmup = false → ∃ t, exec .csqCycleCompletion s = .next t ∧
       t.csq = { s.csq with shedDelay := t.csq.shedDelay } ∧
       (st.csq.shedOnDeadBus = false → t.csq.shedDelay = s.csq.shedDelay) ∧
       (st.csq.shedOnDeadBus = true → r.bus ≠ .dead → t.csq.shedDelay = none) ∧
       (st.csq.shedOnDeadBus = true → r.bus = .dead → t.csq.shedDelay =
         if s.csq.shedDelay.isSome then s.csq.shedDelay
         else some (s.localTime + BitVec.ofNat 32 st.csq.shedDelayMs))) ∧
     (∃ t, exec .csqViewEvent s = .next t ∧ t.csq.state = .feederNormal ∧
       (s.overloaded st = false → t.csq.overloadTimer = none ∧ t.csq.overloadExpired = false) ∧
       (s.overloaded st = true → t.csq.overloadExpired = s.csq.overloadExpired ∧ t.csq.overloadTimer =
         if s.csq.overloadTimer.isSome ∨ s.csq.overloadExpired = true then s.csq.overloadTimer
         else some (s.localTime + BitVec.ofNat 32 st.csq.overloadDelayMs))) ∧
     ((s.freshLoads.map fun x => x.2).sum ≠ 0 →
       (s.overloaded st = true ↔
         (∀ m ∈ s.incomers s.groupSections, ∀ r, m.entry.report = some r → ∀ b, r.body = some b →
           ∀ x, b.breaker = some x → x ∈ ([.opened, .closing, .withdrawn] : List BreakerState)) ∧
         (st.csq.shedThreshold : Int) < Int.tdiv ((s.freshLoads.map fun x => x.1 * (x.2 : Int)).sum)
           ((s.freshLoads.map fun x => x.2).sum : Nat))) ∧
     (s.freshLoads = [] → s.overloaded st = false))

/-! ### Recorder -/

/-- The accounting of capture blocks and records (R179, R181, R186), kept by every step: each block has exactly one
home, at most 8 records are held with distinct sequence numbers, at most one is FILLING, and no planned length
exceeds 80. -/
def Obligations.EveryStepKeepsTheCaptureBlocks : Prop :=
  ∀ s t : State, RecorderKept s → step s = .next t → RecorderKept t

/-- DRC_BUFFER_STORE with no record FILLING and no LEVEL trigger (R180, R188, R189): the ring grows by the head of the
free list, or writes over its oldest block; under KEEP an empty free list sets FULL, and under OVERWRITE it makes the
oldest record go. DRC_BUFFER_STORE with a record FILLING and no LEVEL trigger (R187 to R189): the block joins the
record's chain, the post count falls, and the record becomes COMPLETE when it reaches 0, or TRUNCATED when KEEP has no
block left; under OVERWRITE the oldest COMPLETE record gives the block. With one enabled LEVEL input active (R182, R184,
R186): the completion's trigger is taken after the storing, and creates a record that ends with the block just stored,
or extends the FILLING one. -/
def Obligations.CyclesAreStored : Prop :=
  (∀ (s : State) (st : Settings) (b : Buffer), s.settings = some st → s.ssc.station.atWork = true → Settled s →
     s.siu.handed = some b → (∀ r ∈ s.drc.records, r.filling = false) →
     (∀ g : Fin 4, ¬ (st.drc.enableGin.getLsbD g = true ∧ st.drc.levelGin.getLsbD g = true ∧ s.drc.gin[g] = true)) →
     let block : Block :=
       { sets := b.sets.map fun x => x.samples.map fun v => v.value
         cycle := b.cycle.getD 0
         gap := b.sets.any fun x => x.samples.toList.any fun v => !v.valid
         clipped := b.clipped.toList.any id
         trigger := false }
     ∃ t, exec .drcBufferStore s = .next t ∧ t = { s with drc := t.drc, due := t.due } ∧
       -- a ring with room, and a block for it
       (∀ n rest, s.drc.free = n :: rest → s.drc.full = false → s.drc.ring.length < st.drc.pre →
         t.drc.ring = s.drc.ring ++ [n] ∧ t.drc.free = rest ∧ t.drc.blocks[n] = block ∧
         t.drc.records = s.drc.records) ∧
       -- a ring at its length
       (∀ n rest, s.drc.ring = n :: rest → s.drc.full = true ∨ st.drc.pre ≤ s.drc.ring.length →
         t.drc.ring = rest ++ [n] ∧ t.drc.free = s.drc.free ∧ t.drc.blocks[n] = block ∧
         t.drc.records = s.drc.records ∧ ∀ m, m ≠ n → t.drc.blocks[m] = s.drc.blocks[m]) ∧
       -- KEEP with no free block
       (s.drc.full = false → s.drc.ring.length < st.drc.pre → s.drc.free = [] → st.drc.keep = true →
         t.drc.full = true ∧ t.drc.free = [] ∧ t.drc.records = s.drc.records ∧
         (s.drc.ring = [] → t.drc.ring = [] ∧ t.drc.blocks = s.drc.blocks)) ∧
       -- OVERWRITE with no free block: the oldest record goes
       (∀ r rest, s.drc.records = r :: rest → ∀ n m, r.chain = n :: m → s.drc.full = false →
         s.drc.ring.length < st.drc.pre → s.drc.free = [] → st.drc.keep = false →
         t.drc.records = rest ∧ t.drc.free = m ∧ t.drc.ring = s.drc.ring ++ [n] ∧
         t.drc.overwritten = (if s.drc.overwritten = 65535 then s.drc.overwritten else s.drc.overwritten + 1))) ∧
  (∀ (s : State) (st : Settings) (b : Buffer) (before after : List Descriptor) (r : Descriptor),
     s.settings = some st → s.ssc.station.atWork = true → Settled s → s.siu.handed = some b →
     s.drc.records = before ++ r :: after → r.filling = true → (∀ x ∈ before ++ after, x.filling = false) →
     (∀ g : Fin 4, ¬ (st.drc.enableGin.getLsbD g = true ∧ st.drc.levelGin.getLsbD g = true ∧ s.drc.gin[g] = true)) →
     1 ≤ s.drc.postCount →
     ∃ t, exec .drcBufferStore s = .next t ∧ t = { s with drc := t.drc, due := t.due } ∧
       t.drc.ring = s.drc.ring ∧
       (∀ n rest, s.drc.free = n :: rest →
         t.drc.free = rest ∧ t.drc.postCount = s.drc.postCount - 1 ∧
         t.drc.records = before ++
           { r with chain := r.chain ++ [n], filling := decide (s.drc.postCount ≠ 1) } :: after ∧
         t.drc.blocks[n].cycle = b.cycle.getD 0 ∧ t.drc.blocks[n].trigger = s.drc.markNext ∧
         (∀ m, m ≠ n → t.drc.blocks[m] = s.drc.blocks[m])) ∧
       (s.drc.free = [] → st.drc.keep = true →
         t.drc.full = true ∧ t.drc.blocks = s.drc.blocks ∧ t.drc.free = [] ∧
         t.drc.records = before ++ { r with filling := false, truncated := true } :: after) ∧
       -- OVERWRITE with no free block: the oldest COMPLETE record goes
       (s.drc.free = [] → st.drc.keep = false → ∀ old pre, before = old :: pre → ∀ n m, old.chain = n :: m →
         t.drc.free = m ∧ t.drc.postCount = s.drc.postCount - 1 ∧
         t.drc.records = pre ++
           { r with chain := r.chain ++ [n], filling := decide (s.drc.postCount ≠ 1) } :: after ∧
         t.drc.blocks[n].cycle = b.cycle.getD 0 ∧ (∀ m, m ≠ n → t.drc.blocks[m] = s.drc.blocks[m]) ∧
         t.drc.overwritten = (if s.drc.overwritten = 65535 then s.drc.overwritten else s.drc.overwritten + 1))) ∧
  (∀ (s : State) (st : Settings) (b : Buffer) (g : Fin 4) (n : BlockNo) (rest : List BlockNo),
     s.settings = some st → s.ssc.station.atWork = true → Settled s → s.siu.handed = some b →
     (∀ h : Fin 4, (st.drc.enableGin.getLsbD h = true ∧ st.drc.levelGin.getLsbD h = true ∧ s.drc.gin[h] = true) ↔
       h = g) →
     s.drc.free = n :: rest →
     ∃ t, exec .drcBufferStore s = .next t ∧ t = { s with drc := t.drc, sli := t.sli, due := t.due } ∧
       -- no record FILLING, a ring with room and a list with a place
       ((∀ r ∈ s.drc.records, r.filling = false) → s.drc.full = false → s.drc.ring.length < st.drc.pre →
         s.drc.records.length < 8 →
         ∃ r, t.drc.records = s.drc.records ++ [r] ∧ r.filling = true ∧ r.kind = .input ∧
           r.detail = BitVec.ofNat 8 (g.val + 1) ∧ r.start = s.localTime ∧ r.chain = s.drc.ring ++ [n] ∧
           r.preCount = s.drc.ring.length + 1 ∧ (∀ x ∈ s.drc.records, x.seq ≠ r.seq) ∧
           t.drc.ring = [] ∧ t.drc.free = rest ∧ t.drc.postCount = st.drc.post ∧
           t.drc.blocks[n].cycle = b.cycle.getD 0 ∧ t.drc.blocks[n].trigger = true ∧
           (st.drc.crossOut = true → s.sli.conflict = none → s.sli.events.length < 8 →
             t.sli.events = s.sli.events ++ [.captureTrigger r.seq .input r.detail])) ∧
       -- a record FILLING that this block does not complete
       (∀ before after r, s.drc.records = before ++ r :: after → r.filling = true →
         (∀ x ∈ before ++ after, x.filling = false) → 2 ≤ s.drc.postCount →
         r.chain.length + s.drc.postCount < 80 →
         let post := min st.drc.post (79 - r.chain.length)
         t.sli = s.sli ∧ t.drc.ring = s.drc.ring ∧ t.drc.free = rest ∧ t.drc.missed = s.drc.missed ∧
         t.drc.postCount = max (s.drc.postCount - 1) post ∧ t.drc.blocks[n].trigger = true ∧
         t.drc.records = before ++
           { r with chain := r.chain ++ [n],
                    extended := r.extended || decide (s.drc.postCount - 1 < post) } :: after))

/-- DRC_TRIGGER with no record FILLING (R184, R185): a record is created from the ring, with the next sequence number
that is not held, and its CAPTURE_TRIGGER event is placed; or the trigger is missed. DRC_TRIGGER with a record FILLING
(R186): extended, absorbed, or missed at a planned length of 80; never a second record, and never an event on the link.
TRIP_NOTICE_RECEIVED and CAPTURE_TRIGGER_EVENT_RECEIVED from another station (R183, R185): a PEER trigger when the
sender is a member of the group, with no event sent on; disregarded otherwise, or with the PEER enable clear.
DEBOUNCE_EXPIRY of GIN1 to GIN4 (R182): the recorder keeps the new level, and an enabled input that becomes active,
EDGE or LEVEL, gives an INPUT trigger. -/
def Obligations.TriggersMakeOneRecord : Prop :=
  (∀ (s : State) (st : Settings) (kind : PesTrigger) (e : ElementNo), s.settings = some st →
     s.ssc.station.atWork = true → Settled s → (∀ r ∈ s.drc.records, r.filling = false) →
     (kind = .pickup → st.drc.enablePickup = true) → (kind = .trip → st.drc.enableTrip = true) →
     let missed : Prop := st.drc.keep = true ∧
       (8 ≤ s.drc.records.length ∨ s.drc.full = true ∨ (s.drc.ring = [] ∧ s.drc.free = []))
     ∃ t, exec (.drcTrigger kind e) s = .next t ∧ t = { s with drc := t.drc, sli := t.sli, due := t.due } ∧
       (missed → t.sli = s.sli ∧ t.drc.records = s.drc.records ∧ t.drc.ring = s.drc.ring ∧
         t.drc.free = s.drc.free ∧
         t.drc.missed = (if s.drc.missed = 65535 then s.drc.missed else s.drc.missed + 1)) ∧
       (¬ missed → ∃ r, t.drc.records.getLast? = some r ∧ r.filling = true ∧ r.chain = s.drc.ring ∧
         r.kind = (match kind with | .pickup => .pickup | .trip => .trip) ∧
         r.detail = BitVec.ofNat 8 (elementNumber e) ∧ r.start = s.localTime ∧ r.preCount = s.drc.ring.length ∧
         r.trigPos = s.drc.ring.length - 1 ∧ r.shortPre = decide (s.drc.ring.length < st.drc.pre) ∧
         r.extended = false ∧ r.truncated = false ∧ t.drc.ring = [] ∧ t.drc.postCount = st.drc.post ∧
         t.drc.seqCounter = r.seq + 1 ∧
         (s.drc.records.length < 8 → t.drc.records = s.drc.records ++ [r] ∧ t.drc.free = s.drc.free ∧
           (∀ x ∈ s.drc.records, x.seq ≠ r.seq) ∧
           ((∀ x ∈ s.drc.records, x.seq ≠ s.drc.seqCounter) → r.seq = s.drc.seqCounter)) ∧
         (∀ old rest, s.drc.records = old :: rest → 8 ≤ s.drc.records.length →
           t.drc.records = rest ++ [r] ∧ t.drc.free = s.drc.free ++ old.chain) ∧
         (∀ n, s.drc.ring.getLast? = some n → t.drc.blocks[n].trigger = true) ∧
         (st.drc.crossOut = false → t.sli = s.sli) ∧
         (st.drc.crossOut = true → s.sli.conflict = none → s.sli.events.length < 8 →
           t.sli.events = s.sli.events ++ [.captureTrigger r.seq r.kind r.detail]))) ∧
  (∀ (s : State) (st : Settings) (kind : PesTrigger) (e : ElementNo) (before after : List Descriptor)
     (r : Descriptor), s.settings = some st → s.ssc.station.atWork = true → Settled s →
     s.drc.records = before ++ r :: after → r.filling = true → (∀ x ∈ before ++ after, x.filling = false) →
     (kind = .pickup → st.drc.enablePickup = true) → (kind = .trip → st.drc.enableTrip = true) →
     let post := min st.drc.post (80 - r.chain.length)
     ∃ t, exec (.drcTrigger kind e) s = .next t ∧ t = { s with drc := t.drc, due := t.due } ∧
       t.drc.ring = s.drc.ring ∧ t.drc.free = s.drc.free ∧
       (80 ≤ r.chain.length + s.drc.postCount →
         t.drc.records = s.drc.records ∧ t.drc.postCount = s.drc.postCount ∧
         t.drc.missed = (if s.drc.missed = 65535 then s.drc.missed else s.drc.missed + 1)) ∧
       (r.chain.length + s.drc.postCount < 80 →
         t.drc.missed = s.drc.missed ∧
         (∀ n, r.chain.getLast? = some n → t.drc.blocks[n].trigger = true) ∧
         (r.chain = [] → t.drc.markNext = true) ∧
         (s.drc.postCount < post → t.drc.postCount = post ∧
           t.drc.records = before ++ { r with extended := true } :: after) ∧
         (post ≤ s.drc.postCount → t.drc.postCount = s.drc.postCount ∧ t.drc.records = s.drc.records))) ∧
  (∀ (s : State) (st : Settings) (n : StationNo) (cause detail : Byte) (seq : BitVec 16),
     s.settings = some st → s.ssc.station.atWork = true → s.sli.watching = true → n ≠ 0 → n ≠ s.sli.ownNumber →
     Settled s →
     ∀ c ∈ ([.tripNoticeReceived n cause detail, .captureTriggerEventReceived n seq cause detail] : List Instr),
     ∃ t, exec c s = .next t ∧ t = { s with drc := t.drc, sli := t.sli, due := t.due } ∧
       t.sli.events = s.sli.events ∧
       (st.drc.enablePeer = false ∨ s.inGroup n = false → t.drc = s.drc) ∧
       (st.drc.enablePeer = true → s.inGroup n = true → (∀ r ∈ s.drc.records, r.filling = false) →
         s.drc.records.length < 8 → s.drc.full = false → s.drc.free ≠ [] →
         ∃ r, t.drc.records.getLast? = some r ∧ t.drc.records = s.drc.records ++ [r] ∧ r.kind = .peer ∧
           r.detail = BitVec.ofNat 8 n.val ∧ r.chain = s.drc.ring ∧ r.filling = true)) ∧
  (∀ (s : State) (st : Settings) (i : Input) (g : Fin 4) (due : Time),
     s.settings = some st → s.ssc.station.atWork = true → Settled s →
     (i, g) ∈ ([(.gin1, 0), (.gin2, 1), (.gin3, 2), (.gin4, 3)] : List (Input × Fin 4)) →
     s.ssc.debounceTimers[inputIdx i] = some due → s.pins.raw[inputIdx i] ≠ s.input i →
     let level := s.pins.raw[inputIdx i]
     let fires : Prop := level = true ∧ st.drc.enableGin.getLsbD g = true
     ∃ t, exec (.debounceExpiry i) s = .next t ∧
       t = { s with drc := t.drc, ssc := t.ssc, sli := t.sli, due := t.due, localTime := (s.reach due).localTime } ∧
       t.input i = level ∧ (∀ h : Fin 4, t.drc.gin[h] = if h = g then level else s.drc.gin[h]) ∧
       (¬ fires → t.drc = { s.drc with gin := t.drc.gin }) ∧
       (fires → (∀ r ∈ s.drc.records, r.filling = false) → s.drc.records.length < 8 → s.drc.full = false →
         s.drc.free ≠ [] →
         ∃ r, t.drc.records = s.drc.records ++ [r] ∧ r.kind = .input ∧ r.detail = BitVec.ofNat 8 (g.val + 1) ∧
           r.start = t.localTime ∧ r.chain = s.drc.ring ∧ r.filling = true ∧ t.drc.ring = []) ∧
       (fires → ∀ before after r, s.drc.records = before ++ r :: after → r.filling = true →
         (∀ x ∈ before ++ after, x.filling = false) → r.chain.length + s.drc.postCount < 80 →
         t.drc.missed = s.drc.missed ∧ t.drc.records.length = s.drc.records.length ∧
         t.drc.postCount = max s.drc.postCount (min st.drc.post (80 - r.chain.length))))

/-! ### Station link and peer table -/

/-- LINE_FREE (R83, R84, R91, R98): with nothing in flight the station begins the frame of the first occupied slot or
queue, class by class, the BF slot before the notice slot; in conflict it begins CONFLICT frames only; with nothing to
send the line is noted as free. An item placed while the line stands free begins its frame (R83), so that no command
leaves an item waiting for a free line; a report that its timer places is one. A frame of another station that is heard
ends the frame that this station had begun since the line was free: its item waits, a report placed since over the one
that replaced the begun one shows the overrun counted by that, a CLAIM_WITHDRAW placed over a CLAIM
that so never began is taken out of its slot, and the next LINE_FREE begins the first that waits. That the frame begins
at the end of the command that places the item, and ends so at the command that tells of the other frame, is the model's
choice (notes/assumptions/49). FRAME_COMPLETED, TRANSMIT_BIT_ERROR and
ARBITRATION_LOST outside an identity (R85, R86, R91, R92, R133): a completed or abandoned item leaves its slot or
queue, a replacement stays, a CLAIM that leaves starts the hold of a pending claim; a frame that lost arbitration stays
where it waits. -/
def Obligations.FramesTakeTheLineAndLeave : Prop :=
  (∀ s : State, s.ssc.station ≠ .start → s.sli.flight = none → Settled s →
     let l := s.sli
     let begins : State → Slot → List Byte → Prop := fun t slot frame =>
       t = { s with sli := { l with watching := true, lineFree := false, flight := t.sli.flight }, due := t.due } ∧
       ∃ f, t.sli.flight = some f ∧ f.slot = slot ∧ f.replaced = false ∧ f.frame = frame
     ∃ t, exec .lineFree s = .next t ∧
       (l.conflict = none →
         (∀ x, l.bfSlot = some x → begins t .bf (frameBytes 0 l.ownNumber [] 1 [sectionByte x])) ∧
         (l.bfSlot = none →
           (∀ c, l.noticeSlot = some c → begins t .notice
             (frameBytes 0 l.ownNumber [] 0 [BitVec.ofNat 8 (elementNumber c.element), c.detail])) ∧
           (l.noticeSlot = none →
             (∀ x, l.claimSlot = some (.claim x) →
               begins t .claim (frameBytes 1 l.ownNumber [] 0 [sectionByte x])) ∧
             (l.claimSlot = some .withdraw → begins t .claim (frameBytes 1 l.ownNumber [] 1 [])) ∧
             (l.claimSlot = none →
               (∀ r, l.reportSlot = some r → begins t .report (frameBytes 3 l.ownNumber [] 0 (encodeReport r))) ∧
               (l.reportSlot = none →
                 (∀ e es, l.events = e :: es → begins t .events (eventFrame l.ownNumber e)) ∧
                 (l.events = [] →
                   (∀ d ds, l.data = d :: ds →
                     begins t .data (frameBytes 5 l.ownNumber [] (if d.block then 1 else 0) d.payload)) ∧
                   (l.data = [] → l.presenceSlot = some .presence →
                     begins t .presence (frameBytes 6 l.ownNumber (be48 s.pins.identity) 0 [])))))))) ∧
       (∀ n, l.presenceSlot = some (.conflict n) → l.conflict.isSome →
         begins t .presence (frameBytes 7 0 (be48 s.pins.identity) 0 [BitVec.ofNat 8 n.val])) ∧
       (l.presenceSlot = none →
         (l.conflict.isSome ∨ (l.bfSlot = none ∧ l.noticeSlot = none ∧ l.claimSlot = none ∧ l.reportSlot = none ∧
           l.events = [] ∧ l.data = [])) →
         t = { s with sli := { l with watching := true, lineFree := true }, due := t.due })) ∧
  (∀ (s : State) (f : Flight), s.ssc.station ≠ .start → s.sli.flight = some f → Settled s →
     let gone : Slot → Prop := fun slot => f.slot = slot ∧ f.replaced = false
     let left : State → Prop := fun t =>
       t = { s with sli := t.sli, syn := t.syn, due := t.due } ∧ t.sli.flight = none ∧ t.sli.lineFree = false ∧
       (gone .bf → t.sli.bfSlot = none) ∧ (¬ gone .bf → t.sli.bfSlot = s.sli.bfSlot) ∧
       (gone .notice → t.sli.noticeSlot = none) ∧ (¬ gone .notice → t.sli.noticeSlot = s.sli.noticeSlot) ∧
       (gone .claim → t.sli.claimSlot = none) ∧ (¬ gone .claim → t.sli.claimSlot = s.sli.claimSlot) ∧
       (gone .report → t.sli.reportSlot = none) ∧ (¬ gone .report → t.sli.reportSlot = s.sli.reportSlot) ∧
       (gone .presence → t.sli.presenceSlot = none) ∧ (¬ gone .presence → t.sli.presenceSlot = s.sli.presenceSlot) ∧
       t.sli.events = (if f.slot = .events then s.sli.events.tail else s.sli.events) ∧
       t.sli.data = (if f.slot = .data then s.sli.data.tail else s.sli.data) ∧
       t.sli.conflict = s.sli.conflict ∧ t.sli.echo = s.sli.echo ∧ t.sli.ownNumber = s.sli.ownNumber ∧
       (∀ x, s.sli.claimSlot = some (.claim x) → ∀ c, s.syn.claim = some c → c.phase = .pending → gone .claim →
         t.syn = { s.syn with claim := some { sections := c.sections, phase := .holding },
                              holdTimer := some (s.localTime + 60) }) ∧
       (¬ (gone .claim ∧ (∃ x, s.sli.claimSlot = some x ∧ x ≠ .withdraw) ∧
             ∃ c, s.syn.claim = some c ∧ c.phase = .pending) →
         t.syn = s.syn)
     (∃ t, exec .frameCompleted s = .next t ∧ left t ∧ t.sli.counters = s.sli.counters ∧
       t.sli.eventsLost = (s.sli.eventsLost && !f.carriesLost)) ∧
     (∃ t, exec .transmitBitError s = .next t ∧ left t ∧ t.sli.eventsLost = s.sli.eventsLost ∧
       t.sli.counters = { s.sli.counters with txErrors :=
         if s.sli.counters.txErrors = 65535 then 65535 else s.sli.counters.txErrors + 1 }) ∧
     (∃ t, exec (.arbitrationLost false) s = .next t ∧
       t = { s with sli := { s.sli with flight := none, lineFree := false }, due := t.due })) ∧
  ((∀ (c : Instr) (s t : State), exec c s = .next t → LineSettled t) ∧
   (∀ (s : State) (due : Time), s.ssc.station ≠ .start → s.sli.flight = none → s.sli.lineFree = true →
     s.sli.conflict = none → Settled s → s.ptb.reportTimer = some due →
     ∃ t, exec .reportTimerExpiry s = .next t ∧ t.sli.lineFree = false ∧
       ∃ r, t.sli.reportSlot = some r ∧ ∃ f, t.sli.flight = some f ∧ f.slot = .report ∧ f.replaced = false ∧
         f.frame = frameBytes 3 s.sli.ownNumber [] 0 (encodeReport r)) ∧
   (∀ (s : State) (n : StationNo) (identity : BitVec 48), s.ssc.station ≠ .start → s.sli.watching = true →
     s.sli.conflict = none → n ≠ 0 → n ≠ s.sli.ownNumber → Settled s →
     let l := afterHearing s.sli
     ∃ t, exec (.presenceReceived n identity) s = .next t ∧ t = { s with sli := l, due := t.due } ∧
       ∃ u, exec .lineFree t = .next u ∧
         (∀ slot, l.choice = some slot →
           u.sli = { l with flight := u.sli.flight } ∧
             ∃ f, u.sli.flight = some f ∧ f.slot = slot ∧ f.replaced = false ∧
               f.frame = l.frame s.pins.identity slot) ∧
         (l.choice = none → u.sli = { l with lineFree := true })))

/-- FRAME_DISCARDED on a line that the station watches (R88, R100): the count that the fault of a frame raises, saturating
at 65535. Of the faults themselves three cases: a frame as a station sends it is good, one whose CRC bytes differ is a
CRC error, and one cut short is a format error. A length byte above 104, an unknown kind and a wrong length are not
stated here. In START (R83), and before the line was first free after START, no reception changes anything. The model's
choices, which no rule gives (notes/assumptions/49): that frames are taken from the first LINE_FREE after START on, and
what hearing a frame changes of the link besides its own count, on which every counter clause is made: a frame that this
station had begun is taken back, a report that had replaced it counts an overrun, which a report placed since then
shows, and a CLAIM_WITHDRAW placed over it is taken out. -/
def Obligations.DiscardedFramesAreCounted : Prop :=
  (∀ (s : State) (heard : List Byte), s.ssc.station ≠ .start → s.sli.watching = true → Settled s →
    let l := afterHearing s.sli
    ∃ t, exec (.frameDiscarded heard) s = .next t ∧ t = { s with sli := t.sli, due := t.due } ∧
      (discardFault heard = some .crc → t.sli = { l with counters := { l.counters with
        rxCrc := if s.sli.counters.rxCrc = 65535 then 65535 else s.sli.counters.rxCrc + 1 } }) ∧
      (discardFault heard = some .format → t.sli = { l with counters := { l.counters with
        rxFormat := if s.sli.counters.rxFormat = 65535 then 65535 else s.sli.counters.rxFormat + 1 } })) ∧
  (∀ (cls : BitVec 3) (n : StationNo) (identity payload : List Byte) (kind : Byte) (lens : List Nat),
    identity.length = (if cls = 6 ∨ cls = 7 then 6 else 0) → payload.length ≤ 104 →
    kindLengths cls kind = some lens → payload.length ∈ lens →
    let frame := frameBytes cls n identity kind payload
    let covered := frame.take (frame.length - 2)
    discardFault frame = none ∧
    (∀ hi lo : Byte, hi ++ lo ≠ crc16 covered → discardFault (covered ++ [hi, lo]) = some .crc) ∧
    (∀ k, k < frame.length → discardFault (frame.take k) = some .format)) ∧
  (∀ (s : State) (n : StationNo) (x y kind : Byte) (u : Time) (seq : BitVec 16) (report : Vector Byte 58)
     (payload heard : List Byte) (identity : BitVec 48) (r : Request), Settled s →
    s.ssc.station = .start ∨ s.sli.watching = false →
    ∀ c ∈ ([.frameDiscarded heard, .tripNoticeReceived n x y, .bfTransferReceived n x, .claimReceived n x,
        .claimWithdrawReceived n, .reportReceived n report, .inputChangeReceived n x y u,
        .captureTriggerEventReceived n seq x y, .dataReceived n x payload, .presenceReceived n identity,
        .conflictReceived identity x, .openRequest r, .closeRequest r, .resetLockout r, .setMode r, .resetAlarm r,
        .transferTest r, .retransferInhibit r, .retransferNow r, .runDiagnostics r, .captureTrigger r,
        .captureDirectory r, .captureRead r, .captureRelease r, .assignNumber r, .unknownRequest kind r] : List Instr),
      exec c s = .next s)

/-- An address conflict (R89, R97): a frame of any class but REQUEST that bears the own number, a CONFLICT frame that
contests the own number with another identity, and a PRESENCE frame beaten inside its identity each take the station
off the air; frames of other stations that serve nobody here are entered nowhere. CONFLICT_TIMER_EXPIRY (R98) and
PRESENCE_REPEAT_TIMER (R96): the next CONFLICT or PRESENCE frame is placed, and takes a line that stands free (R83; at
the end of the command by the model's choice, notes/assumptions/49, as is what hearing a frame changes of the link). -/
def Obligations.ConflictsAreEnteredAndRepeated : Prop :=
  (∀ (s : State) (x y : Byte) (u : Time) (seq : BitVec 16) (report : Vector Byte 58) (payload : List Byte)
     (identity : BitVec 48), s.ssc.station ≠ .start →
     let own := s.sli.ownNumber
     -- the command `c` ends a frame that left the link `l`, and shows a conflict
     let shows : Instr → Sli → Prop := fun c l =>
       ∃ t, exec c s = .next t ∧
         t = { s with sli := t.sli, ssc := t.ssc, lsc := t.lsc, due := t.due } ∧
         (s.sli.conflict = none →
           t.sli = { l with
             bfSlot := none, noticeSlot := none, claimSlot := none, reportSlot := none, events := [], data := [],
             presenceSlot := some (.conflict own), flight := none, lineFree := false, conflict := some own,
             conflictTimer := some (s.localTime + 1000), presenceTimer := none, presenceLeft := 0 } ∧
           (s.ssc.station = .settingsFault → t.ssc = s.ssc) ∧
           (s.ssc.station ≠ .settingsFault →
             t.ssc = { s.ssc with station := .addressConflict, returnState := some s.ssc.station })) ∧
         (s.sli.conflict.isSome → t.ssc = s.ssc ∧ t.sli = l)
     (s.sli.watching = true →
       ∀ c ∈ ([.tripNoticeReceived own x y, .bfTransferReceived own x, .claimReceived own x,
         .claimWithdrawReceived own, .reportReceived own report, .inputChangeReceived own x y u,
         .captureTriggerEventReceived own seq x y, .dataReceived own x payload, .presenceReceived own identity] :
         List Instr), shows c (afterHearing s.sli)) ∧
     (s.sli.watching = true → own ≠ 0 → identity ≠ s.pins.identity →
       shows (.conflictReceived identity (BitVec.ofNat 8 own.val)) (afterHearing s.sli)) ∧
     ((∃ f, s.sli.flight = some f ∧ f.slot = .presence) →
       shows (.arbitrationLost true) { s.sli with flight := none, lineFree := false }) ∧
     (∀ n : StationNo, s.sli.watching = true → n ≠ own → n ≠ 0 → Settled s →
       ∀ c ∈ ([.inputChangeReceived n x y u, .dataReceived n x payload, .presenceReceived n identity] : List Instr),
       ∃ t, exec c s = .next t ∧ t = { s with sli := afterHearing s.sli, due := t.due })) ∧
  (∀ (s : State) (due : Time), Settled s →
     -- an item of the presence slot that is in flight runs to its end, marked as replaced
     let flight := s.sli.flight.map fun f => { f with replaced := f.replaced || decide (f.slot = .presence) }
     (∀ n, s.sli.conflict = some n → s.sli.conflictTimer = some due →
       ∃ t, exec .conflictTimerExpiry s = .next t ∧
         t = { s with localTime := (s.reach due).localTime, due := t.due, sli := t.sli } ∧
         LineTaken { s.sli with presenceSlot := some (.conflict n), flight := flight,
                                conflictTimer := some (t.localTime + 1000) } t) ∧
     (s.sli.presenceTimer = some due →
       ∃ t, exec .presenceRepeatTimer s = .next t ∧
         t = { s with localTime := (s.reach due).localTime, due := t.due, sli := t.sli } ∧
         LineTaken { s.sli with presenceSlot := some .presence, flight := flight,
                                presenceLeft := s.sli.presenceLeft - 1,
                                presenceTimer := if 2 ≤ s.sli.presenceLeft then some (t.localTime + 20) else none } t))

/-- The link's slots and queues (R90, R92, R98), kept by every step, and the line of a station that is silent through
START (R83). That no item waits for a line that stands free is the model's choice, since R83 lets the frame begin at the
next bit time (notes/assumptions/49). -/
def Obligations.EveryStepKeepsTheLink : Prop :=
  ∀ s t : State, LinkKept s → step s = .next t → LinkKept t

/-- REPORT_RECEIVED from another station (R107, R109, R110): what the sender's entry becomes, and the add mark that a
feeder's close makes; a report for an entry CONFLICTED and not cleared is discarded. That the comparison takes the
contents of an entry CONFLICTED and cleared as they were kept (notes/assumptions/32), and that a report without a claim
field or a breaker state leaves the claim NONE and the breaker-closed time absent (notes/assumptions/41), are the
model's choices. FRESHNESS_TIMER_EXPIRY and LOSS_TIMER_EXPIRY (R108), a CONFLICT frame that contests another number
(R112) and CONFLICT_CLEAR_EXPIRY (R113): the one entry each changes, and how. Each of them publishes the group view
(R119).
The group view itself (R115 to R118), as it stands in every state: the joined flag, the group sections, and each derived
set with exactly its members, each once and in its order; and the FRESH generators whose loads count (R148, R173,
R175). That a FEEDER member without its priority, and a generator without its rated kW, are left out is the model's
choice (notes/assumptions/43 and 54), and so is what hearing a frame changes of the link (notes/assumptions/49). -/
def Obligations.EntriesFollowTheirReports : Prop :=
  (∀ (s : State) (n : StationNo) (payload : Vector Byte 58), s.ssc.station ≠ .start → s.sli.watching = true →
     n ≠ s.sli.ownNumber → n ≠ 0 → Settled s →
     let r := decodeReport payload.toList
     let e := s.ptb.entries[n]
     let shows : Option Report → Prop := fun x =>
       ∃ q, x = some q ∧ ∃ b, q.body = some b ∧ b.breaker = some .closed
     let marks : Prop := shows (some r) ∧ (∃ b, r.body = some b ∧ b.role = .feeder) ∧ ¬ shows e.report
     let barred : Prop := e.state = .conflicted ∧ ∀ c, e.conflict = some c → c.cleared = false
     ∃ t, exec (.reportReceived n payload) s = .next t ∧
       t = { s with sli := t.sli, ptb := t.ptb, pes := t.pes, csq := t.csq, syn := t.syn, lsc := t.lsc, ssc := t.ssc,
                    freeCount := t.freeCount, due := t.due } ∧
       (barred → t = { s with sli := afterHearing s.sli, due := t.due }) ∧
       (¬ barred →
         t.ptb.entries[n].state = .fresh ∧ t.ptb.entries[n].report = some r ∧
         t.ptb.entries[n].reportTime = some s.localTime ∧ t.ptb.entries[n].freshTimer = some (s.localTime + 60) ∧
         t.ptb.entries[n].lossTimer = some (s.localTime + 1000) ∧ t.ptb.entries[n].conflict = none ∧
         (∀ b, r.body = some b → ∀ x, b.claim = some x → t.ptb.entries[n].claim = x) ∧
         (r.body = none → t.ptb.entries[n].claim = .none) ∧
         (¬ shows (some r) → t.ptb.entries[n].closedTime = none) ∧
         (shows (some r) → ¬ shows e.report → t.ptb.entries[n].closedTime = some s.localTime) ∧
         (∀ x, e.closedTime = some x → shows (some r) → shows e.report → t.ptb.entries[n].closedTime = some x) ∧
         (marks → t.ptb.addMark = some s.localTime ∧ t.ptb.entries[n].refresh = 1 ∧
           (∀ m, m ≠ n → t.ptb.entries[m] = { s.ptb.entries[m] with refresh := 0 })) ∧
         (¬ marks → t.ptb.addMark = s.ptb.addMark ∧ t.ptb.entries[n].refresh = min 255 (e.refresh + 1) ∧
           (∀ m, m ≠ n → t.ptb.entries[m] = s.ptb.entries[m])) ∧
         .synView ∈ t.due ∧ .lscView ∈ t.due ∧ .csqView ∈ t.due ∧
         t.ptb.ownBreaker = s.ptb.ownBreaker ∧ t.ptb.reportTimer = s.ptb.reportTimer)) ∧
  (∀ (s : State) (n : StationNo), Settled s →
     let e := s.ptb.entries[n]
     let becomes : State → Entry → Prop := fun t x => t.ptb = { s.ptb with entries := s.ptb.entries.set n x } ∧
       .synView ∈ t.due ∧ .lscView ∈ t.due ∧ .csqView ∈ t.due
     (∀ due, e.freshTimer = some due → ∃ t, exec (.freshnessTimerExpiry n) s = .next t ∧
       t = { s with ptb := t.ptb, localTime := (s.reach due).localTime, due := t.due } ∧
       (e.state = .fresh → becomes t { e with state := .stale, freshTimer := none }) ∧
       (e.state ≠ .fresh → becomes t { e with freshTimer := none })) ∧
     (∀ due, e.lossTimer = some due → ∃ t, exec (.lossTimerExpiry n) s = .next t ∧
       t = { s with ptb := t.ptb, localTime := (s.reach due).localTime, due := t.due } ∧
       (e.state = .fresh ∨ e.state = .stale →
         becomes t { e with state := .lost, freshTimer := none, lossTimer := none }) ∧
       (e.state ≠ .fresh → e.state ≠ .stale → becomes t { e with freshTimer := none, lossTimer := none })) ∧
     (∀ identity : BitVec 48, s.ssc.station ≠ .start → s.sli.watching = true → n ≠ 0 → n ≠ s.sli.ownNumber →
       ∃ t, exec (.conflictReceived identity (BitVec.ofNat 8 n.val)) s = .next t ∧
         t = { s with ptb := t.ptb, sli := afterHearing s.sli, due := t.due } ∧
         becomes t { e with
           state := .conflicted, freshTimer := none, lossTimer := none, closedTime := none, claim := .none,
           conflict := some { time := s.localTime, cleared := false, clearTimer := some (s.localTime + 5000) } } ∧
         .pesConflict n ∈ t.due) ∧
     (∀ k, e.conflict = some k → ∀ due, k.clearTimer = some due → e.state = .conflicted →
       ∃ t, exec (.conflictClearExpiry n) s = .next t ∧
         t = { s with ptb := t.ptb, localTime := (s.reach due).localTime, due := t.due } ∧
         becomes t { e with conflict := some { time := k.time, cleared := true, clearTimer := none } })) ∧
  (∀ s : State,
     let closed : BreakerState → Prop := fun x => x ∈ ([.closed, .opening, .stuckClosed, .discrepant] : List BreakerState)
     let present : Fin 32 → Prop := fun n => n ≠ 0 ∧ n ≠ s.sli.ownNumber ∧
       (s.ptb.entries[n].state = .fresh ∨ s.ptb.entries[n].state = .stale)
     let shows : Fin 32 → (ReportBody → Prop) → Prop := fun n p =>
       ∃ r, s.ptb.entries[n].report = some r ∧ ∃ b, r.body = some b ∧ p b
     let joined : Prop :=
       (∃ st, s.settings = some st ∧ st.station.role = .tie ∧ ∃ b, s.ptb.ownBreaker = some b ∧ closed b.state) ∨
       ∃ n, present n ∧ shows n fun b => b.role = .tie ∧ ∃ x, b.breaker = some x ∧ closed x
     (s.joined = true ↔ joined) ∧
     (∀ st, s.settings = some st → (joined → s.groupSections = { a := true, b := true }) ∧
       (¬ joined → s.groupSections = st.station.sections)) ∧
     (s.settings = none → s.groupSections = { a := false, b := false }) ∧
     (∀ x : SectionSet,
       -- the members of the set that a list of members gives, each with its entry
       let listed : List Member → (Fin 32 → Prop) → Prop := fun l p =>
         (∀ n, p n ↔ ∃ m ∈ l, m.number = n) ∧ (∀ m ∈ l, m.entry = s.ptb.entries[m.number]) ∧
           (l.map fun m => m.number).Nodup
       let rising : List Member → Prop := fun l => l.Pairwise fun m k => m.number < k.number
       let member : (ReportBody → Prop) → Fin 32 → Prop := fun p n => present n ∧ shows n fun b => p b ∧
         if b.role = .tie then x.a = true ∨ x.b = true
         else (b.sections.a = true ∧ x.a = true) ∨ (b.sections.b = true ∧ x.b = true)
       let shut : ReportBody → Prop := fun b => ∃ y, b.breaker = some y ∧ closed y
       (listed (s.members x) (member fun _ => True) ∧ rising (s.members x)) ∧
       (listed (s.closedSources x) (member fun b => (b.role = .incomer ∨ b.role = .generator) ∧ shut b) ∧
         rising (s.closedSources x)) ∧
       (listed (s.onlineGenerators x) (member fun b => b.role = .generator ∧ b.csq = some .online) ∧
         rising (s.onlineGenerators x)) ∧
       (listed (s.incomers x) (member fun b => b.role = .incomer) ∧ rising (s.incomers x)) ∧
       (listed (s.closedNormalIncomers x) (member fun b => b.role = .incomer ∧ shut b ∧ b.csq = some .incNormal) ∧
         rising (s.closedNormalIncomers x)) ∧
       (listed (s.claimsActive x) (fun n => member (fun _ => True) n ∧ ∃ y,
           (s.ptb.entries[n].claim = .claiming y ∨ s.ptb.entries[n].claim = .won y) ∧
           ((y.a = true ∧ x.a = true) ∨ (y.b = true ∧ x.b = true))) ∧
         rising (s.claimsActive x)) ∧
       listed (s.feedersByPriority x) (member fun b => b.role = .feeder ∧ b.feeder.isSome) ∧
       (s.feedersByPriority x).Pairwise fun m k => ∀ p, m.priority = some p → ∀ q, k.priority = some q →
         p < q ∨ (p = q ∧ m.number < k.number)) ∧
     s.freshLoads = ((s.onlineGenerators s.groupSections).filter fun m => m.entry.state = .fresh).filterMap fun m =>
       (m.entry.report.bind fun r => r.body).bind fun b => b.load.bind fun p => b.ratedKw.map fun kw => (p, kw))

/-- CLAIM_RECEIVED and CLAIM_WITHDRAW_RECEIVED from another station (R111, R134, R139): the claim field of the sender's
entry, the yield of a higher-numbered claimant, and the end of a wait for a winner that withdrew. What hearing the frame
changes of the link is the model's choice (notes/assumptions/49); that the SYN judges its eligibility after the PTB has
set the entry is one too, of which nothing is claimed here (notes/assumptions/67). -/
def Obligations.ClaimFramesAreEnteredAndYieldedTo : Prop :=
  ∀ (s : State) (st : Settings) (n : StationNo) (sections : Byte), s.settings = some st → s.ssc.station ≠ .start →
    s.sli.watching = true → n ≠ s.sli.ownNumber → n ≠ 0 →
    let e := s.ptb.entries[n]
    let barred : Prop := e.state = .conflicted ∧ ∀ c, e.conflict = some c → c.cleared = false
    let claimed := sectionsOfByte sections
    (∃ t, exec (.claimReceived n sections) s = .next t ∧
      t = { s with sli := t.sli, ptb := t.ptb, syn := t.syn, lsc := t.lsc, due := t.due } ∧
      (barred → t.ptb = s.ptb) ∧
      (¬ barred → t.ptb = { s.ptb with entries := s.ptb.entries.set n { e with claim := .claiming claimed } }) ∧
      (∀ c, s.syn.claim = some c → s.syn.state = .claiming → c.phase ≠ .won → n < s.sli.ownNumber →
        claimed.overlaps c.sections = true →
        t.syn.state = .yielded ∧ t.syn.claim = none ∧ t.syn.holdTimer = none ∧
        t.syn.yieldTimer = some (s.localTime + 2000) ∧ (∃ w, t.syn.winner = some w ∧ w ≤ n)) ∧
      (∀ c, s.syn.claim = some c → s.syn.state = .claiming →
        (c.phase = .won ∨ s.sli.ownNumber < n ∨ claimed.overlaps c.sections = false) →
        t.syn = s.syn ∧ t.sli = afterHearing s.sli) ∧
      (s.syn.state ∈ ([.idle, .synchronizing, .syncFailed] : List SynState) →
        t.syn = s.syn ∧ t.sli = afterHearing s.sli)) ∧
    (∃ t, exec (.claimWithdrawReceived n) s = .next t ∧
      t = { s with sli := t.sli, ptb := t.ptb, syn := t.syn, lsc := t.lsc, due := t.due } ∧
      (barred → t.ptb = s.ptb) ∧
      (¬ barred → t.ptb = { s.ptb with entries := s.ptb.entries.set n { e with claim := .withdrawn } }) ∧
      (s.syn.state = .yielded → s.syn.winner = some n →
        (t.syn.state = .synchronizing ∨ t.syn.state = .claiming) ∧ t.syn.winner = none ∧ t.syn.yieldTimer = none) ∧
      (s.syn.state ≠ .yielded ∨ s.syn.winner ≠ some n →
        t.syn = s.syn ∧ t.sli = afterHearing s.sli))

/-- REPORT_TIMER_EXPIRY, PTB_SOURCE_PUBLICATION and PTB_MEASURED_UPDATE (R102, R103, R104, R105): when a report is
placed and the report timer starts again, what the own record takes, and that a publication which changes none of
the six fields places no report. Every field of the report that is placed: each from its source, with the presences
that the role decides. That a report shows the fields whose change places none, such as the echo, as they stand at
their source when the report is built is the model's choice (notes/assumptions/12), and so are that θ and slip are judged
by the sequence state last taken (notes/assumptions/31), and that a report which replaces a waiting one shows the
overrun count as it stood before its own placing (notes/assumptions/60). -/
def Obligations.ReportsArePlacedAtTimerAndChange : Prop :=
  ∀ s : State, s.ssc.station ≠ .start → Settled s →
    let built : Settings → OwnBreaker → OwnSequence → ClaimField → OwnMeasured → ReportBody → Prop :=
      fun st k q c m b =>
        let retransfer : Prop := st.station.role = .incomer ∧ q.state = .retransfer
        b = { b with
          role := st.station.role, sections := st.station.sections, clamped := s.ssc.clamped,
          lockout := k.lockout, bf := k.bf, failedToClose := k.failedToClose, stuckAlarm := k.stuckAlarm,
          closeCircuitFault := k.closeCircuitFault, driveReduced := s.cds.reduced, eventsLost := s.sli.eventsLost,
          breaker := some k.state, line := m.line, bus := m.bus, fLine := m.fLine, fBus := m.fBus,
          lastTrip := k.lastTrip.map fun x => (BitVec.ofNat 8 (elementNumber x.element), x.detail),
          csq := some q.state, roleDetail := q.detail, startFailed := q.startFailed, blocked := q.blocked,
          syncFailed := q.syncFailed, claim := some c, tripCircuit := some s.cds.tripResult,
          closeCircuit := some s.cds.closeResult,
          lastRun := s.cds.lastRun.map fun x =>
            { circuit := some x.circuit, outcome := some x.outcome, time := x.time },
          recordsHeld := s.drc.records.length, full := s.drc.full,
          newestSeq := s.drc.records.getLast?.map fun r => r.seq, echo := s.sli.echo.body,
          echoCount := s.sli.echo.count, echoDetail := s.sli.echo.detail, counters := s.sli.counters } ∧
        -- what the role decides
        b.load = (if st.station.role = .feeder then none else m.load) ∧
        b.ratedKw = (if st.station.role = .generator then some st.station.ratedKw else none) ∧
        b.feeder = (if st.station.role = .feeder then some (st.csq.priority, st.csq.expectedKw) else none) ∧
        (retransfer → b.theta = m.theta ∧ (∀ l, m.fLine = some l → ∀ f, m.fBus = some f → b.slip = some (l - f)) ∧
          (m.fLine = none ∨ m.fBus = none → b.slip = none)) ∧
        (¬ retransfer → b.theta = none ∧ b.slip = none) ∧
        -- what the elements show
        (∀ e : ElementNo, (b.pickedUp.getLsbD (elementNumber e - 1) = true ↔ (s.pes.el e).state ≠ .dropped) ∧
          (b.operated.getLsbD (elementNumber e - 1) = true ↔ (s.pes.el e).state = .operated)) ∧
        (b.held = true ↔ ∃ e : ElementNo, (s.pes.el e).held = true)
    let placed : State → Prop := fun t =>
      t.ptb.reportTimer = some (t.localTime + 20) ∧
      (s.sli.conflict.isSome → t.sli = s.sli) ∧
      (s.sli.conflict = none → ∃ r, t.sli.reportSlot = some r ∧
        r.service = t.ptb.ownService.getD s.ssc.station ∧
        (r.service = .settingsFault → r.body = none) ∧
        (r.service ≠ .settingsFault → s.settings.isSome → ∃ b, r.body = some b ∧
          (∀ x, t.ptb.ownBreaker = some x → b.breaker = some x.state ∧ b.lockout = x.lockout ∧ b.bf = x.bf) ∧
          (∀ x, t.ptb.ownSequence = some x → b.csq = some x.state) ∧
          (∀ x, t.ptb.ownClaim = some x → b.claim = some x) ∧ b.echoCount = s.sli.echo.count ∧
          (∀ st, s.settings = some st → ∀ k, t.ptb.ownBreaker = some k → ∀ q, t.ptb.ownSequence = some q →
            ∀ c, t.ptb.ownClaim = some c → ∀ m, t.ptb.ownMeasured = some m → built st k q c m b)))
    let kept : State → Prop := fun t => t.sli = s.sli ∧ t.ptb.reportTimer = s.ptb.reportTimer
    let frame : State → Prop := fun t =>
      t = { s with sli := t.sli, ptb := t.ptb, due := t.due, localTime := t.localTime }
    (∀ due, s.ptb.reportTimer = some due → ∃ t, exec .reportTimerExpiry s = .next t ∧ frame t ∧ placed t ∧
      t.localTime = (s.reach due).localTime) ∧
    (∀ old, s.ptb.ownBreaker = some old → ∃ t, exec (.ptbSourcePublication .bkc) s = .next t ∧ frame t ∧
      t.ptb.ownBreaker = some
        { state := s.bkc.state, lockout := s.bkc.lockout, bf := s.bkc.bfFlag, lastTrip := s.bkc.lastTrip,
          failedToClose := s.bkc.failedToClose, stuckAlarm := s.bkc.stuckAlarm,
          closeCircuitFault := s.bkc.closeCircuitFault } ∧ t.localTime = s.localTime ∧
      (old.state ≠ s.bkc.state ∨ old.lockout ≠ s.bkc.lockout ∨ old.bf ≠ s.bkc.bfFlag → placed t) ∧
      (old.state = s.bkc.state → old.lockout = s.bkc.lockout → old.bf = s.bkc.bfFlag → kept t) ∧
      (old.state ≠ .closed → s.bkc.state = .closed → t.ptb.addMark = some s.localTime ∧
        ∀ n : Fin 32, t.ptb.entries[n].refresh = 0) ∧
      (¬ (old.state ≠ .closed ∧ s.bkc.state = .closed) →
        t.ptb.addMark = s.ptb.addMark ∧ t.ptb.entries = s.ptb.entries)) ∧
    (∀ old, s.ptb.ownSequence = some old → ∃ t, exec (.ptbSourcePublication .csq) s = .next t ∧ frame t ∧
      (∀ st, s.settings = some st → t.ptb.ownSequence = some
        { state := s.csq.state, startFailed := s.csq.startFailed, blocked := s.csq.blocked,
          syncFailed := s.syn.failedAlarm,
          detail := match st.station.role with
            | .incomer => .incomer (some s.csq.monitor) s.csq.inhibit s.csq.transferTest
              (s.csq.mode == some .closedMode)
            | .generator => .generator
            | .tie => .tie { a := false, b := s.csq.fedB }
            | .feeder => .feeder (s.csq.shedCause == some .overload) }) ∧
      t.ptb.ownSequence = some s.sequence ∧ (old.state ≠ s.csq.state → placed t) ∧
      (old.state = s.csq.state → kept t)) ∧
    (∀ old, s.ptb.ownClaim = some old → ∃ t, exec (.ptbSourcePublication .syn) s = .next t ∧ frame t ∧
      t.ptb.ownClaim = some (match s.syn.claim with
        | none => .none
        | some c => if c.phase = .won then .won c.sections else .claiming c.sections) ∧
      (old ≠ s.syn.claimField → placed t) ∧
      (old = s.syn.claimField → kept t)) ∧
    (∀ old, s.ptb.ownService = some old → ∃ t, exec (.ptbSourcePublication .ssc) s = .next t ∧ frame t ∧
      t.ptb.ownService = some s.ssc.station ∧ (old ≠ s.ssc.station → placed t) ∧
      (old = s.ssc.station → kept t)) ∧
    (∀ r, s.cme.record = some r → ∃ t, exec .ptbMeasuredUpdate s = .next t ∧
      t = { s with due := t.due, ptb := t.ptb } ∧ t.ptb = { s.ptb with ownMeasured := t.ptb.ownMeasured } ∧
      t.ptb.ownMeasured = some
        { line := r.line, bus := r.bus, fLine := r.fLine, fBus := r.fBus, load := r.load, theta := r.theta })

/-- The peer entries (R106, R108, R112), kept by every step. -/
def Obligations.EveryStepKeepsThePeers : Prop :=
  ∀ s t : State, PeersKept s → step s = .next t → PeersKept t

/-- The report payload (R102, R208): a report whose fields fit their places is sent in 58 bytes and read back as it was,
field by field. -/
def Obligations.ReportsAreReadBackAsSent : Prop :=
  ∀ r : Report, ReportFits r → (encodeReport r).length = 58 ∧ decodeReport (encodeReport r) = r

/-! ### Requests and service -/

/-- The request intake (R89, R94, R95) for every kind but ASSIGN_NUMBER: a request for another station leaves the echo;
one for this station is answered, and the first line of the table that applies decides. What hearing the frame changes of
the link is the model's choice (notes/assumptions/49). -/
def Obligations.RequestsAreJudgedInOrder : Prop :=
  (∀ (mk : Request → Instr) (code : Byte) (broadcastable : Bool) (r : Request) (s : State),
    (mk, code, broadcastable) ∈ ([(.openRequest, 0, false), (.closeRequest, 1, false), (.resetLockout, 2, false),
      (.setMode, 3, true), (.resetAlarm, 4, true), (.transferTest, 5, false), (.retransferInhibit, 6, true),
      (.retransferNow, 7, false), (.runDiagnostics, 8, false), (.captureTrigger, 9, true),
      (.captureDirectory, 10, false), (.captureRead, 11, false), (.captureRelease, 12, false)] :
        List ((Request → Instr) × Byte × Bool)) →
    s.ssc.station ≠ .start → s.sli.watching = true → Settled s →
    let mine : Prop := r.target = 0 ∨ r.target.toNat = s.sli.ownNumber.val
    let agrees : Prop := crc8 (r.target :: r.origin :: code :: r.args) = r.check
    let originGood : Prop := r.origin ≠ 0 ∧ r.origin.toNat = r.header.val
    ∃ t, exec (mk r) s = .next t ∧
      (r.header = s.sli.ownNumber ∨ ¬ mine →
        t = { s with sli := afterHearing s.sli, due := t.due }) ∧
      (r.header ≠ s.sli.ownNumber → mine →
        t.sli.echo.count = s.sli.echo.count + 1 ∧
        (∃ body, t.sli.echo.body = some body ∧ body.origin = r.origin ∧ body.kind = some code ∧
          body.result.isSome) ∧
        (¬ agrees → OnlyAnswered s t r code .badCheck none) ∧
        (agrees → ¬ originGood → OnlyAnswered s t r code .badArgument none) ∧
        (agrees → originGood → r.target = 0 → broadcastable = false →
          OnlyAnswered s t r code .badArgument none) ∧
        (agrees → originGood → (r.target ≠ 0 ∨ broadcastable = true) →
          (s.ssc.station = .settingsFault ∨ s.ssc.station = .addressConflict) →
          OnlyAnswered s t r code .refusedState none))) ∧
  (∀ (kind : Byte) (r : Request) (s : State), s.ssc.station ≠ .start → s.sli.watching = true → Settled s →
    r.header ≠ s.sli.ownNumber → (r.target = 0 ∨ r.target.toNat = s.sli.ownNumber.val) →
    ∃ t, exec (.unknownRequest kind r) s = .next t ∧
      (crc8 (r.target :: r.origin :: kind :: r.args) ≠ r.check → OnlyAnswered s t r kind .badCheck none) ∧
      (crc8 (r.target :: r.origin :: kind :: r.args) = r.check → OnlyAnswered s t r kind .badArgument none))

/-- OPEN (R64), handed to the BKC. CLOSE (R49, R50, R65, R123), handed to the BKC: the answer names the first check
that fails; a FEEDER closes at that event, and any other station hands the request to its SYN. RESET_LOCKOUT (R61, R62,
R66) and RESET_ALARM (R66, R131, R176), handed to their owners. That the argument of an OPEN, a CLOSE and a
RESET_LOCKOUT is judged before REMOTE_PERMIT is the model's choice (notes/assumptions/21), and so is what hearing the
frame changes of the link (notes/assumptions/49). DEBOUNCE_EXPIRY of LOCAL_OPEN, LOCAL_CLOSE and LOCKOUT_RESET (R63): what
each pushbutton does as it becomes active, and nothing as it becomes inactive. -/
def Obligations.BreakerRequestsAreAnswered : Prop :=
  (∀ (s : State) (st : Settings) (r : Request), s.settings = some st → Handed s r 0 false → Settled s →
     let fits : Prop := r.args = [0] ∨ r.args = [1]
     let soft : Prop := r.args = [0] ∧ st.station.role = .generator ∧ s.csq.state = .online
     let isOpen : Prop := s.bkc.state = .opened ∨ s.bkc.state = .withdrawn
     ∃ t, exec (.openRequest r) s = .next t ∧
       (¬ fits → OnlyAnswered s t r 0 .badArgument none) ∧
       (fits → s.input .remotePermit = false → OnlyAnswered s t r 0 .refusedRemote none) ∧
       (fits → s.input .remotePermit = true → isOpen → OnlyAnswered s t r 0 .refusedState none) ∧
       (fits → s.input .remotePermit = true → ¬ isOpen → Answered s t r 0 .taken none ∧
         t.bkc.lastTrip = s.bkc.lastTrip ∧ t.bkc.lockout = s.bkc.lockout ∧ t.bkc.bfTimer = s.bkc.bfTimer ∧
         (soft → t.bkc = s.bkc ∧ t.cds = s.cds ∧
           ((s.lsc.mode = .softLoad ∨ s.lsc.mode = .share) → s.zeroHolds = false →
             t.lsc.mode = .unload ∧ t.lsc.reason = some .request)) ∧
         (¬ soft → s.bkc.state ∈ ([.closed, .closing, .discrepant] : List BreakerState) →
           t.bkc.state = .opening ∧ t.bkc.lastPurpose = some .request ∧ t.cds.tripOut = true ∧
           t.cds.closeOut = false ∧ t.bkc.tripPulse = some (s.localTime + 200) ∧
           t.bkc.stuckTimer = some (s.localTime + 300)) ∧
         (¬ soft → s.bkc.state = .opening → t.bkc = s.bkc))) ∧
  (∀ (s : State) (st : Settings) (r : Request), s.settings = some st → Handed s r 1 false → Settled s →
     r.args = [] → s.input .remotePermit = true →
     let ready : Prop := s.ssc.station = .auto ∨ s.ssc.station = .manual
     let bay : Prop := s.input .springOk = true ∧ s.bkc.closeCircuitFault = false ∧ s.cds.tripOut = false
     let checks : Prop := s.bkc.state = .opened ∧ ready ∧ s.bkc.lockout = false ∧ bay
     let feeds : Prop := ∃ x, s.cme.record = some x ∧ x.warmup = false ∧ x.bus = .live ∧
       (st.brk.lineVtFitted = true → x.line ≠ .live)
     ∃ t, exec (.closeRequest r) s = .next t ∧
       (s.bkc.state ≠ .opened ∨ ¬ ready → OnlyAnswered s t r 1 .refusedState none) ∧
       (s.bkc.state = .opened → ready → s.bkc.lockout = true → OnlyAnswered s t r 1 .refusedLockout none) ∧
       (s.bkc.state = .opened → ready → s.bkc.lockout = false → ¬ bay →
         OnlyAnswered s t r 1 .refusedInterlock none) ∧
       (checks → st.station.role = .feeder → (¬ feeds → OnlyAnswered s t r 1 .refusedInterlock none) ∧
         (feeds → Answered s t r 1 .taken none ∧ t.bkc.state = .closing ∧ t.cds.closeOut = true ∧
           t.bkc.lastPurpose = some .feeder ∧
           t.bkc.closePulse = some (s.localTime + BitVec.ofNat 32 st.brk.closePulseMs) ∧
           t.bkc.closingTimer = some (s.localTime + 250))) ∧
       (checks → st.station.role ≠ .feeder → t.bkc = s.bkc ∧ t.cds = s.cds ∧
         (s.syn.state = .syncFailed → OnlyAnswered s t r 1 .refusedState none) ∧
         (s.syn.state ≠ .syncFailed → s.syn.request.isSome → OnlyAnswered s t r 1 .busy none) ∧
         (s.syn.state ≠ .syncFailed → s.syn.request = none → Answered s t r 1 .taken none ∧
           t.syn.attempt = 1 ∧ t.syn.permitCount = 0 ∧ t.syn.syncTimer = some (s.localTime + 60000) ∧
           (t.syn.state = .synchronizing ∨ t.syn.state = .claiming) ∧
           t.syn.request = some { requester := .operator, mode :=
             (if st.station.role = .generator ∧ s.ssc.station = .auto then .auto else .checkOnly) }))) ∧
  (∀ (s : State) (st : Settings) (r : Request), s.settings = some st → Settled s →
     (Handed s r 1 false → ∃ t, exec (.closeRequest r) s = .next t ∧
       (r.args ≠ [] → OnlyAnswered s t r 1 .badArgument none) ∧
       (r.args = [] → s.input .remotePermit = false → OnlyAnswered s t r 1 .refusedRemote none)) ∧
     (Handed s r 2 false → r.args ≠ [] → ∃ t, exec (.resetLockout r) s = .next t ∧
       OnlyAnswered s t r 2 .badArgument none)) ∧
  ((∀ (s : State) (st : Settings) (r : Request), s.settings = some st → Handed s r 2 false → Settled s → r.args = [] →
     let standing : Prop := s.input .extTrip = true ∨
       ∃ e : ElementNo, (s.pes.el e).state = .operated ∧ st.pes.action e = .trip
     ∃ t, exec (.resetLockout r) s = .next t ∧
       (s.input .remotePermit = false → OnlyAnswered s t r 2 .refusedRemote none) ∧
       (s.input .remotePermit = true → standing → OnlyAnswered s t r 2 .refusedState none) ∧
       (s.input .remotePermit = true → ¬ standing → Answered s t r 2 .taken none ∧
         (s.bkc.lockout = true → t.bkc =
           { s.bkc with lockout := false, lockoutPulse := some { onSet := false, due := s.localTime + 50 } } ∧
           t.lockoutClrOut = true) ∧
         (s.bkc.lockout = false → t.bkc = s.bkc) ∧
         (st.station.role = .feeder → s.ssc.station = .auto → s.csq.state = .tripped →
           t.csq.state = if s.bkc.state.countsClosed then .feederNormal else .openManual))) ∧
   (∀ (s : State) (r : Request), Handed s r 4 true → Settled s →
     ∃ t, exec (.resetAlarm r) s = .next t ∧
       (r.args ≠ [] → OnlyAnswered s t r 4 .badArgument none) ∧
       (r.args = [] → Answered s t r 4 .taken none ∧ (s.settings.isSome → t.csq.startFailed = false ∧
           t.csq.blocked = false) ∧ t.syn.failedAlarm = false ∧
         (s.syn.state = .syncFailed → s.csq.state = .inactive → t.syn.state = .idle) ∧
         t.bkc = { s.bkc with failedToClose := false,
                              stuckAlarm := s.bkc.stuckAlarm && decide (s.bkc.state = .stuckClosed) }))) ∧
  (∀ (s : State) (st : Settings) (i : Input) (due : Time), s.settings = some st → s.ssc.station.atWork = true →
     i ∈ ([.localOpen, .localClose, .lockoutReset] : List Input) → s.ssc.debounceTimers[inputIdx i] = some due →
     s.pins.raw[inputIdx i] ≠ s.input i →
     let pressed : Prop := s.pins.raw[inputIdx i] = true
     let checks : Prop := s.bkc.state = .opened ∧ (s.ssc.station = .auto ∨ s.ssc.station = .manual) ∧
       s.bkc.lockout = false ∧ s.input .springOk = true ∧ s.bkc.closeCircuitFault = false ∧ s.cds.tripOut = false
     let feeds : Prop := ∃ x, s.cme.record = some x ∧ x.warmup = false ∧ x.bus = .live ∧
       (st.brk.lineVtFitted = true → x.line ≠ .live)
     let standing : Prop := s.input .extTrip = true ∨
       ∃ e : ElementNo, (s.pes.el e).state = .operated ∧ st.pes.action e = .trip
     let keeps : State → Prop := fun t => t.bkc = s.bkc ∧ t.cds = s.cds ∧ t.syn = s.syn ∧ t.csq = s.csq
     ∃ t, exec (.debounceExpiry i) s = .next t ∧ t.input i = s.pins.raw[inputIdx i] ∧
       t.localTime = (s.reach due).localTime ∧ (¬ pressed → keeps t) ∧
       (pressed → i = .localOpen → t.bkc.lockout = s.bkc.lockout ∧ t.bkc.lastTrip = s.bkc.lastTrip ∧
         t.bkc.bfTimer = s.bkc.bfTimer ∧
         (s.bkc.state ∈ ([.closed, .closing, .discrepant] : List BreakerState) →
           t.bkc.state = .opening ∧ t.bkc.lastPurpose = some .localButton ∧ t.cds.tripOut = true ∧
           t.cds.closeOut = false ∧ t.bkc.tripPulse = some (t.localTime + 200) ∧
           t.bkc.stuckTimer = some (t.localTime + 300)) ∧
         (s.bkc.state ∈ ([.opening, .opened, .withdrawn] : List BreakerState) → t.bkc = s.bkc)) ∧
       (pressed → i = .localClose → s.input .remotePermit = true ∨ ¬ checks → keeps t) ∧
       (pressed → i = .localClose → s.input .remotePermit = false → checks →
         (st.station.role = .feeder → (¬ feeds → keeps t) ∧
           (feeds → t.bkc.state = .closing ∧ t.cds.closeOut = true ∧ t.bkc.lastPurpose = some .feeder ∧
             t.bkc.closePulse = some (t.localTime + BitVec.ofNat 32 st.brk.closePulseMs) ∧
             t.bkc.closingTimer = some (t.localTime + 250))) ∧
         (st.station.role ≠ .feeder → t.bkc = s.bkc ∧ t.cds = s.cds ∧
           (s.syn.state = .syncFailed ∨ s.syn.request.isSome → t.syn = s.syn) ∧
           (s.syn.state ≠ .syncFailed → s.syn.request = none →
             t.syn.attempt = 1 ∧ t.syn.permitCount = 0 ∧ t.syn.syncTimer = some (t.localTime + 60000) ∧
             (t.syn.state = .synchronizing ∨ t.syn.state = .claiming) ∧
             t.syn.request = some { requester := .operator, mode :=
               (if st.station.role = .generator ∧ s.ssc.station = .auto then .auto else .checkOnly) }))) ∧
       (pressed → i = .lockoutReset → (standing → keeps t) ∧
         (¬ standing → s.bkc.lockout = true → t.bkc =
           { s.bkc with lockout := false, lockoutPulse := some { onSet := false, due := t.localTime + 50 } } ∧
           t.lockoutClrOut = true) ∧
         (¬ standing → s.bkc.lockout = false → t.bkc = s.bkc)))

/-- SET_MODE (R200), handed to the SSC, is judged by the table, the first line that applies deciding. What hearing the
frame changes of the link is the model's choice (notes/assumptions/49). -/
def Obligations.ServiceStateIsSetByTheTable : Prop :=
  ∀ (s : State) (r : Request), Handed s r 3 true → Settled s →
    let names : StationState → Prop := fun m =>
      (m = .auto ∧ r.args = [0]) ∨ (m = .manual ∧ r.args = [1]) ∨ (m = .test ∧ r.args = [2])
    ∃ t, exec (.setMode r) s = .next t ∧
      ((∀ m, ¬ names m) → OnlyAnswered s t r 3 .badArgument none) ∧
      (∀ m, names m →
        (s.ssc.station = .presence ∨ s.ssc.station = .warmup → OnlyAnswered s t r 3 .refusedState none) ∧
        (s.ssc.station ∈ ([.auto, .manual, .test] : List StationState) →
          (m = s.ssc.station → OnlyAnswered s t r 3 .taken none) ∧
          (m ≠ s.ssc.station → m = .test → s.bkc.state ≠ .opened → s.bkc.state ≠ .withdrawn →
            OnlyAnswered s t r 3 .refusedInterlock none) ∧
          (m ≠ s.ssc.station → (m ≠ .test ∨ s.bkc.state = .opened ∨ s.bkc.state = .withdrawn) →
            Answered s t r 3 .taken none ∧ t.ssc = { s.ssc with station := m } ∧
            t = { s with sli := { afterHearing s.sli with echo := t.sli.echo }, ssc := t.ssc, lsc := t.lsc,
                         due := t.due } ∧
            .pesStation s.ssc.station m ∈ t.due ∧ .synStation s.ssc.station m ∈ t.due ∧
            .lscStation s.ssc.station m ∈ t.due ∧ .cdsStation m ∈ t.due ∧ .ptb .ssc ∈ t.due ∧
            (m = .auto → .csqAutoEntry ∈ t.due) ∧ (s.ssc.station = .auto → .csqAutoExit ∈ t.due))))

/-- TRANSFER_TEST (R161), RETRANSFER_INHIBIT and RETRANSFER_NOW (R166), handed to the CSQ: a START has an incomer in NORMAL
open (R162) and leaves one in RETURNING or RETRANSFER to the next evaluation of the monitor, since it is none itself
(notes/assumptions/63); an END that makes the monitor HEALTHY takes one from SOURCE_LOST to RETURNING. RUN_DIAGNOSTICS
(R80), handed to the CDS. What hearing the frame changes of the link is the model's choice (notes/assumptions/49). -/
def Obligations.SequenceAndDiagnosticsRequestsAreAnswered : Prop :=
  (∀ (s : State) (st : Settings) (r : Request), s.settings = some st → Settled s →
     let fits : Prop := r.args = [0] ∨ r.args = [1]
     (Handed s r 5 false → ∃ t, exec (.transferTest r) s = .next t ∧
       (¬ fits → OnlyAnswered s t r 5 .badArgument none) ∧
       (fits → st.station.role ≠ .incomer → OnlyAnswered s t r 5 .notApplicable none) ∧
       (fits → st.station.role = .incomer → s.input .remotePermit = false →
         OnlyAnswered s t r 5 .refusedRemote none) ∧
       (fits → st.station.role = .incomer → s.input .remotePermit = true → s.ssc.station ≠ .auto →
         OnlyAnswered s t r 5 .refusedState none) ∧
       (st.station.role = .incomer → s.input .remotePermit = true → s.ssc.station = .auto →
         (r.args = [0] → Answered s t r 5 .taken none ∧ t.csq.transferTest = true ∧
           (s.csq.transferTest = false → t.csq.monitor = .failed ∧ t.csq.confirmTimer = none ∧
             (s.csq.state = .incNormal → t.csq.state = .sourceLost ∧ .openClaim .sequence ∈ t.due) ∧
             (s.csq.state = .returning ∨ s.csq.state = .retransfer → t.csq.state = s.csq.state ∧
               t.csq.retransferDelay = s.csq.retransferDelay ∧ t.csq.mode = s.csq.mode))) ∧
         (r.args = [1] → Answered s t r 5 .taken none ∧ t.csq.transferTest = false ∧
           (s.csq.transferTest = true → t.csq.monitor =
             if ∀ e ∈ st.sourceElements, (s.pes.el e).state = .dropped then .healthy else .failed) ∧
           (s.csq.transferTest = true → s.csq.state = .sourceLost →
             (∀ e ∈ st.sourceElements, (s.pes.el e).state = .dropped) → t.csq.state = .returning)))) ∧
     (Handed s r 6 true → ∃ t, exec (.retransferInhibit r) s = .next t ∧
       (¬ fits → OnlyAnswered s t r 6 .badArgument none) ∧
       (fits → st.station.role ≠ .incomer → OnlyAnswered s t r 6 .notApplicable none) ∧
       (fits → st.station.role = .incomer → Answered s t r 6 .taken none ∧
         (t.csq.inhibit = true ↔ r.args = [1]))) ∧
     (Handed s r 7 false → ∃ t, exec (.retransferNow r) s = .next t ∧
       (r.args ≠ [] → OnlyAnswered s t r 7 .badArgument none) ∧
       (r.args = [] → st.station.role ≠ .incomer → OnlyAnswered s t r 7 .notApplicable none) ∧
       (r.args = [] → st.station.role = .incomer → s.input .remotePermit = false →
         OnlyAnswered s t r 7 .refusedRemote none) ∧
       (r.args = [] → st.station.role = .incomer → s.input .remotePermit = true →
         (s.ssc.station ≠ .auto ∨ s.csq.state ≠ .returning → OnlyAnswered s t r 7 .refusedState none) ∧
         (s.ssc.station = .auto → s.csq.state = .returning →
           (s.csq.inhibit = true → OnlyAnswered s t r 7 .refusedInterlock none) ∧
           (s.csq.inhibit = false → s.bkc.lockout = true → OnlyAnswered s t r 7 .refusedLockout none) ∧
           (s.csq.inhibit = false → s.bkc.lockout = false →
             Answered s t r 7 .taken none ∧ t.csq.state = .retransfer ∧ t.csq.retransferDelay = none))))) ∧
  (∀ (s : State) (r : Request), Handed s r 8 false → Settled s →
     let idle : Prop := s.cds.tripOut = false ∧ s.cds.closeOut = false
     let testable : Prop := s.bkc.state = .closed ∨ s.bkc.state = .opened
     ∃ t, exec (.runDiagnostics r) s = .next t ∧
       t = { s with sli := { afterHearing s.sli with echo := t.sli.echo }, cds := t.cds, due := t.due } ∧
       (r.args ≠ [] → OnlyAnswered s t r 8 .badArgument none) ∧
       (r.args = [] →
         (s.ssc.station = .presence ∨ s.ssc.station = .warmup → OnlyAnswered s t r 8 .refusedState none) ∧
         (s.ssc.station ≠ .presence → s.ssc.station ≠ .warmup →
           (s.cds.run.isSome → OnlyAnswered s t r 8 .busy none) ∧
           (s.cds.run = none → ¬ testable → Answered s t r 8 .notApplicable none ∧
             t.cds = { s.cds with lastRun := t.cds.lastRun } ∧
             t.cds.lastRun = some { circuit := .noCircuit, outcome := .notApplicable, time := s.localTime }) ∧
           (s.cds.run = none → testable → ¬ idle → OnlyAnswered s t r 8 .busy none) ∧
           (s.cds.run = none → testable → idle → Answered s t r 8 .taken none ∧
             t.cds.run = some
               { circuit := (if s.bkc.state = .closed then .trip else .close), startState := s.bkc.state, step := 1,
                 due := s.localTime + 10 } ∧
             (∀ i : Fin 4, t.cds.steps[i] = .notRun) ∧ t.cds.retryTimer = none ∧
             t.cds.tripResult = s.cds.tripResult ∧ t.cds.closeResult = s.cds.closeResult))))

/-- CAPTURE_TRIGGER, CAPTURE_DIRECTORY, CAPTURE_READ and CAPTURE_RELEASE (R190 to R193), handed to the DRC: a wrong number
of argument bytes is BAD_ARGUMENT, and a trigger is TAKEN as it creates a record (R184), extends the one that fills or is
absorbed (R186), and BUSY as it is missed. The payload of a DIRECTORY frame and that of a BLOCK frame, byte by byte
(R210). What hearing the frame changes of the link is the model's choice (notes/assumptions/49). -/
def Obligations.CaptureRequestsAreAnswered : Prop :=
  (∀ (s : State) (st : Settings) (r : Request), s.settings = some st → Settled s → s.sli.conflict = none →
    (Handed s r 9 true → ∃ t, exec (.captureTrigger r) s = .next t ∧
      let again : BitVec 16 := if s.drc.missed = 65535 then s.drc.missed else s.drc.missed + 1
      let missed : Prop := st.drc.keep = true ∧
        (8 ≤ s.drc.records.length ∨ s.drc.full = true ∨ (s.drc.ring = [] ∧ s.drc.free = []))
      (r.args ≠ [] → OnlyAnswered s t r 9 .badArgument none) ∧
      (r.args = [] → st.drc.enableRequest = false → OnlyAnswered s t r 9 .refusedState none) ∧
      -- no record is FILLING
      (r.args = [] → st.drc.enableRequest = true → (∀ x ∈ s.drc.records, x.filling = false) →
        (missed → Answered s t r 9 .busy none ∧ t.drc.records = s.drc.records ∧ t.drc.ring = s.drc.ring ∧
          t.drc.free = s.drc.free ∧ t.drc.missed = again) ∧
        (¬ missed → Answered s t r 9 .taken none ∧ t.drc.missed = s.drc.missed ∧ t.drc.postCount = st.drc.post ∧
          ∃ x, t.drc.records.getLast? = some x ∧ x.kind = .request ∧ x.detail = r.origin ∧ x.chain = s.drc.ring ∧
            x.start = s.localTime ∧ x.filling = true ∧
            (s.drc.records.length < 8 → t.drc.records = s.drc.records ++ [x]) ∧
            (8 ≤ s.drc.records.length → t.drc.records = s.drc.records.tail ++ [x]))) ∧
      -- one is
      (r.args = [] → st.drc.enableRequest = true →
        ∀ before x after, s.drc.records = before ++ x :: after → x.filling = true →
        (∀ y ∈ before ++ after, y.filling = false) →
        let post := min st.drc.post (80 - x.chain.length)
        (80 ≤ x.chain.length + s.drc.postCount →
          Answered s t r 9 .busy none ∧ t.drc = { s.drc with missed := again }) ∧
        (x.chain.length + s.drc.postCount < 80 →
          Answered s t r 9 .taken none ∧ t.drc.missed = s.drc.missed ∧
          (∀ n, x.chain.getLast? = some n → t.drc.blocks[n].trigger = true) ∧
          (x.chain = [] → t.drc.markNext = true) ∧
          (s.drc.postCount < post → t.drc.postCount = post ∧
            t.drc.records = before ++ { x with extended := true } :: after) ∧
          (post ≤ s.drc.postCount → t.drc.postCount = s.drc.postCount ∧ t.drc.records = s.drc.records)))) ∧
    (Handed s r 10 false → ∃ t, exec (.captureDirectory r) s = .next t ∧
      (r.args ≠ [] → OnlyAnswered s t r 10 .badArgument none) ∧
      (r.args = [] → 2 ≤ s.sli.data.length → OnlyAnswered s t r 10 .busy none) ∧
      (r.args = [] → s.sli.data.length < 2 → Answered s t r 10 .taken none ∧
        t = { s with sli := t.sli, due := t.due } ∧
        t.sli = { afterHearing s.sli with echo := t.sli.echo, data := s.sli.data ++
          [{ block := false, payload := s.drc.directory st.drc.keep r.origin }] })) ∧
    (Handed s r 11 false → r.args.length ≠ 4 → ∃ t, exec (.captureRead r) s = .next t ∧
      OnlyAnswered s t r 11 .badArgument none) ∧
    (Handed s r 12 false → r.args.length ≠ 2 → ∃ t, exec (.captureRelease r) s = .next t ∧
      OnlyAnswered s t r 12 .badArgument none) ∧
    (∀ hi lo position channel : Byte, r.args = [hi, lo, position, channel] → Handed s r 11 false →
      ∃ t, exec (.captureRead r) s = .next t ∧
        ((∀ x ∈ s.drc.records, x.seq ≠ hi ++ lo) → OnlyAnswered s t r 11 .badArgument (some .noRecord)) ∧
        (∀ x, x ∈ s.drc.records → x.seq = hi ++ lo → (∀ y ∈ s.drc.records, y.seq = hi ++ lo → y = x) →
          (7 < channel.toNat ∨ 79 < position.toNat → OnlyAnswered s t r 11 .badArgument none) ∧
          (channel.toNat ≤ 7 → position.toNat ≤ 79 →
            (x.chain.length ≤ position.toNat → OnlyAnswered s t r 11 .badArgument (some .notWritten)) ∧
            (∀ k : BlockNo, x.chain[position.toNat]? = some k →
              (2 ≤ s.sli.data.length → OnlyAnswered s t r 11 .busy none) ∧
              (s.sli.data.length < 2 → Answered s t r 11 .taken none ∧
                t = { s with sli := t.sli, due := t.due } ∧
                t.sli = { afterHearing s.sli with echo := t.sli.echo, data := s.sli.data ++
                  [{ block := true, payload := blockBytes s.drc.blocks[k] r.origin x.seq position.toNat
                      channel.toNat }] }))))) ∧
    (∀ hi lo : Byte, r.args = [hi, lo] → Handed s r 12 false → ∃ t, exec (.captureRelease r) s = .next t ∧
      ((∀ x ∈ s.drc.records, x.seq ≠ hi ++ lo) → OnlyAnswered s t r 12 .badArgument (some .noRecord)) ∧
      (∀ x, x ∈ s.drc.records → x.seq = hi ++ lo → (∀ y ∈ s.drc.records, y.seq = hi ++ lo → y = x) →
        (x.filling = true → OnlyAnswered s t r 12 .refusedState none) ∧
        (x.filling = false → Answered s t r 12 .taken none ∧
          t.drc = { s.drc with
            records := s.drc.records.filter fun y => y.seq != x.seq, free := s.drc.free ++ x.chain, full := false })))) ∧
  (∀ (d : Drc) (keep : Bool) (dest : Byte), d.records.length ≤ 8 →
    let byte : Nat → Byte := fun k => (d.directory keep dest).getD k 0
    (d.directory keep dest).length = 103 ∧ (byte 0).toNat = dest.toNat % 32 ∧ (byte 1).toNat = d.records.length ∧
    (byte 2).toNat = (if keep then 1 else 0) + (if d.full then 128 else 0) ∧
    byte 3 ++ byte 4 = d.missed ∧ byte 5 ++ byte 6 = d.overwritten ∧
    ∀ k : Fin 8, let at' : Nat → Byte := fun j => byte (7 + 12 * k.val + j)
      (d.records.length ≤ k.val → ∀ j : Fin 12, at' j.val = 0) ∧
      (∀ r, d.records[k.val]? = some r → r.preCount < 256 → r.chain.length < 256 → r.trigPos < 256 →
        at' 0 ++ at' 1 = r.seq ∧
        (at' 2).toNat = 128 + (if r.filling then 0 else 64) +
          (match r.kind with | .pickup => 0 | .trip => 1 | .input => 2 | .peer => 3 | .request => 4) ∧
        at' 3 = r.detail ∧ at' 4 ++ at' 5 ++ at' 6 ++ at' 7 = r.start ∧ (at' 8).toNat = r.preCount ∧
        (at' 9).toNat = r.chain.length ∧ (at' 10).toNat = r.trigPos ∧
        (at' 11).toNat =
          (if r.shortPre then 1 else 0) + (if r.extended then 2 else 0) + (if r.truncated then 4 else 0))) ∧
  (∀ (b : Block) (dest : Byte) (seq : BitVec 16) (position : Nat) (channel : Fin 8), b.sets.length = 48 →
    position < 256 →
    let payload := blockBytes b dest seq position channel.val
    let byte : Nat → Byte := fun k => payload.getD k 0
    let head := byte 4 ++ byte 5 ++ byte 6 ++ byte 7
    payload.length = 104 ∧ (byte 0).toNat = 32 * channel.val + dest.toNat % 32 ∧ byte 1 ++ byte 2 = seq ∧
    (byte 3).toNat = position ∧ head.toNat % 2 ^ 27 = b.cycle % 2 ^ 27 ∧ head.getLsbD 27 = false ∧
    head.getLsbD 28 = false ∧ head.getLsbD 29 = b.gap ∧ head.getLsbD 30 = b.clipped ∧ head.getLsbD 31 = b.trigger ∧
    ∀ (k : Fin 48) (x : Vector Int 8), b.sets[k.val]? = some x → -32768 ≤ x[channel] → x[channel] ≤ 32767 →
      (byte (8 + 2 * k.val) ++ byte (9 + 2 * k.val)).toInt = x[channel])

/-- ASSIGN_NUMBER (R94, R99, R113, R114, R197, R199): only a station with the named identity answers; it takes the
number, leaves an address conflict, and its table forgets both numbers; every station that hears a good assignment
clears the conflict of that number. A station that was not moved to ADDRESS_CONFLICT, as one in SETTINGS_FAULT is not,
keeps its station state. What hearing the frame changes of the link is the model's choice (notes/assumptions/49). -/
def Obligations.NumbersAreAssignedByIdentity : Prop :=
  ∀ (s : State) (r : Request) (identity : BitVec 48) (b : Byte), Settled s →
    s.ssc.station ≠ .start → s.sli.watching = true → r.header ≠ s.sli.ownNumber → r.args = be48 identity ++ [b] →
    let mine : Prop := (r.target = 0 ∨ r.target.toNat = s.sli.ownNumber.val) ∧ identity = s.pins.identity
    let agrees : Prop := crc8 (r.target :: r.origin :: 13 :: r.args) = r.check
    let originGood : Prop := r.origin ≠ 0 ∧ r.origin.toNat = r.header.val
    let fits : Prop := 1 ≤ b.toNat ∧ b.toNat ≤ 31
    let l := afterHearing s.sli
    ∃ t, exec (.assignNumber r) s = .next t ∧
      (¬ mine → t.sli = l ∧ t.ssc = s.ssc ∧
        (∀ n : Fin 32, agrees → n ≠ 0 → n.val = b.toNat → s.ptb.entries[n].state = .conflicted →
          t.ptb.entries[n] = { s.ptb.entries[n] with conflict := s.ptb.entries[n].conflict.map fun c =>
            { c with cleared := true, clearTimer := none } }) ∧
        (∀ n : Fin 32, ¬ agrees ∨ n.val ≠ b.toNat ∨ s.ptb.entries[n].state ≠ .conflicted →
          t.ptb.entries[n] = s.ptb.entries[n])) ∧
      (mine → ¬ agrees → OnlyAnswered s t r 13 .badCheck none) ∧
      (mine → agrees → ¬ originGood → Answered s t r 13 .badArgument none ∧ t.sli.ownNumber = s.sli.ownNumber) ∧
      (mine → agrees → originGood → ¬ fits → OnlyAnswered s t r 13 .badArgument none) ∧
      (mine → agrees → originGood → fits → Answered s t r 13 .taken none ∧ t.sli.ownNumber.val = b.toNat ∧
        t.sli.conflict = none ∧ (s.sli.conflict.isSome → t.sli.conflictTimer = none ∧ t.sli.presenceSlot = none) ∧
        t.sli.counters = l.counters ∧ t.settings = s.settings ∧
        (b.toNat ≠ s.sli.ownNumber.val →
          t.ptb.entries[s.sli.ownNumber] = Entry.empty ∧ t.ptb.entries[t.sli.ownNumber] = Entry.empty) ∧
        (s.sli.conflict = none ∨ s.ssc.returnState = none → t.ssc = s.ssc) ∧
        (∀ back, s.ssc.returnState = some back → s.sli.conflict.isSome → ∀ st, s.settings = some st →
          t.ssc = { s.ssc with
            returnState := none
            station :=
              if back = .presence ∨ back = .warmup then
                (if s.cme.warmCount = 2 then (if st.station.autoInService then .auto else .manual) else .warmup)
              else back }))

/-- SETTINGS_NO_ACKNOWLEDGE, SETTINGS_READ_RETRY and SETTINGS_IMAGE_READ (R45, R62, R96, R120, R195, R197, R204): three
attempts 10 ms apart, an image judged bad for another reason than its CRC ends START at once, and a good image puts its
settings in force. PRESENCE_EXPIRY and SSC_CYCLE_COMPLETION (R198, R199, R203): the way into service, and the converter
alarm. RAW_INPUT_CHANGE and DEBOUNCE_EXPIRY (R201, R202), on an input that no block acts on at its change: the
debounced level follows a raw level that has stood for one debounce time, with one INPUT_CHANGE event for a masked
input. The judgement of an image (R196, R211): the first check that fails decides; and what a good image puts in force
(R196, R211, R212): every field by the table's range and default for the role, with the overrides of R23 and R73, and
CLAMPED exactly when a field was brought to a limit or a default or overridden. What an unknown section code leaves is
free (notes/assumptions/7), and so are bytes that the command does not spell (notes/assumptions/6); that a set-or-clear
field programmed with another value than 0 and 1 takes its default with CLAMPED (notes/assumptions/64), and that an event takes
a free line at the end of the command are the model's choices (notes/assumptions/49). The ALARM output (R203):
energized in every state after START but SETTINGS_FAULT, while no condition of the table stands. -/
def Obligations.StationStartsAndComesIntoService : Prop :=
  (∀ (s : State) (image : List Byte), s.ssc.station = .start → Settled s →
     let fails : State → Prop := fun t =>
       (s.ssc.attempts < 3 → t = { s with due := t.due, ssc := t.ssc } ∧
         t.ssc = { s.ssc with reading := false, readRetry := some (s.localTime + 10) }) ∧
       (3 ≤ s.ssc.attempts → t.ssc.station = .settingsFault ∧ t.settings = s.settings)
     (s.ssc.reading = true → ∃ t, exec .settingsNoAcknowledge s = .next t ∧ fails t) ∧
     (∀ due, s.ssc.readRetry = some due → ∃ t, exec .settingsReadRetry s = .next t ∧
       t = { s with due := t.due, ssc := t.ssc, localTime := (s.reach due).localTime } ∧
       t.ssc = { s.ssc with readRetry := none, reading := true, attempts := s.ssc.attempts + 1 }) ∧
     (s.ssc.reading = true → ∃ t, exec (.settingsImageRead image) s = .next t ∧
       (judgeImage image = .badCrc → fails t) ∧
       (judgeImage image = .badImage → t.ssc.station = .settingsFault ∧ t.settings = s.settings ∧
         t.ptb.reportTimer = some (s.localTime + 20) ∧ t.ptb.addMark = some s.localTime) ∧
       (∀ st clamped, judgeImage image = .good st clamped →
         t.settings = some st ∧ t.ssc.station = .presence ∧ t.ssc.clamped = clamped ∧
         t.ssc.presenceTimer = some (s.localTime + 100) ∧
         (t.ssc.runRequest = true ↔ st.station.role = .generator ∧ s.input .genReady = true) ∧
         t.bkc.lockout = s.input .lockoutIn ∧ t.bkc.state = s.contacts.derived ∧ t.bkc.lockoutPulse = s.bkc.lockoutPulse ∧
         t.cds.tripOut = false ∧ t.cds.closeOut = false ∧
         t.sli.presenceSlot = some .presence ∧ t.sli.presenceTimer = some (s.localTime + 20) ∧
         t.sli.presenceLeft = 2 ∧ (s.sli.conflict = none → t.sli.reportSlot.isSome) ∧
         t.ptb.reportTimer = some (s.localTime + 20) ∧ t.ptb.addMark = some s.localTime ∧
         t.lsc.shareTimer = some (s.localTime + 20)))) ∧
  (∀ (s : State) (st : Settings), s.settings = some st → LineSettled s →
     (∀ due, s.ssc.presenceTimer = some due → ∃ t, exec .presenceExpiry s = .next t ∧
       t = { s with ssc := t.ssc, lsc := t.lsc, due := t.due, localTime := (s.reach due).localTime } ∧
       (s.ssc.station = .presence → t.ssc = { s.ssc with station := .warmup, presenceTimer := none }) ∧
       (s.ssc.station ≠ .presence → t.ssc = { s.ssc with presenceTimer := none })) ∧
     (∃ t, exec .sscCycleCompletion s = .next t ∧
       t = { s with ssc := t.ssc, lsc := t.lsc, due := t.due } ∧
       (t.ssc.convertersLost = true ↔ s.siu.status = some .lost) ∧
       (s.ssc.station = .warmup → s.cme.warmCount = 2 →
         t.ssc.station = (if st.station.autoInService then .auto else .manual) ∧
         (st.station.autoInService = true → .csqAutoEntry ∈ t.due) ∧ .ptb .ssc ∈ t.due) ∧
       (s.ssc.station ≠ .warmup ∨ s.cme.warmCount ≠ 2 → t.ssc.station = s.ssc.station) ∧
       (t.ssc.convertersLost = true → t.alarm = false))) ∧
  (∀ (s : State) (i : Input), Settled s →
     (∀ level : Bool, ∃ t, exec (.rawInputChange i level) s = .next t ∧
       t = { s with ssc := t.ssc, pins := t.pins, due := t.due } ∧
       t.pins.raw[inputIdx i] = level ∧ t.ssc.debounced = s.ssc.debounced ∧
       (level = s.input i → t.ssc.debounceTimers[inputIdx i] = none) ∧
       (level ≠ s.input i → s.ssc.debounceTimers[inputIdx i] = none → ∀ st, s.settings = some st →
         t.ssc.debounceTimers[inputIdx i] = some (s.localTime + BitVec.ofNat 32 st.station.debounceMs)) ∧
       (level ≠ s.input i → s.ssc.debounceTimers[inputIdx i] = none → s.settings = none →
         t.ssc.debounceTimers[inputIdx i] = some (s.localTime + 4)) ∧
       (level ≠ s.input i → s.ssc.debounceTimers[inputIdx i] ≠ none → t.ssc = s.ssc)) ∧
     (∀ st, s.settings = some st → ∀ due, s.ssc.debounceTimers[inputIdx i] = some due → s.ssc.station.atWork = true →
       i ∈ ([.springOk, .remotePermit, .lockoutIn] : List Input) →
       ∃ t, exec (.debounceExpiry i) s = .next t ∧
         t = { s with ssc := t.ssc, sli := t.sli, due := t.due, localTime := (s.reach due).localTime } ∧
         t.input i = s.pins.raw[inputIdx i] ∧ t.ssc.debounceTimers[inputIdx i] = none ∧
         (s.pins.raw[inputIdx i] = s.input i → t.sli = s.sli) ∧
         (s.pins.raw[inputIdx i] ≠ s.input i →
           (st.station.changeMask.getLsbD (inputIdx i).val = false → t.sli = s.sli) ∧
           (st.station.changeMask.getLsbD (inputIdx i).val = true →
             (s.sli.conflict = none → s.sli.events.length < 8 →
               LineTaken { s.sli with
                 events := s.sli.events ++ [.inputChange i s.pins.raw[inputIdx i] t.localTime] } t) ∧
             (s.sli.conflict.isSome ∨ 8 ≤ s.sli.events.length →
               t.sli.events = s.sli.events ∧ t.sli.eventsLost = true ∧
               t.sli.counters.dropped =
                 (if s.sli.counters.dropped = 65535 then 65535 else s.sli.counters.dropped + 1)))))) ∧
  (∀ image : List Byte,
     let byte := imageByte image
     let len := headerLength image
     let f := imageField image
     let formatGood : Prop := byte 0 = 0x46 ∧ byte 1 = 0x20
     let lengthGood : Prop := 12 ≤ len ∧ len ≤ 774 ∧ ∃ k, 1 ≤ k ∧ len = 6 + 6 * k
     let crcGood : Prop := crc16 ((List.range (len - 2)).map byte) = byte (len - 2) ++ byte (len - 1)
     (∀ id v, f id = some v ↔ Programmed image id v) ∧
     (judgeImage image = .badImage ↔
       ¬ formatGood ∨ ¬ lengthGood ∨ (crcGood ∧ ∀ role, ¬ Required f role)) ∧
     (judgeImage image = .badCrc ↔ formatGood ∧ lengthGood ∧ ¬ crcGood) ∧
     (∀ st clamped, judgeImage image = .good st clamped →
       ∃ role, Required f role ∧ SettingsFollow f role st ∧ (clamped = true ↔ Clamps f role st))) ∧
  (∀ s : State,
     let faulty : List CircuitResult := [.openCircuit, .short, .highResistance, .driverFault]
     let standing : Prop := s.bkc.state = .discrepant ∨ s.bkc.failedToClose = true ∨ s.bkc.stuckAlarm = true ∨
       s.cds.tripResult ∈ faulty ∨ s.cds.closeResult ∈ faulty ∨ s.csq.startFailed = true ∨ s.csq.blocked = true ∨
       s.syn.failedAlarm = true ∨ s.ssc.convertersLost = true ∨ s.ssc.station = .addressConflict
     (s.alarm = true ↔ s.ssc.station ≠ .start ∧ s.ssc.station ≠ .settingsFault ∧ ¬ standing))
end

