-- ==== Sys2Proof/Laws/State.lean ====
section
/-! SUPPORT. What each update of one field of the state leaves in every field, so that no proof unfolds a record
update. -/

namespace Sys2Proof.Machine

section withSettings
variable (s : State) (x : Option Settings)

@[simp] theorem State.withSettings_localTime : (s.withSettings x).localTime = s.localTime := rfl
@[simp] theorem State.withSettings_pins : (s.withSettings x).pins = s.pins := rfl
@[simp] theorem State.withSettings_settings : (s.withSettings x).settings = x := rfl
@[simp] theorem State.withSettings_siu : (s.withSettings x).siu = s.siu := rfl
@[simp] theorem State.withSettings_cme : (s.withSettings x).cme = s.cme := rfl
@[simp] theorem State.withSettings_pes : (s.withSettings x).pes = s.pes := rfl
@[simp] theorem State.withSettings_bkc : (s.withSettings x).bkc = s.bkc := rfl
@[simp] theorem State.withSettings_cds : (s.withSettings x).cds = s.cds := rfl
@[simp] theorem State.withSettings_sli : (s.withSettings x).sli = s.sli := rfl
@[simp] theorem State.withSettings_ptb : (s.withSettings x).ptb = s.ptb := rfl
@[simp] theorem State.withSettings_syn : (s.withSettings x).syn = s.syn := rfl
@[simp] theorem State.withSettings_lsc : (s.withSettings x).lsc = s.lsc := rfl
@[simp] theorem State.withSettings_csq : (s.withSettings x).csq = s.csq := rfl
@[simp] theorem State.withSettings_drc : (s.withSettings x).drc = s.drc := rfl
@[simp] theorem State.withSettings_ssc : (s.withSettings x).ssc = s.ssc := rfl
@[simp] theorem State.withSettings_due : (s.withSettings x).due = s.due := rfl
@[simp] theorem State.withSettings_freeCount : (s.withSettings x).freeCount = s.freeCount := rfl
@[simp] theorem State.withSettings_pending : (s.withSettings x).pending = s.pending := rfl

end withSettings

section withPins
variable (s : State) (x : Pins)

@[simp] theorem State.withPins_localTime : (s.withPins x).localTime = s.localTime := rfl
@[simp] theorem State.withPins_pins : (s.withPins x).pins = x := rfl
@[simp] theorem State.withPins_settings : (s.withPins x).settings = s.settings := rfl
@[simp] theorem State.withPins_siu : (s.withPins x).siu = s.siu := rfl
@[simp] theorem State.withPins_cme : (s.withPins x).cme = s.cme := rfl
@[simp] theorem State.withPins_pes : (s.withPins x).pes = s.pes := rfl
@[simp] theorem State.withPins_bkc : (s.withPins x).bkc = s.bkc := rfl
@[simp] theorem State.withPins_cds : (s.withPins x).cds = s.cds := rfl
@[simp] theorem State.withPins_sli : (s.withPins x).sli = s.sli := rfl
@[simp] theorem State.withPins_ptb : (s.withPins x).ptb = s.ptb := rfl
@[simp] theorem State.withPins_syn : (s.withPins x).syn = s.syn := rfl
@[simp] theorem State.withPins_lsc : (s.withPins x).lsc = s.lsc := rfl
@[simp] theorem State.withPins_csq : (s.withPins x).csq = s.csq := rfl
@[simp] theorem State.withPins_drc : (s.withPins x).drc = s.drc := rfl
@[simp] theorem State.withPins_ssc : (s.withPins x).ssc = s.ssc := rfl
@[simp] theorem State.withPins_due : (s.withPins x).due = s.due := rfl
@[simp] theorem State.withPins_freeCount : (s.withPins x).freeCount = s.freeCount := rfl
@[simp] theorem State.withPins_pending : (s.withPins x).pending = s.pending := rfl

end withPins

section withSiu
variable (s : State) (x : Siu)

@[simp] theorem State.withSiu_localTime : (s.withSiu x).localTime = s.localTime := rfl
@[simp] theorem State.withSiu_pins : (s.withSiu x).pins = s.pins := rfl
@[simp] theorem State.withSiu_settings : (s.withSiu x).settings = s.settings := rfl
@[simp] theorem State.withSiu_siu : (s.withSiu x).siu = x := rfl
@[simp] theorem State.withSiu_cme : (s.withSiu x).cme = s.cme := rfl
@[simp] theorem State.withSiu_pes : (s.withSiu x).pes = s.pes := rfl
@[simp] theorem State.withSiu_bkc : (s.withSiu x).bkc = s.bkc := rfl
@[simp] theorem State.withSiu_cds : (s.withSiu x).cds = s.cds := rfl
@[simp] theorem State.withSiu_sli : (s.withSiu x).sli = s.sli := rfl
@[simp] theorem State.withSiu_ptb : (s.withSiu x).ptb = s.ptb := rfl
@[simp] theorem State.withSiu_syn : (s.withSiu x).syn = s.syn := rfl
@[simp] theorem State.withSiu_lsc : (s.withSiu x).lsc = s.lsc := rfl
@[simp] theorem State.withSiu_csq : (s.withSiu x).csq = s.csq := rfl
@[simp] theorem State.withSiu_drc : (s.withSiu x).drc = s.drc := rfl
@[simp] theorem State.withSiu_ssc : (s.withSiu x).ssc = s.ssc := rfl
@[simp] theorem State.withSiu_due : (s.withSiu x).due = s.due := rfl
@[simp] theorem State.withSiu_freeCount : (s.withSiu x).freeCount = s.freeCount := rfl
@[simp] theorem State.withSiu_pending : (s.withSiu x).pending = s.pending := rfl

end withSiu

section withCme
variable (s : State) (x : Cme)

@[simp] theorem State.withCme_localTime : (s.withCme x).localTime = s.localTime := rfl
@[simp] theorem State.withCme_pins : (s.withCme x).pins = s.pins := rfl
@[simp] theorem State.withCme_settings : (s.withCme x).settings = s.settings := rfl
@[simp] theorem State.withCme_siu : (s.withCme x).siu = s.siu := rfl
@[simp] theorem State.withCme_cme : (s.withCme x).cme = x := rfl
@[simp] theorem State.withCme_pes : (s.withCme x).pes = s.pes := rfl
@[simp] theorem State.withCme_bkc : (s.withCme x).bkc = s.bkc := rfl
@[simp] theorem State.withCme_cds : (s.withCme x).cds = s.cds := rfl
@[simp] theorem State.withCme_sli : (s.withCme x).sli = s.sli := rfl
@[simp] theorem State.withCme_ptb : (s.withCme x).ptb = s.ptb := rfl
@[simp] theorem State.withCme_syn : (s.withCme x).syn = s.syn := rfl
@[simp] theorem State.withCme_lsc : (s.withCme x).lsc = s.lsc := rfl
@[simp] theorem State.withCme_csq : (s.withCme x).csq = s.csq := rfl
@[simp] theorem State.withCme_drc : (s.withCme x).drc = s.drc := rfl
@[simp] theorem State.withCme_ssc : (s.withCme x).ssc = s.ssc := rfl
@[simp] theorem State.withCme_due : (s.withCme x).due = s.due := rfl
@[simp] theorem State.withCme_freeCount : (s.withCme x).freeCount = s.freeCount := rfl
@[simp] theorem State.withCme_pending : (s.withCme x).pending = s.pending := rfl

end withCme

section withPes
variable (s : State) (x : Pes)

@[simp] theorem State.withPes_localTime : (s.withPes x).localTime = s.localTime := rfl
@[simp] theorem State.withPes_pins : (s.withPes x).pins = s.pins := rfl
@[simp] theorem State.withPes_settings : (s.withPes x).settings = s.settings := rfl
@[simp] theorem State.withPes_siu : (s.withPes x).siu = s.siu := rfl
@[simp] theorem State.withPes_cme : (s.withPes x).cme = s.cme := rfl
@[simp] theorem State.withPes_pes : (s.withPes x).pes = x := rfl
@[simp] theorem State.withPes_bkc : (s.withPes x).bkc = s.bkc := rfl
@[simp] theorem State.withPes_cds : (s.withPes x).cds = s.cds := rfl
@[simp] theorem State.withPes_sli : (s.withPes x).sli = s.sli := rfl
@[simp] theorem State.withPes_ptb : (s.withPes x).ptb = s.ptb := rfl
@[simp] theorem State.withPes_syn : (s.withPes x).syn = s.syn := rfl
@[simp] theorem State.withPes_lsc : (s.withPes x).lsc = s.lsc := rfl
@[simp] theorem State.withPes_csq : (s.withPes x).csq = s.csq := rfl
@[simp] theorem State.withPes_drc : (s.withPes x).drc = s.drc := rfl
@[simp] theorem State.withPes_ssc : (s.withPes x).ssc = s.ssc := rfl
@[simp] theorem State.withPes_due : (s.withPes x).due = s.due := rfl
@[simp] theorem State.withPes_freeCount : (s.withPes x).freeCount = s.freeCount := rfl
@[simp] theorem State.withPes_pending : (s.withPes x).pending = s.pending := rfl

end withPes

section withBkc
variable (s : State) (x : Bkc)

@[simp] theorem State.withBkc_localTime : (s.withBkc x).localTime = s.localTime := rfl
@[simp] theorem State.withBkc_pins : (s.withBkc x).pins = s.pins := rfl
@[simp] theorem State.withBkc_settings : (s.withBkc x).settings = s.settings := rfl
@[simp] theorem State.withBkc_siu : (s.withBkc x).siu = s.siu := rfl
@[simp] theorem State.withBkc_cme : (s.withBkc x).cme = s.cme := rfl
@[simp] theorem State.withBkc_pes : (s.withBkc x).pes = s.pes := rfl
@[simp] theorem State.withBkc_bkc : (s.withBkc x).bkc = x := rfl
@[simp] theorem State.withBkc_cds : (s.withBkc x).cds = s.cds := rfl
@[simp] theorem State.withBkc_sli : (s.withBkc x).sli = s.sli := rfl
@[simp] theorem State.withBkc_ptb : (s.withBkc x).ptb = s.ptb := rfl
@[simp] theorem State.withBkc_syn : (s.withBkc x).syn = s.syn := rfl
@[simp] theorem State.withBkc_lsc : (s.withBkc x).lsc = s.lsc := rfl
@[simp] theorem State.withBkc_csq : (s.withBkc x).csq = s.csq := rfl
@[simp] theorem State.withBkc_drc : (s.withBkc x).drc = s.drc := rfl
@[simp] theorem State.withBkc_ssc : (s.withBkc x).ssc = s.ssc := rfl
@[simp] theorem State.withBkc_due : (s.withBkc x).due = s.due := rfl
@[simp] theorem State.withBkc_freeCount : (s.withBkc x).freeCount = s.freeCount := rfl
@[simp] theorem State.withBkc_pending : (s.withBkc x).pending = s.pending := rfl

end withBkc

section withCds
variable (s : State) (x : Cds)

@[simp] theorem State.withCds_localTime : (s.withCds x).localTime = s.localTime := rfl
@[simp] theorem State.withCds_pins : (s.withCds x).pins = s.pins := rfl
@[simp] theorem State.withCds_settings : (s.withCds x).settings = s.settings := rfl
@[simp] theorem State.withCds_siu : (s.withCds x).siu = s.siu := rfl
@[simp] theorem State.withCds_cme : (s.withCds x).cme = s.cme := rfl
@[simp] theorem State.withCds_pes : (s.withCds x).pes = s.pes := rfl
@[simp] theorem State.withCds_bkc : (s.withCds x).bkc = s.bkc := rfl
@[simp] theorem State.withCds_cds : (s.withCds x).cds = x := rfl
@[simp] theorem State.withCds_sli : (s.withCds x).sli = s.sli := rfl
@[simp] theorem State.withCds_ptb : (s.withCds x).ptb = s.ptb := rfl
@[simp] theorem State.withCds_syn : (s.withCds x).syn = s.syn := rfl
@[simp] theorem State.withCds_lsc : (s.withCds x).lsc = s.lsc := rfl
@[simp] theorem State.withCds_csq : (s.withCds x).csq = s.csq := rfl
@[simp] theorem State.withCds_drc : (s.withCds x).drc = s.drc := rfl
@[simp] theorem State.withCds_ssc : (s.withCds x).ssc = s.ssc := rfl
@[simp] theorem State.withCds_due : (s.withCds x).due = s.due := rfl
@[simp] theorem State.withCds_freeCount : (s.withCds x).freeCount = s.freeCount := rfl
@[simp] theorem State.withCds_pending : (s.withCds x).pending = s.pending := rfl

end withCds

section withSli
variable (s : State) (x : Sli)

@[simp] theorem State.withSli_localTime : (s.withSli x).localTime = s.localTime := rfl
@[simp] theorem State.withSli_pins : (s.withSli x).pins = s.pins := rfl
@[simp] theorem State.withSli_settings : (s.withSli x).settings = s.settings := rfl
@[simp] theorem State.withSli_siu : (s.withSli x).siu = s.siu := rfl
@[simp] theorem State.withSli_cme : (s.withSli x).cme = s.cme := rfl
@[simp] theorem State.withSli_pes : (s.withSli x).pes = s.pes := rfl
@[simp] theorem State.withSli_bkc : (s.withSli x).bkc = s.bkc := rfl
@[simp] theorem State.withSli_cds : (s.withSli x).cds = s.cds := rfl
@[simp] theorem State.withSli_sli : (s.withSli x).sli = x := rfl
@[simp] theorem State.withSli_ptb : (s.withSli x).ptb = s.ptb := rfl
@[simp] theorem State.withSli_syn : (s.withSli x).syn = s.syn := rfl
@[simp] theorem State.withSli_lsc : (s.withSli x).lsc = s.lsc := rfl
@[simp] theorem State.withSli_csq : (s.withSli x).csq = s.csq := rfl
@[simp] theorem State.withSli_drc : (s.withSli x).drc = s.drc := rfl
@[simp] theorem State.withSli_ssc : (s.withSli x).ssc = s.ssc := rfl
@[simp] theorem State.withSli_due : (s.withSli x).due = s.due := rfl
@[simp] theorem State.withSli_freeCount : (s.withSli x).freeCount = s.freeCount := rfl
@[simp] theorem State.withSli_pending : (s.withSli x).pending = s.pending := rfl

end withSli

section withPtb
variable (s : State) (x : Ptb)

@[simp] theorem State.withPtb_localTime : (s.withPtb x).localTime = s.localTime := rfl
@[simp] theorem State.withPtb_pins : (s.withPtb x).pins = s.pins := rfl
@[simp] theorem State.withPtb_settings : (s.withPtb x).settings = s.settings := rfl
@[simp] theorem State.withPtb_siu : (s.withPtb x).siu = s.siu := rfl
@[simp] theorem State.withPtb_cme : (s.withPtb x).cme = s.cme := rfl
@[simp] theorem State.withPtb_pes : (s.withPtb x).pes = s.pes := rfl
@[simp] theorem State.withPtb_bkc : (s.withPtb x).bkc = s.bkc := rfl
@[simp] theorem State.withPtb_cds : (s.withPtb x).cds = s.cds := rfl
@[simp] theorem State.withPtb_sli : (s.withPtb x).sli = s.sli := rfl
@[simp] theorem State.withPtb_ptb : (s.withPtb x).ptb = x := rfl
@[simp] theorem State.withPtb_syn : (s.withPtb x).syn = s.syn := rfl
@[simp] theorem State.withPtb_lsc : (s.withPtb x).lsc = s.lsc := rfl
@[simp] theorem State.withPtb_csq : (s.withPtb x).csq = s.csq := rfl
@[simp] theorem State.withPtb_drc : (s.withPtb x).drc = s.drc := rfl
@[simp] theorem State.withPtb_ssc : (s.withPtb x).ssc = s.ssc := rfl
@[simp] theorem State.withPtb_due : (s.withPtb x).due = s.due := rfl
@[simp] theorem State.withPtb_freeCount : (s.withPtb x).freeCount = s.freeCount := rfl
@[simp] theorem State.withPtb_pending : (s.withPtb x).pending = s.pending := rfl

end withPtb

section withSyn
variable (s : State) (x : Syn)

@[simp] theorem State.withSyn_localTime : (s.withSyn x).localTime = s.localTime := rfl
@[simp] theorem State.withSyn_pins : (s.withSyn x).pins = s.pins := rfl
@[simp] theorem State.withSyn_settings : (s.withSyn x).settings = s.settings := rfl
@[simp] theorem State.withSyn_siu : (s.withSyn x).siu = s.siu := rfl
@[simp] theorem State.withSyn_cme : (s.withSyn x).cme = s.cme := rfl
@[simp] theorem State.withSyn_pes : (s.withSyn x).pes = s.pes := rfl
@[simp] theorem State.withSyn_bkc : (s.withSyn x).bkc = s.bkc := rfl
@[simp] theorem State.withSyn_cds : (s.withSyn x).cds = s.cds := rfl
@[simp] theorem State.withSyn_sli : (s.withSyn x).sli = s.sli := rfl
@[simp] theorem State.withSyn_ptb : (s.withSyn x).ptb = s.ptb := rfl
@[simp] theorem State.withSyn_syn : (s.withSyn x).syn = x := rfl
@[simp] theorem State.withSyn_lsc : (s.withSyn x).lsc = s.lsc := rfl
@[simp] theorem State.withSyn_csq : (s.withSyn x).csq = s.csq := rfl
@[simp] theorem State.withSyn_drc : (s.withSyn x).drc = s.drc := rfl
@[simp] theorem State.withSyn_ssc : (s.withSyn x).ssc = s.ssc := rfl
@[simp] theorem State.withSyn_due : (s.withSyn x).due = s.due := rfl
@[simp] theorem State.withSyn_freeCount : (s.withSyn x).freeCount = s.freeCount := rfl
@[simp] theorem State.withSyn_pending : (s.withSyn x).pending = s.pending := rfl

end withSyn

section withLsc
variable (s : State) (x : Lsc)

@[simp] theorem State.withLsc_localTime : (s.withLsc x).localTime = s.localTime := rfl
@[simp] theorem State.withLsc_pins : (s.withLsc x).pins = s.pins := rfl
@[simp] theorem State.withLsc_settings : (s.withLsc x).settings = s.settings := rfl
@[simp] theorem State.withLsc_siu : (s.withLsc x).siu = s.siu := rfl
@[simp] theorem State.withLsc_cme : (s.withLsc x).cme = s.cme := rfl
@[simp] theorem State.withLsc_pes : (s.withLsc x).pes = s.pes := rfl
@[simp] theorem State.withLsc_bkc : (s.withLsc x).bkc = s.bkc := rfl
@[simp] theorem State.withLsc_cds : (s.withLsc x).cds = s.cds := rfl
@[simp] theorem State.withLsc_sli : (s.withLsc x).sli = s.sli := rfl
@[simp] theorem State.withLsc_ptb : (s.withLsc x).ptb = s.ptb := rfl
@[simp] theorem State.withLsc_syn : (s.withLsc x).syn = s.syn := rfl
@[simp] theorem State.withLsc_lsc : (s.withLsc x).lsc = x := rfl
@[simp] theorem State.withLsc_csq : (s.withLsc x).csq = s.csq := rfl
@[simp] theorem State.withLsc_drc : (s.withLsc x).drc = s.drc := rfl
@[simp] theorem State.withLsc_ssc : (s.withLsc x).ssc = s.ssc := rfl
@[simp] theorem State.withLsc_due : (s.withLsc x).due = s.due := rfl
@[simp] theorem State.withLsc_freeCount : (s.withLsc x).freeCount = s.freeCount := rfl
@[simp] theorem State.withLsc_pending : (s.withLsc x).pending = s.pending := rfl

end withLsc

section withCsq
variable (s : State) (x : Csq)

@[simp] theorem State.withCsq_localTime : (s.withCsq x).localTime = s.localTime := rfl
@[simp] theorem State.withCsq_pins : (s.withCsq x).pins = s.pins := rfl
@[simp] theorem State.withCsq_settings : (s.withCsq x).settings = s.settings := rfl
@[simp] theorem State.withCsq_siu : (s.withCsq x).siu = s.siu := rfl
@[simp] theorem State.withCsq_cme : (s.withCsq x).cme = s.cme := rfl
@[simp] theorem State.withCsq_pes : (s.withCsq x).pes = s.pes := rfl
@[simp] theorem State.withCsq_bkc : (s.withCsq x).bkc = s.bkc := rfl
@[simp] theorem State.withCsq_cds : (s.withCsq x).cds = s.cds := rfl
@[simp] theorem State.withCsq_sli : (s.withCsq x).sli = s.sli := rfl
@[simp] theorem State.withCsq_ptb : (s.withCsq x).ptb = s.ptb := rfl
@[simp] theorem State.withCsq_syn : (s.withCsq x).syn = s.syn := rfl
@[simp] theorem State.withCsq_lsc : (s.withCsq x).lsc = s.lsc := rfl
@[simp] theorem State.withCsq_csq : (s.withCsq x).csq = x := rfl
@[simp] theorem State.withCsq_drc : (s.withCsq x).drc = s.drc := rfl
@[simp] theorem State.withCsq_ssc : (s.withCsq x).ssc = s.ssc := rfl
@[simp] theorem State.withCsq_due : (s.withCsq x).due = s.due := rfl
@[simp] theorem State.withCsq_freeCount : (s.withCsq x).freeCount = s.freeCount := rfl
@[simp] theorem State.withCsq_pending : (s.withCsq x).pending = s.pending := rfl

end withCsq

section withDrc
variable (s : State) (x : Drc)

@[simp] theorem State.withDrc_localTime : (s.withDrc x).localTime = s.localTime := rfl
@[simp] theorem State.withDrc_pins : (s.withDrc x).pins = s.pins := rfl
@[simp] theorem State.withDrc_settings : (s.withDrc x).settings = s.settings := rfl
@[simp] theorem State.withDrc_siu : (s.withDrc x).siu = s.siu := rfl
@[simp] theorem State.withDrc_cme : (s.withDrc x).cme = s.cme := rfl
@[simp] theorem State.withDrc_pes : (s.withDrc x).pes = s.pes := rfl
@[simp] theorem State.withDrc_bkc : (s.withDrc x).bkc = s.bkc := rfl
@[simp] theorem State.withDrc_cds : (s.withDrc x).cds = s.cds := rfl
@[simp] theorem State.withDrc_sli : (s.withDrc x).sli = s.sli := rfl
@[simp] theorem State.withDrc_ptb : (s.withDrc x).ptb = s.ptb := rfl
@[simp] theorem State.withDrc_syn : (s.withDrc x).syn = s.syn := rfl
@[simp] theorem State.withDrc_lsc : (s.withDrc x).lsc = s.lsc := rfl
@[simp] theorem State.withDrc_csq : (s.withDrc x).csq = s.csq := rfl
@[simp] theorem State.withDrc_drc : (s.withDrc x).drc = x := rfl
@[simp] theorem State.withDrc_ssc : (s.withDrc x).ssc = s.ssc := rfl
@[simp] theorem State.withDrc_due : (s.withDrc x).due = s.due := rfl
@[simp] theorem State.withDrc_freeCount : (s.withDrc x).freeCount = s.freeCount := rfl
@[simp] theorem State.withDrc_pending : (s.withDrc x).pending = s.pending := rfl

end withDrc

section withSsc
variable (s : State) (x : Ssc)

@[simp] theorem State.withSsc_localTime : (s.withSsc x).localTime = s.localTime := rfl
@[simp] theorem State.withSsc_pins : (s.withSsc x).pins = s.pins := rfl
@[simp] theorem State.withSsc_settings : (s.withSsc x).settings = s.settings := rfl
@[simp] theorem State.withSsc_siu : (s.withSsc x).siu = s.siu := rfl
@[simp] theorem State.withSsc_cme : (s.withSsc x).cme = s.cme := rfl
@[simp] theorem State.withSsc_pes : (s.withSsc x).pes = s.pes := rfl
@[simp] theorem State.withSsc_bkc : (s.withSsc x).bkc = s.bkc := rfl
@[simp] theorem State.withSsc_cds : (s.withSsc x).cds = s.cds := rfl
@[simp] theorem State.withSsc_sli : (s.withSsc x).sli = s.sli := rfl
@[simp] theorem State.withSsc_ptb : (s.withSsc x).ptb = s.ptb := rfl
@[simp] theorem State.withSsc_syn : (s.withSsc x).syn = s.syn := rfl
@[simp] theorem State.withSsc_lsc : (s.withSsc x).lsc = s.lsc := rfl
@[simp] theorem State.withSsc_csq : (s.withSsc x).csq = s.csq := rfl
@[simp] theorem State.withSsc_drc : (s.withSsc x).drc = s.drc := rfl
@[simp] theorem State.withSsc_ssc : (s.withSsc x).ssc = x := rfl
@[simp] theorem State.withSsc_due : (s.withSsc x).due = s.due := rfl
@[simp] theorem State.withSsc_freeCount : (s.withSsc x).freeCount = s.freeCount := rfl
@[simp] theorem State.withSsc_pending : (s.withSsc x).pending = s.pending := rfl

end withSsc

section withTime
variable (s : State) (x : Time)

@[simp] theorem State.withTime_localTime : (s.withTime x).localTime = x := rfl
@[simp] theorem State.withTime_pins : (s.withTime x).pins = s.pins := rfl
@[simp] theorem State.withTime_settings : (s.withTime x).settings = s.settings := rfl
@[simp] theorem State.withTime_siu : (s.withTime x).siu = s.siu := rfl
@[simp] theorem State.withTime_cme : (s.withTime x).cme = s.cme := rfl
@[simp] theorem State.withTime_pes : (s.withTime x).pes = s.pes := rfl
@[simp] theorem State.withTime_bkc : (s.withTime x).bkc = s.bkc := rfl
@[simp] theorem State.withTime_cds : (s.withTime x).cds = s.cds := rfl
@[simp] theorem State.withTime_sli : (s.withTime x).sli = s.sli := rfl
@[simp] theorem State.withTime_ptb : (s.withTime x).ptb = s.ptb := rfl
@[simp] theorem State.withTime_syn : (s.withTime x).syn = s.syn := rfl
@[simp] theorem State.withTime_lsc : (s.withTime x).lsc = s.lsc := rfl
@[simp] theorem State.withTime_csq : (s.withTime x).csq = s.csq := rfl
@[simp] theorem State.withTime_drc : (s.withTime x).drc = s.drc := rfl
@[simp] theorem State.withTime_ssc : (s.withTime x).ssc = s.ssc := rfl
@[simp] theorem State.withTime_due : (s.withTime x).due = s.due := rfl
@[simp] theorem State.withTime_freeCount : (s.withTime x).freeCount = s.freeCount := rfl
@[simp] theorem State.withTime_pending : (s.withTime x).pending = s.pending := rfl

end withTime

section withDue
variable (s : State) (x : List Delivery)

@[simp] theorem State.withDue_localTime : (s.withDue x).localTime = s.localTime := rfl
@[simp] theorem State.withDue_pins : (s.withDue x).pins = s.pins := rfl
@[simp] theorem State.withDue_settings : (s.withDue x).settings = s.settings := rfl
@[simp] theorem State.withDue_siu : (s.withDue x).siu = s.siu := rfl
@[simp] theorem State.withDue_cme : (s.withDue x).cme = s.cme := rfl
@[simp] theorem State.withDue_pes : (s.withDue x).pes = s.pes := rfl
@[simp] theorem State.withDue_bkc : (s.withDue x).bkc = s.bkc := rfl
@[simp] theorem State.withDue_cds : (s.withDue x).cds = s.cds := rfl
@[simp] theorem State.withDue_sli : (s.withDue x).sli = s.sli := rfl
@[simp] theorem State.withDue_ptb : (s.withDue x).ptb = s.ptb := rfl
@[simp] theorem State.withDue_syn : (s.withDue x).syn = s.syn := rfl
@[simp] theorem State.withDue_lsc : (s.withDue x).lsc = s.lsc := rfl
@[simp] theorem State.withDue_csq : (s.withDue x).csq = s.csq := rfl
@[simp] theorem State.withDue_drc : (s.withDue x).drc = s.drc := rfl
@[simp] theorem State.withDue_ssc : (s.withDue x).ssc = s.ssc := rfl
@[simp] theorem State.withDue_due : (s.withDue x).due = x := rfl
@[simp] theorem State.withDue_freeCount : (s.withDue x).freeCount = s.freeCount := rfl
@[simp] theorem State.withDue_pending : (s.withDue x).pending = s.pending := rfl

end withDue

section withFree
variable (s : State) (x : Nat)

@[simp] theorem State.withFree_localTime : (s.withFree x).localTime = s.localTime := rfl
@[simp] theorem State.withFree_pins : (s.withFree x).pins = s.pins := rfl
@[simp] theorem State.withFree_settings : (s.withFree x).settings = s.settings := rfl
@[simp] theorem State.withFree_siu : (s.withFree x).siu = s.siu := rfl
@[simp] theorem State.withFree_cme : (s.withFree x).cme = s.cme := rfl
@[simp] theorem State.withFree_pes : (s.withFree x).pes = s.pes := rfl
@[simp] theorem State.withFree_bkc : (s.withFree x).bkc = s.bkc := rfl
@[simp] theorem State.withFree_cds : (s.withFree x).cds = s.cds := rfl
@[simp] theorem State.withFree_sli : (s.withFree x).sli = s.sli := rfl
@[simp] theorem State.withFree_ptb : (s.withFree x).ptb = s.ptb := rfl
@[simp] theorem State.withFree_syn : (s.withFree x).syn = s.syn := rfl
@[simp] theorem State.withFree_lsc : (s.withFree x).lsc = s.lsc := rfl
@[simp] theorem State.withFree_csq : (s.withFree x).csq = s.csq := rfl
@[simp] theorem State.withFree_drc : (s.withFree x).drc = s.drc := rfl
@[simp] theorem State.withFree_ssc : (s.withFree x).ssc = s.ssc := rfl
@[simp] theorem State.withFree_due : (s.withFree x).due = s.due := rfl
@[simp] theorem State.withFree_freeCount : (s.withFree x).freeCount = x := rfl
@[simp] theorem State.withFree_pending : (s.withFree x).pending = s.pending := rfl

end withFree

section withPending
variable (s : State) (x : List Instr)

@[simp] theorem State.withPending_localTime : (s.withPending x).localTime = s.localTime := rfl
@[simp] theorem State.withPending_pins : (s.withPending x).pins = s.pins := rfl
@[simp] theorem State.withPending_settings : (s.withPending x).settings = s.settings := rfl
@[simp] theorem State.withPending_siu : (s.withPending x).siu = s.siu := rfl
@[simp] theorem State.withPending_cme : (s.withPending x).cme = s.cme := rfl
@[simp] theorem State.withPending_pes : (s.withPending x).pes = s.pes := rfl
@[simp] theorem State.withPending_bkc : (s.withPending x).bkc = s.bkc := rfl
@[simp] theorem State.withPending_cds : (s.withPending x).cds = s.cds := rfl
@[simp] theorem State.withPending_sli : (s.withPending x).sli = s.sli := rfl
@[simp] theorem State.withPending_ptb : (s.withPending x).ptb = s.ptb := rfl
@[simp] theorem State.withPending_syn : (s.withPending x).syn = s.syn := rfl
@[simp] theorem State.withPending_lsc : (s.withPending x).lsc = s.lsc := rfl
@[simp] theorem State.withPending_csq : (s.withPending x).csq = s.csq := rfl
@[simp] theorem State.withPending_drc : (s.withPending x).drc = s.drc := rfl
@[simp] theorem State.withPending_ssc : (s.withPending x).ssc = s.ssc := rfl
@[simp] theorem State.withPending_due : (s.withPending x).due = s.due := rfl
@[simp] theorem State.withPending_freeCount : (s.withPending x).freeCount = s.freeCount := rfl
@[simp] theorem State.withPending_pending : (s.withPending x).pending = x := rfl

end withPending

end Sys2Proof.Machine
end

