-- ==== Sys2Proof/Laws/Ops.lean ====
section
/-! SUPPORT. What the shared operations of Machine/Ops.lean can do, once each: the deliveries, the publications after a
command, the ZERO test, the next frame, the timers and the local time; a place for one more transfer origin, the
synchronizer at a trip, a permit and a refusal, and a frame heard on the line. -/

namespace Sys2Proof.Machine

/-! ### The ledger of deliveries -/

section send
variable (s : State) (d : Delivery)

@[simp] theorem State.send_localTime : (s.send d).localTime = s.localTime := rfl
@[simp] theorem State.send_pins : (s.send d).pins = s.pins := rfl
@[simp] theorem State.send_settings : (s.send d).settings = s.settings := rfl
@[simp] theorem State.send_siu : (s.send d).siu = s.siu := rfl
@[simp] theorem State.send_cme : (s.send d).cme = s.cme := rfl
@[simp] theorem State.send_pes : (s.send d).pes = s.pes := rfl
@[simp] theorem State.send_bkc : (s.send d).bkc = s.bkc := rfl
@[simp] theorem State.send_cds : (s.send d).cds = s.cds := rfl
@[simp] theorem State.send_sli : (s.send d).sli = s.sli := rfl
@[simp] theorem State.send_ptb : (s.send d).ptb = s.ptb := rfl
@[simp] theorem State.send_syn : (s.send d).syn = s.syn := rfl
@[simp] theorem State.send_lsc : (s.send d).lsc = s.lsc := rfl
@[simp] theorem State.send_csq : (s.send d).csq = s.csq := rfl
@[simp] theorem State.send_drc : (s.send d).drc = s.drc := rfl
@[simp] theorem State.send_ssc : (s.send d).ssc = s.ssc := rfl
@[simp] theorem State.send_freeCount : (s.send d).freeCount = s.freeCount := rfl
@[simp] theorem State.send_pending : (s.send d).pending = s.pending := rfl
@[simp] theorem State.send_due : (s.send d).due = s.due ++ [d] := rfl

end send

section take
variable (s : State) (d : Delivery)

@[simp] theorem State.take_localTime : (s.take d).localTime = s.localTime := rfl
@[simp] theorem State.take_pins : (s.take d).pins = s.pins := rfl
@[simp] theorem State.take_settings : (s.take d).settings = s.settings := rfl
@[simp] theorem State.take_siu : (s.take d).siu = s.siu := rfl
@[simp] theorem State.take_cme : (s.take d).cme = s.cme := rfl
@[simp] theorem State.take_pes : (s.take d).pes = s.pes := rfl
@[simp] theorem State.take_bkc : (s.take d).bkc = s.bkc := rfl
@[simp] theorem State.take_cds : (s.take d).cds = s.cds := rfl
@[simp] theorem State.take_sli : (s.take d).sli = s.sli := rfl
@[simp] theorem State.take_ptb : (s.take d).ptb = s.ptb := rfl
@[simp] theorem State.take_syn : (s.take d).syn = s.syn := rfl
@[simp] theorem State.take_lsc : (s.take d).lsc = s.lsc := rfl
@[simp] theorem State.take_csq : (s.take d).csq = s.csq := rfl
@[simp] theorem State.take_drc : (s.take d).drc = s.drc := rfl
@[simp] theorem State.take_ssc : (s.take d).ssc = s.ssc := rfl
@[simp] theorem State.take_freeCount : (s.take d).freeCount = s.freeCount := rfl
@[simp] theorem State.take_pending : (s.take d).pending = s.pending := rfl
@[simp] theorem State.take_due : (s.take d).due = s.due.erase d := rfl

end take

section sendAll
variable (s : State) (ds : List Delivery)

@[simp] theorem State.sendAll_localTime : (s.sendAll ds).localTime = s.localTime := rfl
@[simp] theorem State.sendAll_pins : (s.sendAll ds).pins = s.pins := rfl
@[simp] theorem State.sendAll_settings : (s.sendAll ds).settings = s.settings := rfl
@[simp] theorem State.sendAll_siu : (s.sendAll ds).siu = s.siu := rfl
@[simp] theorem State.sendAll_cme : (s.sendAll ds).cme = s.cme := rfl
@[simp] theorem State.sendAll_pes : (s.sendAll ds).pes = s.pes := rfl
@[simp] theorem State.sendAll_bkc : (s.sendAll ds).bkc = s.bkc := rfl
@[simp] theorem State.sendAll_cds : (s.sendAll ds).cds = s.cds := rfl
@[simp] theorem State.sendAll_sli : (s.sendAll ds).sli = s.sli := rfl
@[simp] theorem State.sendAll_ptb : (s.sendAll ds).ptb = s.ptb := rfl
@[simp] theorem State.sendAll_syn : (s.sendAll ds).syn = s.syn := rfl
@[simp] theorem State.sendAll_lsc : (s.sendAll ds).lsc = s.lsc := rfl
@[simp] theorem State.sendAll_csq : (s.sendAll ds).csq = s.csq := rfl
@[simp] theorem State.sendAll_drc : (s.sendAll ds).drc = s.drc := rfl
@[simp] theorem State.sendAll_ssc : (s.sendAll ds).ssc = s.ssc := rfl
@[simp] theorem State.sendAll_freeCount : (s.sendAll ds).freeCount = s.freeCount := rfl
@[simp] theorem State.sendAll_pending : (s.sendAll ds).pending = s.pending := rfl
@[simp] theorem State.sendAll_due : (s.sendAll ds).due = s.due ++ ds := rfl

end sendAll

/-- A notification changes only the ledger, and leaves its delivery waiting once more than never. -/
theorem State.notify_eq (s : State) (d : Delivery) :
    s.notify d = s.withDue (if s.due.contains d then s.due else s.due ++ [d]) := by
  unfold State.notify; split <;> rfl

theorem State.mem_notify_due {s : State} {d e : Delivery} : e ∈ (s.notify d).due ↔ e ∈ s.due ∨ e = d := by
  rw [State.notify_eq]
  by_cases h : d ∈ s.due
  · simp only [List.contains_iff_mem, h, if_true, State.withDue_due]
    exact ⟨Or.inl, fun h' => h'.elim id fun he => he ▸ h⟩
  · simp [h]

/-- Two changes of the ledger alone make one. -/
theorem State.withDue_trans {s t u : State} (h1 : t = s.withDue t.due) (h2 : u = t.withDue u.due) :
    u = s.withDue u.due := by
  rw [h2]
  generalize u.due = d
  rw [h1]
  rfl

/-- Notifications change only the ledger. -/
theorem State.notifyAll_eq (ds : List Delivery) (s : State) : s.notifyAll ds = s.withDue (s.notifyAll ds).due := by
  induction ds generalizing s with
  | nil => rfl
  | cons d ds ih => exact State.withDue_trans (t := s.notify d) (by rw [State.notify_eq]; rfl) (ih (s.notify d))

theorem State.mem_notifyAll_due {ds : List Delivery} {s : State} {e : Delivery} :
    e ∈ (s.notifyAll ds).due ↔ e ∈ s.due ∨ e ∈ ds := by
  induction ds generalizing s with
  | nil => simp [State.notifyAll]
  | cons d ds ih =>
    show e ∈ ((s.notify d).notifyAll ds).due ↔ _
    rw [ih, State.mem_notify_due]
    simp only [List.mem_cons, or_assoc]

section notify
variable (s : State) (d : Delivery)

@[simp] theorem State.notify_localTime : (s.notify d).localTime = s.localTime := by rw [State.notify_eq]; rfl
@[simp] theorem State.notify_pins : (s.notify d).pins = s.pins := by rw [State.notify_eq]; rfl
@[simp] theorem State.notify_settings : (s.notify d).settings = s.settings := by rw [State.notify_eq]; rfl
@[simp] theorem State.notify_siu : (s.notify d).siu = s.siu := by rw [State.notify_eq]; rfl
@[simp] theorem State.notify_cme : (s.notify d).cme = s.cme := by rw [State.notify_eq]; rfl
@[simp] theorem State.notify_pes : (s.notify d).pes = s.pes := by rw [State.notify_eq]; rfl
@[simp] theorem State.notify_bkc : (s.notify d).bkc = s.bkc := by rw [State.notify_eq]; rfl
@[simp] theorem State.notify_cds : (s.notify d).cds = s.cds := by rw [State.notify_eq]; rfl
@[simp] theorem State.notify_sli : (s.notify d).sli = s.sli := by rw [State.notify_eq]; rfl
@[simp] theorem State.notify_ptb : (s.notify d).ptb = s.ptb := by rw [State.notify_eq]; rfl
@[simp] theorem State.notify_syn : (s.notify d).syn = s.syn := by rw [State.notify_eq]; rfl
@[simp] theorem State.notify_lsc : (s.notify d).lsc = s.lsc := by rw [State.notify_eq]; rfl
@[simp] theorem State.notify_csq : (s.notify d).csq = s.csq := by rw [State.notify_eq]; rfl
@[simp] theorem State.notify_drc : (s.notify d).drc = s.drc := by rw [State.notify_eq]; rfl
@[simp] theorem State.notify_ssc : (s.notify d).ssc = s.ssc := by rw [State.notify_eq]; rfl
@[simp] theorem State.notify_freeCount : (s.notify d).freeCount = s.freeCount := by rw [State.notify_eq]; rfl
@[simp] theorem State.notify_pending : (s.notify d).pending = s.pending := by rw [State.notify_eq]; rfl

end notify

section notifyAll
variable (s : State) (ds : List Delivery)

@[simp] theorem State.notifyAll_localTime : (s.notifyAll ds).localTime = s.localTime := by rw [State.notifyAll_eq]; rfl
@[simp] theorem State.notifyAll_pins : (s.notifyAll ds).pins = s.pins := by rw [State.notifyAll_eq]; rfl
@[simp] theorem State.notifyAll_settings : (s.notifyAll ds).settings = s.settings := by rw [State.notifyAll_eq]; rfl
@[simp] theorem State.notifyAll_siu : (s.notifyAll ds).siu = s.siu := by rw [State.notifyAll_eq]; rfl
@[simp] theorem State.notifyAll_cme : (s.notifyAll ds).cme = s.cme := by rw [State.notifyAll_eq]; rfl
@[simp] theorem State.notifyAll_pes : (s.notifyAll ds).pes = s.pes := by rw [State.notifyAll_eq]; rfl
@[simp] theorem State.notifyAll_bkc : (s.notifyAll ds).bkc = s.bkc := by rw [State.notifyAll_eq]; rfl
@[simp] theorem State.notifyAll_cds : (s.notifyAll ds).cds = s.cds := by rw [State.notifyAll_eq]; rfl
@[simp] theorem State.notifyAll_sli : (s.notifyAll ds).sli = s.sli := by rw [State.notifyAll_eq]; rfl
@[simp] theorem State.notifyAll_ptb : (s.notifyAll ds).ptb = s.ptb := by rw [State.notifyAll_eq]; rfl
@[simp] theorem State.notifyAll_syn : (s.notifyAll ds).syn = s.syn := by rw [State.notifyAll_eq]; rfl
@[simp] theorem State.notifyAll_lsc : (s.notifyAll ds).lsc = s.lsc := by rw [State.notifyAll_eq]; rfl
@[simp] theorem State.notifyAll_csq : (s.notifyAll ds).csq = s.csq := by rw [State.notifyAll_eq]; rfl
@[simp] theorem State.notifyAll_drc : (s.notifyAll ds).drc = s.drc := by rw [State.notifyAll_eq]; rfl
@[simp] theorem State.notifyAll_ssc : (s.notifyAll ds).ssc = s.ssc := by rw [State.notifyAll_eq]; rfl
@[simp] theorem State.notifyAll_freeCount : (s.notifyAll ds).freeCount = s.freeCount := by rw [State.notifyAll_eq]; rfl
@[simp] theorem State.notifyAll_pending : (s.notifyAll ds).pending = s.pending := by rw [State.notifyAll_eq]; rfl

end notifyAll

/-! ### The end of a command: the ZERO test (R144) and the next frame (R83) -/

theorem testZero_lsc (s : State) : (testZero s).lsc = if s.zeroHolds then s.lsc.toZero else s.lsc := by
  unfold testZero; split <;> rfl

theorem testZero_eq (s : State) : testZero s = s.withLsc (testZero s).lsc := by
  unfold testZero; split <;> rfl

/-- The ZERO conditions read the settings, the station state, the breaker and the synchronizer alone. -/
theorem zeroHolds_congr {s t : State} (h1 : t.settings = s.settings) (h2 : t.ssc.station = s.ssc.station)
    (h3 : t.bkc.state = s.bkc.state) (h4 : t.syn.state = s.syn.state) : t.zeroHolds = s.zeroHolds := by
  simp only [State.zeroHolds, h1, h2, h3, h4]

/-- Which frame begins rests on the station state and the link alone. -/
theorem nextSlot_congr {s t : State} (h1 : t.ssc.station = s.ssc.station) (h2 : t.sli = s.sli) :
    t.nextSlot = s.nextSlot := by
  simp only [State.nextSlot, h1, h2]

/-- A frame begins only after START, on a free line, with nothing in flight, and with the item of the choice. -/
theorem nextSlot_some {s : State} {slot : Slot} (h : s.nextSlot = some slot) :
    s.ssc.station ≠ .start ∧ s.sli.lineFree = true ∧ s.sli.flight = none ∧ s.sli.choice = some slot := by
  unfold State.nextSlot at h
  split at h
  · rename_i hc
    exact ⟨hc.1, hc.2.1, hc.2.2, h⟩
  · cases h

/-- The link takes the line, or is left. -/
theorem takeLine_sli (s : State) :
    s.takeLine.sli = (match s.nextSlot with
      | some slot => s.sli.begin s.pins.identity slot
      | none => s.sli) := by
  unfold State.takeLine; split <;> simp_all

theorem takeLine_eq (s : State) : s.takeLine = s.withSli s.takeLine.sli := by
  unfold State.takeLine; split <;> rfl

theorem takeLine_of_none {s : State} (h : s.nextSlot = none) : s.takeLine = s := by
  simp [State.takeLine, h]

section testZero
variable (s : State)

@[simp] theorem testZero_localTime : (testZero s).localTime = s.localTime := by rw [testZero_eq]; rfl
@[simp] theorem testZero_pins : (testZero s).pins = s.pins := by rw [testZero_eq]; rfl
@[simp] theorem testZero_settings : (testZero s).settings = s.settings := by rw [testZero_eq]; rfl
@[simp] theorem testZero_siu : (testZero s).siu = s.siu := by rw [testZero_eq]; rfl
@[simp] theorem testZero_cme : (testZero s).cme = s.cme := by rw [testZero_eq]; rfl
@[simp] theorem testZero_pes : (testZero s).pes = s.pes := by rw [testZero_eq]; rfl
@[simp] theorem testZero_bkc : (testZero s).bkc = s.bkc := by rw [testZero_eq]; rfl
@[simp] theorem testZero_cds : (testZero s).cds = s.cds := by rw [testZero_eq]; rfl
@[simp] theorem testZero_sli : (testZero s).sli = s.sli := by rw [testZero_eq]; rfl
@[simp] theorem testZero_ptb : (testZero s).ptb = s.ptb := by rw [testZero_eq]; rfl
@[simp] theorem testZero_syn : (testZero s).syn = s.syn := by rw [testZero_eq]; rfl
@[simp] theorem testZero_csq : (testZero s).csq = s.csq := by rw [testZero_eq]; rfl
@[simp] theorem testZero_drc : (testZero s).drc = s.drc := by rw [testZero_eq]; rfl
@[simp] theorem testZero_ssc : (testZero s).ssc = s.ssc := by rw [testZero_eq]; rfl
@[simp] theorem testZero_due : (testZero s).due = s.due := by rw [testZero_eq]; rfl
@[simp] theorem testZero_freeCount : (testZero s).freeCount = s.freeCount := by rw [testZero_eq]; rfl
@[simp] theorem testZero_pending : (testZero s).pending = s.pending := by rw [testZero_eq]; rfl

@[simp] theorem testZero_zeroHolds : (testZero s).zeroHolds = s.zeroHolds :=
  zeroHolds_congr (by simp) (by simp) (by simp) (by simp)

@[simp] theorem testZero_nextSlot : (testZero s).nextSlot = s.nextSlot := nextSlot_congr (by simp) (by simp)

end testZero

section takeLine
variable (s : State)

@[simp] theorem takeLine_localTime : (s.takeLine).localTime = s.localTime := by rw [takeLine_eq]; rfl
@[simp] theorem takeLine_pins : (s.takeLine).pins = s.pins := by rw [takeLine_eq]; rfl
@[simp] theorem takeLine_settings : (s.takeLine).settings = s.settings := by rw [takeLine_eq]; rfl
@[simp] theorem takeLine_siu : (s.takeLine).siu = s.siu := by rw [takeLine_eq]; rfl
@[simp] theorem takeLine_cme : (s.takeLine).cme = s.cme := by rw [takeLine_eq]; rfl
@[simp] theorem takeLine_pes : (s.takeLine).pes = s.pes := by rw [takeLine_eq]; rfl
@[simp] theorem takeLine_bkc : (s.takeLine).bkc = s.bkc := by rw [takeLine_eq]; rfl
@[simp] theorem takeLine_cds : (s.takeLine).cds = s.cds := by rw [takeLine_eq]; rfl
@[simp] theorem takeLine_ptb : (s.takeLine).ptb = s.ptb := by rw [takeLine_eq]; rfl
@[simp] theorem takeLine_syn : (s.takeLine).syn = s.syn := by rw [takeLine_eq]; rfl
@[simp] theorem takeLine_lsc : (s.takeLine).lsc = s.lsc := by rw [takeLine_eq]; rfl
@[simp] theorem takeLine_csq : (s.takeLine).csq = s.csq := by rw [takeLine_eq]; rfl
@[simp] theorem takeLine_drc : (s.takeLine).drc = s.drc := by rw [takeLine_eq]; rfl
@[simp] theorem takeLine_ssc : (s.takeLine).ssc = s.ssc := by rw [takeLine_eq]; rfl
@[simp] theorem takeLine_due : (s.takeLine).due = s.due := by rw [takeLine_eq]; rfl
@[simp] theorem takeLine_freeCount : (s.takeLine).freeCount = s.freeCount := by rw [takeLine_eq]; rfl
@[simp] theorem takeLine_pending : (s.takeLine).pending = s.pending := by rw [takeLine_eq]; rfl

@[simp] theorem takeLine_zeroHolds : s.takeLine.zeroHolds = s.zeroHolds :=
  zeroHolds_congr (by simp) (by simp) (by simp) (by simp)

/-- Once the line is taken, or nothing waits, no frame begins. -/
@[simp] theorem takeLine_nextSlot : s.takeLine.nextSlot = none := by
  cases h : s.nextSlot with
  | none => rw [takeLine_of_none h, h]
  | some slot =>
    simp only [State.takeLine, h]
    simp [State.nextSlot, Sli.begin]

end takeLine

theorem settle_lsc (s : State) : (settle s).lsc = if s.zeroHolds then s.lsc.toZero else s.lsc := by
  simp [settle, testZero_lsc]

theorem settle_sli (s : State) :
    (settle s).sli = (match s.nextSlot with
      | some slot => s.sli.begin s.pins.identity slot
      | none => s.sli) := by
  simp [settle, takeLine_sli]

theorem settle_eq (s : State) : settle s = (s.withLsc (settle s).lsc).withSli (settle s).sli := by
  unfold settle
  rw [takeLine_eq, testZero_eq]
  rfl

section settle
variable (s : State)

@[simp] theorem settle_localTime : (settle s).localTime = s.localTime := by rw [settle_eq]; rfl
@[simp] theorem settle_pins : (settle s).pins = s.pins := by rw [settle_eq]; rfl
@[simp] theorem settle_settings : (settle s).settings = s.settings := by rw [settle_eq]; rfl
@[simp] theorem settle_siu : (settle s).siu = s.siu := by rw [settle_eq]; rfl
@[simp] theorem settle_cme : (settle s).cme = s.cme := by rw [settle_eq]; rfl
@[simp] theorem settle_pes : (settle s).pes = s.pes := by rw [settle_eq]; rfl
@[simp] theorem settle_bkc : (settle s).bkc = s.bkc := by rw [settle_eq]; rfl
@[simp] theorem settle_cds : (settle s).cds = s.cds := by rw [settle_eq]; rfl
@[simp] theorem settle_ptb : (settle s).ptb = s.ptb := by rw [settle_eq]; rfl
@[simp] theorem settle_syn : (settle s).syn = s.syn := by rw [settle_eq]; rfl
@[simp] theorem settle_csq : (settle s).csq = s.csq := by rw [settle_eq]; rfl
@[simp] theorem settle_drc : (settle s).drc = s.drc := by rw [settle_eq]; rfl
@[simp] theorem settle_ssc : (settle s).ssc = s.ssc := by rw [settle_eq]; rfl
@[simp] theorem settle_due : (settle s).due = s.due := by rw [settle_eq]; rfl
@[simp] theorem settle_freeCount : (settle s).freeCount = s.freeCount := by rw [settle_eq]; rfl
@[simp] theorem settle_pending : (settle s).pending = s.pending := by rw [settle_eq]; rfl

@[simp] theorem settle_zeroHolds : (settle s).zeroHolds = s.zeroHolds :=
  zeroHolds_congr (by simp) (by simp) (by simp) (by simp)

@[simp] theorem settle_nextSlot : (settle s).nextSlot = none := takeLine_nextSlot _

end settle

@[simp] theorem Lsc.toZero_toZero (l : Lsc) : l.toZero.toZero = l.toZero := rfl

/-! ### Publications -/

theorem publishBreaker_eq (old s : State) : publishBreaker old s = s.withDue (publishBreaker old s).due := by
  unfold publishBreaker; split
  · rfl
  · rw [State.notifyAll_eq]; rfl

theorem publishStation_eq (old s : State) : publishStation old s = s.withDue (publishStation old s).due := by
  unfold publishStation; split
  · rfl
  · rw [State.notify_eq]; rfl

theorem publishSequence_eq (old s : State) : publishSequence old s = s.withDue (publishSequence old s).due := by
  unfold publishSequence; split
  · rfl
  · rw [State.notify_eq]; rfl

theorem publishSyn_eq (old s : State) : publishSyn old s = s.withDue (publishSyn old s).due := by
  unfold publishSyn; split
  · rfl
  · rw [State.notifyAll_eq]; rfl

theorem publishLsc_eq (old s : State) : publishLsc old s = s.withDue (publishLsc old s).due := by
  unfold publishLsc; split
  · rfl
  · rw [State.notify_eq]; rfl

/-- The publications after a command change only the ledger. -/
theorem publish_eq (old s : State) : publish old s = s.withDue (publish old s).due := by
  exact State.withDue_trans (State.withDue_trans (State.withDue_trans (State.withDue_trans
    (publishBreaker_eq old s) (publishStation_eq old _)) (publishSequence_eq old _)) (publishSyn_eq old _))
    (publishLsc_eq old _)

section publish
variable (old s : State)

@[simp] theorem publish_localTime : (publish old s).localTime = s.localTime := by rw [publish_eq]; rfl
@[simp] theorem publish_pins : (publish old s).pins = s.pins := by rw [publish_eq]; rfl
@[simp] theorem publish_settings : (publish old s).settings = s.settings := by rw [publish_eq]; rfl
@[simp] theorem publish_siu : (publish old s).siu = s.siu := by rw [publish_eq]; rfl
@[simp] theorem publish_cme : (publish old s).cme = s.cme := by rw [publish_eq]; rfl
@[simp] theorem publish_pes : (publish old s).pes = s.pes := by rw [publish_eq]; rfl
@[simp] theorem publish_bkc : (publish old s).bkc = s.bkc := by rw [publish_eq]; rfl
@[simp] theorem publish_cds : (publish old s).cds = s.cds := by rw [publish_eq]; rfl
@[simp] theorem publish_sli : (publish old s).sli = s.sli := by rw [publish_eq]; rfl
@[simp] theorem publish_ptb : (publish old s).ptb = s.ptb := by rw [publish_eq]; rfl
@[simp] theorem publish_syn : (publish old s).syn = s.syn := by rw [publish_eq]; rfl
@[simp] theorem publish_lsc : (publish old s).lsc = s.lsc := by rw [publish_eq]; rfl
@[simp] theorem publish_csq : (publish old s).csq = s.csq := by rw [publish_eq]; rfl
@[simp] theorem publish_drc : (publish old s).drc = s.drc := by rw [publish_eq]; rfl
@[simp] theorem publish_ssc : (publish old s).ssc = s.ssc := by rw [publish_eq]; rfl
@[simp] theorem publish_freeCount : (publish old s).freeCount = s.freeCount := by rw [publish_eq]; rfl
@[simp] theorem publish_pending : (publish old s).pending = s.pending := by rw [publish_eq]; rfl

@[simp] theorem publish_zeroHolds : (publish old s).zeroHolds = s.zeroHolds :=
  zeroHolds_congr (by simp) (by simp) (by simp) (by simp)

@[simp] theorem publish_nextSlot : (publish old s).nextSlot = s.nextSlot := nextSlot_congr (by simp) (by simp)

end publish

/-! ### The outcome of a command -/

/-- The end of every command: a next state, which differs from the effect in the ledger, under a ZERO condition in the
load share controller, and in the link when an item waits while the line is free. -/
theorem done_next (old s : State) :
    ∃ t, done old s = .next t ∧ t = ((s.withLsc (settle s).lsc).withSli (settle s).sli).withDue t.due := by
  refine ⟨_, rfl, ?_⟩
  rw [publish_eq, settle_eq]
  rfl

/-! ### Timers and the local time -/

@[simp] theorem expire_none (s : State) (act : State → State) : expire none s act = s := rfl

@[simp] theorem expire_some (due : Time) (s : State) (act : State → State) :
    expire (some due) s act = act (s.reach due) := rfl

/-- Reaching an expiry changes only the local time. -/
theorem State.reach_eq (s : State) (due : Time) : s.reach due = s.withTime (s.reach due).localTime := by
  unfold State.reach; split <;> rfl

section reach
variable (s : State) (due : Time)

@[simp] theorem State.reach_pins : (s.reach due).pins = s.pins := by rw [State.reach_eq]; rfl
@[simp] theorem State.reach_settings : (s.reach due).settings = s.settings := by rw [State.reach_eq]; rfl
@[simp] theorem State.reach_siu : (s.reach due).siu = s.siu := by rw [State.reach_eq]; rfl
@[simp] theorem State.reach_cme : (s.reach due).cme = s.cme := by rw [State.reach_eq]; rfl
@[simp] theorem State.reach_pes : (s.reach due).pes = s.pes := by rw [State.reach_eq]; rfl
@[simp] theorem State.reach_bkc : (s.reach due).bkc = s.bkc := by rw [State.reach_eq]; rfl
@[simp] theorem State.reach_cds : (s.reach due).cds = s.cds := by rw [State.reach_eq]; rfl
@[simp] theorem State.reach_sli : (s.reach due).sli = s.sli := by rw [State.reach_eq]; rfl
@[simp] theorem State.reach_ptb : (s.reach due).ptb = s.ptb := by rw [State.reach_eq]; rfl
@[simp] theorem State.reach_syn : (s.reach due).syn = s.syn := by rw [State.reach_eq]; rfl
@[simp] theorem State.reach_lsc : (s.reach due).lsc = s.lsc := by rw [State.reach_eq]; rfl
@[simp] theorem State.reach_csq : (s.reach due).csq = s.csq := by rw [State.reach_eq]; rfl
@[simp] theorem State.reach_drc : (s.reach due).drc = s.drc := by rw [State.reach_eq]; rfl
@[simp] theorem State.reach_ssc : (s.reach due).ssc = s.ssc := by rw [State.reach_eq]; rfl
@[simp] theorem State.reach_due : (s.reach due).due = s.due := by rw [State.reach_eq]; rfl
@[simp] theorem State.reach_freeCount : (s.reach due).freeCount = s.freeCount := by rw [State.reach_eq]; rfl
@[simp] theorem State.reach_pending : (s.reach due).pending = s.pending := by rw [State.reach_eq]; rfl

end reach

@[simp] theorem State.inForce_none {s : State} {act : Settings → State → State} (h : s.settings = none) :
    s.inForce act = s := by
  simp [State.inForce, h]

@[simp] theorem State.inForce_some {s : State} {st : Settings} {act : Settings → State → State}
    (h : s.settings = some st) : s.inForce act = act st s := by
  simp [State.inForce, h]

/-! ### The transfer set -/

/-- A place for one more origin: the set stays as it is or loses origins, and holds at most 29 (R34). -/
theorem roomForOrigin_le (own : StationNo) (xs : List Origin) :
    (roomForOrigin own xs).Sublist xs ∧ (roomForOrigin own xs).length ≤ 29 := by
  unfold roomForOrigin
  split
  · exact ⟨List.Sublist.refl xs, by omega⟩
  · exact ⟨(List.take_sublist _ _).trans List.filter_sublist, List.length_take_le _ _⟩

/-! ### A trip and the synchronizer (R124, R138) -/

/-- What a trip does to the synchronizer: during CLOSING of a close that a held request waits for, the request stands and
the SYN notes the trip; any other trip ends a held request as CANCELLED. -/
theorem synTrip_cases (closing : Bool) (s : State) :
    (closing = true ∧ s.syn.closeAwaited = true ∧ s.syn.request.isSome = true ∧
      synTrip closing s = s.withSyn s.syn.tripped) ∨
    ((closing = false ∨ s.syn.closeAwaited = false ∨ s.syn.request = none) ∧ synTrip closing s = synCancel s) := by
  cases closing <;> cases hc : s.syn.closeAwaited <;> cases hr : s.syn.request <;> simp [synTrip, hc, hr]

/-! ### The permit count and the refusal wait (R128) -/

section syncRefused
variable (y : Syn) (due : Timer)

@[simp] theorem Syn.syncRefused_permitCount : (y.syncRefused due).permitCount = 0 := rfl
@[simp] theorem Syn.syncRefused_refusalTimer : (y.syncRefused due).refusalTimer = due := rfl
@[simp] theorem Syn.syncRefused_state : (y.syncRefused due).state = y.state := rfl
@[simp] theorem Syn.syncRefused_request : (y.syncRefused due).request = y.request := rfl
@[simp] theorem Syn.syncRefused_claim : (y.syncRefused due).claim = y.claim := rfl

end syncRefused

/-- What the refusal of a SYNC claim does: a held request gets the refusal wait with the count at 0, and without one
nothing happens. -/
theorem syncRefused_cases (s : State) :
    (s.syn.request.isSome = true ∧ syncRefused s = s.withSyn (s.syn.syncRefused (s.after 1000))) ∨
    (s.syn.request = none ∧ syncRefused s = s) := by
  cases h : s.syn.request <;> simp [syncRefused, h]

/-- What an evaluation does: none is made with a close in flight or taken; without a permit, and in the refusal wait, the
count is 0; the second permit makes the SYNC claim; any other permit is counted. -/
theorem evaluatePermit_cases (st : Settings) (r : Record) (s : State) :
    ((s.syn.closeInFlight = true ∨ s.syn.closeTaken = true) ∧ evaluatePermit st r s = s) ∨
    ((permit st r = false ∨ s.syn.refusalTimer.isSome = true) ∧
      evaluatePermit st r s = s.withSyn { s.syn with permitCount := 0 }) ∨
    (permit st r = true ∧ s.syn.refusalTimer = none ∧ s.syn.permitCount = 1 ∧
      evaluatePermit st r s = (s.withSyn { s.syn with permitCount := 0 }).send (.closeClaim .sync)) ∨
    (permit st r = true ∧ s.syn.refusalTimer = none ∧ s.syn.permitCount ≠ 1 ∧
      evaluatePermit st r s = s.withSyn { s.syn with permitCount := s.syn.permitCount + 1 }) := by
  cases hf : s.syn.closeInFlight <;> cases ht : s.syn.closeTaken <;> cases hp : permit st r <;>
    cases hr : s.syn.refusalTimer <;> by_cases hc : s.syn.permitCount = 1 <;>
    simp [evaluatePermit, hf, ht, hp, hr, hc]

/-- An evaluation keeps the count at 0 in the refusal wait, and leaves the wait as it runs. -/
theorem evaluatePermit_keeps_refusal (st : Settings) (r : Record) (s : State)
    (h : s.syn.refusalTimer.isSome = true → s.syn.permitCount = 0) :
    (evaluatePermit st r s).syn.refusalTimer = s.syn.refusalTimer ∧
      (s.syn.refusalTimer.isSome = true → (evaluatePermit st r s).syn.permitCount = 0) := by
  obtain ⟨-, e⟩ | ⟨-, e⟩ | ⟨-, hr, -, e⟩ | ⟨-, hr, -, e⟩ := evaluatePermit_cases st r s <;> rw [e]
  · exact ⟨rfl, h⟩
  · exact ⟨rfl, fun _ => rfl⟩
  · exact ⟨rfl, fun _ => rfl⟩
  · exact ⟨rfl, fun k => by simp [hr] at k⟩

/-! ### A frame heard -/

section hear
variable (l : Sli)

@[simp] theorem Sli.hear_flight : l.hear.flight = none := rfl
@[simp] theorem Sli.hear_lineFree : l.hear.lineFree = false := rfl
@[simp] theorem Sli.hear_watching : l.hear.watching = l.watching := rfl
@[simp] theorem Sli.hear_ownNumber : l.hear.ownNumber = l.ownNumber := rfl
@[simp] theorem Sli.hear_bfSlot : l.hear.bfSlot = l.bfSlot := rfl
@[simp] theorem Sli.hear_noticeSlot : l.hear.noticeSlot = l.noticeSlot := rfl
@[simp] theorem Sli.hear_claimSlot : l.hear.claimSlot = l.claimHeardOver := rfl
@[simp] theorem Sli.hear_reportSlot : l.hear.reportSlot = l.reportHeardOver := rfl
@[simp] theorem Sli.hear_events : l.hear.events = l.events := rfl
@[simp] theorem Sli.hear_data : l.hear.data = l.data := rfl
@[simp] theorem Sli.hear_presenceSlot : l.hear.presenceSlot = l.presenceSlot := rfl
@[simp] theorem Sli.hear_eventsLost : l.hear.eventsLost = l.eventsLost := rfl
@[simp] theorem Sli.hear_conflict : l.hear.conflict = l.conflict := rfl
@[simp] theorem Sli.hear_echo : l.hear.echo = l.echo := rfl

end hear

/-- Hearing a frame ends what was in flight and changes nothing else but the claim slot, the report slot and the count of
report overruns. -/
theorem Sli.hear_eq (l : Sli) :
    l.hear = { l with
      lineFree := false, flight := none, claimSlot := l.claimHeardOver, reportSlot := l.reportHeardOver
      counters := { l.counters with overruns := l.hear.counters.overruns } } :=
  rfl

/-- The frame in flight is of a slot that was given another item or emptied since. -/
theorem Sli.replacedIn_iff (l : Sli) (slot : Slot) :
    l.replacedIn slot = true ↔ ∃ f, l.flight = some f ∧ f.slot = slot ∧ f.replaced = true := by
  cases h : l.flight <;> simp [Sli.replacedIn, h]

/-- The claim slot that hearing a frame leaves: empty where a CLAIM_WITHDRAW was placed over the CLAIM in flight, and as it
was otherwise (R135). -/
theorem Sli.claimHeardOver_eq (l : Sli) :
    l.claimHeardOver =
      if l.claimSlot = some .withdraw ∧ ∃ f, l.flight = some f ∧ f.slot = .claim ∧ f.replaced = true then none
      else l.claimSlot := by
  unfold Sli.claimHeardOver
  simp only [Bool.and_eq_true, beq_iff_eq, l.replacedIn_iff]
  exact if_congr and_comm rfl rfl

/-- Hearing a frame gives the claim slot no item. -/
theorem Sli.claimHeardOver_of_none {l : Sli} (h : l.claimSlot = none) : l.claimHeardOver = none := by
  simp [Sli.claimHeardOver, h]

/-- Hearing a frame gives the report slot no item and takes none from it. -/
@[simp] theorem Sli.reportHeardOver_isSome (l : Sli) : l.reportHeardOver.isSome = l.reportSlot.isSome := by
  unfold Sli.reportHeardOver
  split <;> simp

/-- Hearing a frame leaves an empty report slot empty. -/
theorem Sli.reportHeardOver_of_none {l : Sli} (h : l.reportSlot = none) : l.reportHeardOver = none := by
  simp [Sli.reportHeardOver, h]

/-- The overrun count after one more overrun, if there was one. -/
theorem Counters.overrun_eq (k : Counters) (counts : Bool) :
    k.overrun counts = { k with
      overruns := if counts = true ∧ k.overruns ≠ 65535 then k.overruns + 1 else k.overruns } := by
  cases counts <;> by_cases h : k.overruns = 65535 <;> simp [Counters.overrun, stopAt65535, h]

/-- The report slot that hearing a frame leaves: where a report had replaced the one in flight, a count below the one that
stands rises by one (R100). -/
theorem Sli.reportHeardOver_eq (l : Sli) :
    l.reportHeardOver =
      if ∃ f, l.flight = some f ∧ f.slot = .report ∧ f.replaced = true then
        l.reportSlot.map fun r => { r with body := r.body.map fun b => { b with counters := { b.counters with
          overruns :=
            if b.counters.overruns = l.counters.overruns ∨ b.counters.overruns = 65535 then b.counters.overruns
            else b.counters.overruns + 1 } } }
      else l.reportSlot := by
  have recounted : ∀ b : ReportBody, b.recount l.counters.overruns = { b with counters := { b.counters with
      overruns :=
        if b.counters.overruns = l.counters.overruns ∨ b.counters.overruns = 65535 then b.counters.overruns
        else b.counters.overruns + 1 } } := fun b => by
    rw [ReportBody.recount, Counters.overrun_eq]
    by_cases h : b.counters.overruns = l.counters.overruns <;> by_cases k : b.counters.overruns = 65535 <;>
      simp [h, k]
  simp only [Sli.reportHeardOver, l.replacedIn_iff, recounted]

/-- Hearing a frame is what the statements say it is. -/
theorem Sli.hear_eq_afterHearing (l : Sli) : l.hear = afterHearing l := by
  have counted : (l.counters.overrun (l.replacedIn .report)).overruns =
      if ∃ f, l.flight = some f ∧ f.slot = .report ∧ f.replaced = true ∧ l.counters.overruns ≠ 65535 then
        l.counters.overruns + 1
      else l.counters.overruns := by
    rw [Counters.overrun_eq]
    refine if_congr ?_ rfl rfl
    rw [l.replacedIn_iff]
    exact ⟨fun ⟨⟨f, hf, hs, hr⟩, k⟩ => ⟨f, hf, hs, hr, k⟩, fun ⟨f, hf, hs, hr, k⟩ => ⟨⟨f, hf, hs, hr⟩, k⟩⟩
  rw [afterHearing, ← counted, ← l.claimHeardOver_eq, ← l.reportHeardOver_eq]
  rfl

/-- With no report and no claim replaced in flight, hearing a frame only ends what was in flight. -/
theorem Sli.hear_of_not_replaced {l : Sli} (hr : l.replacedIn .report = false) (hc : l.replacedIn .claim = false) :
    l.hear = { l with lineFree := false, flight := none } := by
  simp [Sli.hear, Sli.claimHeardOver, Sli.reportHeardOver, Sli.land, Counters.overrun, hr, hc]

/-- Before the line was first free after START the station takes no part of a frame (R83). -/
theorem State.hearing_of_not_watching {s : State} {act : State → State} (h : s.sli.watching = false) :
    s.hearing act = s := by
  simp [State.hearing, State.onLine, h]

/-- On a line that it watches the station hears the frame and acts on it. -/
theorem State.hearing_of_watching {s : State} {act : State → State} (hs : s.ssc.station ≠ .start)
    (hw : s.sli.watching = true) : s.hearing act = act s.heard := by
  simp [State.hearing, State.onLine, hs, hw]

end Sys2Proof.Machine
end

