-- ==== Sys2Proof/Laws/Frames.lean ====
section
/-! SUPPORT. What each shared operation of the blocks may write to: one lemma for one operation, made to be chained. A
command's frame is proved by applying them from the outermost operation inwards. -/

namespace Sys2Proof.Machine

/-- The fields of the state. -/
inductive Fld where
  | localTime | pins | settings | siu | cme | pes | bkc | cds | sli | ptb | syn | lsc | csq | drc | ssc | due | freeCount | pending
deriving DecidableEq, Repr

/-- Two states agree on a field. -/
def Fld.same (s t : State) : Fld → Prop
  | .localTime => t.localTime = s.localTime
  | .pins => t.pins = s.pins
  | .settings => t.settings = s.settings
  | .siu => t.siu = s.siu
  | .cme => t.cme = s.cme
  | .pes => t.pes = s.pes
  | .bkc => t.bkc = s.bkc
  | .cds => t.cds = s.cds
  | .sli => t.sli = s.sli
  | .ptb => t.ptb = s.ptb
  | .syn => t.syn = s.syn
  | .lsc => t.lsc = s.lsc
  | .csq => t.csq = s.csq
  | .drc => t.drc = s.drc
  | .ssc => t.ssc = s.ssc
  | .due => t.due = s.due
  | .freeCount => t.freeCount = s.freeCount
  | .pending => t.pending = s.pending

/-- Nothing but the listed fields differs. -/
structure Only (fs : List Fld) (s t : State) : Prop where
  same : ∀ f, f ∈ fs ∨ f.same s t

variable {fs : List Fld} {s t : State}

theorem Only.refl : Only fs s s := ⟨fun f => .inr (by cases f <;> rfl)⟩

theorem Only.get (k : Only fs s t) (f : Fld) (h : f ∉ fs) : f.same s t := (k.same f).resolve_left h

theorem Only.withSettings (h : Fld.settings ∈ fs) (k : Only fs s t) (x) : Only fs s (t.withSettings x) :=
  ⟨fun f => by cases f <;> first | exact .inl h | exact k.same _⟩

theorem Only.withPins (h : Fld.pins ∈ fs) (k : Only fs s t) (x) : Only fs s (t.withPins x) :=
  ⟨fun f => by cases f <;> first | exact .inl h | exact k.same _⟩

theorem Only.withSiu (h : Fld.siu ∈ fs) (k : Only fs s t) (x) : Only fs s (t.withSiu x) :=
  ⟨fun f => by cases f <;> first | exact .inl h | exact k.same _⟩

theorem Only.withCme (h : Fld.cme ∈ fs) (k : Only fs s t) (x) : Only fs s (t.withCme x) :=
  ⟨fun f => by cases f <;> first | exact .inl h | exact k.same _⟩

theorem Only.withPes (h : Fld.pes ∈ fs) (k : Only fs s t) (x) : Only fs s (t.withPes x) :=
  ⟨fun f => by cases f <;> first | exact .inl h | exact k.same _⟩

theorem Only.withBkc (h : Fld.bkc ∈ fs) (k : Only fs s t) (x) : Only fs s (t.withBkc x) :=
  ⟨fun f => by cases f <;> first | exact .inl h | exact k.same _⟩

theorem Only.withCds (h : Fld.cds ∈ fs) (k : Only fs s t) (x) : Only fs s (t.withCds x) :=
  ⟨fun f => by cases f <;> first | exact .inl h | exact k.same _⟩

theorem Only.withSli (h : Fld.sli ∈ fs) (k : Only fs s t) (x) : Only fs s (t.withSli x) :=
  ⟨fun f => by cases f <;> first | exact .inl h | exact k.same _⟩

theorem Only.withPtb (h : Fld.ptb ∈ fs) (k : Only fs s t) (x) : Only fs s (t.withPtb x) :=
  ⟨fun f => by cases f <;> first | exact .inl h | exact k.same _⟩

theorem Only.withSyn (h : Fld.syn ∈ fs) (k : Only fs s t) (x) : Only fs s (t.withSyn x) :=
  ⟨fun f => by cases f <;> first | exact .inl h | exact k.same _⟩

theorem Only.withLsc (h : Fld.lsc ∈ fs) (k : Only fs s t) (x) : Only fs s (t.withLsc x) :=
  ⟨fun f => by cases f <;> first | exact .inl h | exact k.same _⟩

theorem Only.withCsq (h : Fld.csq ∈ fs) (k : Only fs s t) (x) : Only fs s (t.withCsq x) :=
  ⟨fun f => by cases f <;> first | exact .inl h | exact k.same _⟩

theorem Only.withDrc (h : Fld.drc ∈ fs) (k : Only fs s t) (x) : Only fs s (t.withDrc x) :=
  ⟨fun f => by cases f <;> first | exact .inl h | exact k.same _⟩

theorem Only.withSsc (h : Fld.ssc ∈ fs) (k : Only fs s t) (x) : Only fs s (t.withSsc x) :=
  ⟨fun f => by cases f <;> first | exact .inl h | exact k.same _⟩

theorem Only.withTime (h : Fld.localTime ∈ fs) (k : Only fs s t) (x) : Only fs s (t.withTime x) :=
  ⟨fun f => by cases f <;> first | exact .inl h | exact k.same _⟩

theorem Only.withDue (h : Fld.due ∈ fs) (k : Only fs s t) (x) : Only fs s (t.withDue x) :=
  ⟨fun f => by cases f <;> first | exact .inl h | exact k.same _⟩

theorem Only.withFree (h : Fld.freeCount ∈ fs) (k : Only fs s t) (x) : Only fs s (t.withFree x) :=
  ⟨fun f => by cases f <;> first | exact .inl h | exact k.same _⟩

theorem Only.withPending (h : Fld.pending ∈ fs) (k : Only fs s t) (x) : Only fs s (t.withPending x) :=
  ⟨fun f => by cases f <;> first | exact .inl h | exact k.same _⟩

theorem Only.reach (due : Time) (h_localTime : Fld.localTime ∈ fs) (k : Only fs s t) :
    Only fs s (Machine.State.reach t due) := by
  unfold Machine.State.reach
  repeat' first
    | assumption
    | with_reducible first
      | apply Only.withTime
    | split

theorem Only.expire (tm : Timer) (act : State → State) (h : Fld.localTime ∈ fs)
    (ha : ∀ u, Only fs s u → Only fs s (act u)) (k : Only fs s t) : Only fs s (Machine.expire tm t act) := by
  cases tm with
  | none => exact k
  | some due => exact ha _ (Only.reach due h k)

theorem Only.inForce (act : Settings → State → State) (ha : ∀ x1 u, Only fs s u → Only fs s (act x1 u)) (k : Only fs s
    t) :
    Only fs s (Machine.State.inForce t act) := by
  unfold Machine.State.inForce
  repeat' first
    | assumption
    | with_reducible first
      | apply ha
    | split

theorem Only.send (d : Delivery) (h_due : Fld.due ∈ fs) (k : Only fs s t) :
    Only fs s (Machine.State.send t d) := by
  unfold Machine.State.send
  repeat' first
    | assumption
    | with_reducible first
      | apply Only.withDue

theorem Only.notify (d : Delivery) (h_due : Fld.due ∈ fs) (k : Only fs s t) :
    Only fs s (Machine.State.notify t d) := by
  unfold Machine.State.notify
  repeat' first
    | assumption
    | with_reducible first
      | apply Only.send
    | split

theorem Only.notifyAll (ds : List Delivery) (h : Fld.due ∈ fs) (k : Only fs s t) : Only fs s (t.notifyAll ds) := by
  rw [State.notifyAll_eq]
  exact Only.withDue h k _

theorem Only.publish (old : State) (h : Fld.due ∈ fs) (k : Only fs s t) : Only fs s (publish old t) := by
  rw [publish_eq]
  exact Only.withDue h k _

theorem Only.take (d : Delivery) (h_due : Fld.due ∈ fs) (k : Only fs s t) :
    Only fs s (Machine.State.take t d) := by
  unfold Machine.State.take
  repeat' first
    | assumption
    | with_reducible first
      | apply Only.withDue

theorem Only.sendAll (ds : List Delivery) (h_due : Fld.due ∈ fs) (k : Only fs s t) :
    Only fs s (Machine.State.sendAll t ds) := by
  unfold Machine.State.sendAll
  repeat' first
    | assumption
    | with_reducible first
      | apply Only.withDue

theorem Only.testZero (h_lsc : Fld.lsc ∈ fs) (k : Only fs s t) :
    Only fs s (Machine.testZero t) := by
  unfold Machine.testZero
  repeat' first
    | assumption
    | with_reducible first
      | apply Only.withLsc
    | split

theorem Only.publishView (h_due : Fld.due ∈ fs) (k : Only fs s t) :
    Only fs s (Machine.State.publishView t) := by
  unfold Machine.State.publishView
  repeat' first
    | assumption
    | with_reducible first
      | apply Only.notifyAll

theorem Only.takeLine (h_sli : Fld.sli ∈ fs) (k : Only fs s t) :
    Only fs s (Machine.State.takeLine t) := by
  unfold Machine.State.takeLine
  repeat' first
    | assumption
    | with_reducible first
      | apply Only.withSli
    | split

theorem Only.settle (h_lsc : Fld.lsc ∈ fs) (h_sli : Fld.sli ∈ fs) (k : Only fs s t) :
    Only fs s (Machine.settle t) := by
  unfold Machine.settle
  repeat' first
    | assumption
    | with_reducible first
      | apply Only.testZero | apply Only.takeLine

theorem Only.abortRun (h_cds : Fld.cds ∈ fs) (k : Only fs s t) :
    Only fs s (Machine.abortRun t) := by
  unfold Machine.abortRun
  repeat' first
    | assumption
    | with_reducible first
      | apply Only.withCds
    | split

theorem Only.energize (coil : Coil) (h_cds : Fld.cds ∈ fs) (k : Only fs s t) :
    Only fs s (Machine.energize coil t) := by
  unfold Machine.energize
  try dsimp only
  repeat' first
    | assumption
    | with_reducible first
      | apply Only.withCds | apply Only.abortRun
    | split

theorem Only.deenergize (coil : Coil) (h_cds : Fld.cds ∈ fs) (k : Only fs s t) :
    Only fs s (Machine.deenergize coil t) := by
  unfold Machine.deenergize
  try dsimp only
  repeat' first
    | assumption
    | with_reducible first
      | apply Only.withCds
    | split

theorem Only.beginRun (coil : Coil) (h_cds : Fld.cds ∈ fs) (k : Only fs s t) :
    Only fs s (Machine.beginRun coil t) := by
  unfold Machine.beginRun
  repeat' first
    | assumption
    | with_reducible first
      | apply Only.withCds
    | split

theorem Only.timerStart (h_cds : Fld.cds ∈ fs) (k : Only fs s t) :
    Only fs s (Machine.timerStart t) := by
  unfold Machine.timerStart
  repeat' first
    | assumption
    | with_reducible first
      | apply Only.withCds | apply Only.beginRun
    | split

theorem Only.completeRun (r : DiagRun) (steps : Vector StepResult 4) (h_bkc : Fld.bkc ∈ fs) (h_cds : Fld.cds ∈ fs) (k
    : Only fs s t) :
    Only fs s (Machine.completeRun r steps t) := by
  unfold Machine.completeRun
  try dsimp only
  repeat' first
    | assumption
    | with_reducible first
      | apply Only.withBkc | apply Only.withCds
    | split

theorem Only.endStep (st : Settings) (r : DiagRun) (reading : Reading) (h_bkc : Fld.bkc ∈ fs) (h_cds : Fld.cds ∈ fs)
    (k : Only fs s t) :
    Only fs s (Machine.endStep st r reading t) := by
  unfold Machine.endStep
  try dsimp only
  repeat' first
    | assumption
    | with_reducible first
      | apply Only.withCds | apply Only.completeRun
    | split

theorem Only.makeClaim (sections : SectionSet) (h_sli : Fld.sli ∈ fs) (h_syn : Fld.syn ∈ fs) (k : Only fs s t) :
    Only fs s (Machine.makeClaim sections t) := by
  unfold Machine.makeClaim
  repeat' first
    | assumption
    | with_reducible first
      | apply Only.withSli | apply Only.withSyn

theorem Only.judgeEligible (h_sli : Fld.sli ∈ fs) (h_syn : Fld.syn ∈ fs) (k : Only fs s t) :
    Only fs s (Machine.judgeEligible t) := by
  unfold Machine.judgeEligible
  repeat' first
    | assumption
    | with_reducible first
      | apply Only.inForce | apply Only.makeClaim
    | split
    | intro _

theorem Only.giveUpClaim (h_sli : Fld.sli ∈ fs) (h_syn : Fld.syn ∈ fs) (k : Only fs s t) :
    Only fs s (Machine.giveUpClaim t) := by
  unfold Machine.giveUpClaim
  repeat' first
    | assumption
    | with_reducible first
      | apply Only.withSli | apply Only.withSyn
    | split

theorem Only.withdrawClaim (h_sli : Fld.sli ∈ fs) (h_syn : Fld.syn ∈ fs) (k : Only fs s t) :
    Only fs s (Machine.withdrawClaim t) := by
  unfold Machine.withdrawClaim
  try dsimp only
  repeat' first
    | assumption
    | with_reducible first
      | apply Only.withSyn | apply Only.judgeEligible | apply Only.giveUpClaim

theorem Only.leaveYielded (h_sli : Fld.sli ∈ fs) (h_syn : Fld.syn ∈ fs) (k : Only fs s t) :
    Only fs s (Machine.leaveYielded t) := by
  unfold Machine.leaveYielded
  repeat' first
    | assumption
    | with_reducible first
      | apply Only.withSyn | apply Only.judgeEligible

theorem Only.yieldTo (claimants : List StationNo) (h_sli : Fld.sli ∈ fs) (h_syn : Fld.syn ∈ fs) (k : Only fs s t) :
    Only fs s (Machine.yieldTo claimants t) := by
  unfold Machine.yieldTo
  try dsimp only
  repeat' first
    | assumption
    | with_reducible first
      | apply Only.withSyn | apply Only.giveUpClaim

theorem Only.endClaim (outcome : SynOutcome) (h_sli : Fld.sli ∈ fs) (h_syn : Fld.syn ∈ fs) (k : Only fs s t) :
    Only fs s (Machine.endClaim outcome t) := by
  unfold Machine.endClaim
  repeat' first
    | assumption
    | with_reducible first
      | apply Only.withSyn | apply Only.giveUpClaim
    | split

theorem Only.endRequest (outcome : SynOutcome) (h_sli : Fld.sli ∈ fs) (h_syn : Fld.syn ∈ fs) (k : Only fs s t) :
    Only fs s (Machine.endRequest outcome t) := by
  unfold Machine.endRequest
  try dsimp only
  repeat' first
    | assumption
    | with_reducible first
      | apply Only.withSyn | apply Only.endClaim

theorem Only.endTold (outcome : SynOutcome) (h_due : Fld.due ∈ fs) (h_sli : Fld.sli ∈ fs) (h_syn : Fld.syn ∈ fs) (k :
    Only fs s t) :
    Only fs s (Machine.endTold outcome t) := by
  unfold Machine.endTold
  repeat' first
    | assumption
    | with_reducible first
      | apply Only.send | apply Only.endRequest
    | split

theorem Only.synCancel (h_due : Fld.due ∈ fs) (h_sli : Fld.sli ∈ fs) (h_syn : Fld.syn ∈ fs) (k : Only fs s t) :
    Only fs s (Machine.synCancel t) := by
  unfold Machine.synCancel
  repeat' first
    | assumption
    | with_reducible first
      | apply Only.endTold

theorem Only.synTrip (closing : Bool) (h_due : Fld.due ∈ fs) (h_sli : Fld.sli ∈ fs) (h_syn : Fld.syn ∈ fs)
    (k : Only fs s t) : Only fs s (Machine.synTrip closing t) := by
  unfold Machine.synTrip
  repeat' first
    | assumption
    | with_reducible first
      | apply Only.withSyn | apply Only.synCancel
    | split

theorem Only.synWithdraw (h_due : Fld.due ∈ fs) (h_sli : Fld.sli ∈ fs) (h_syn : Fld.syn ∈ fs) (k : Only fs s t) :
    Only fs s (Machine.synWithdraw t) := by
  unfold Machine.synWithdraw
  repeat' first
    | assumption
    | with_reducible first
      | apply Only.endTold
    | split

theorem Only.takeRequest (requester : Requester) (st : Settings) (h_sli : Fld.sli ∈ fs) (h_syn : Fld.syn ∈ fs) (k :
    Only fs s t) :
    Only fs s (Machine.takeRequest requester st t) := by
  unfold Machine.takeRequest
  repeat' first
    | assumption
    | with_reducible first
      | apply Only.withSyn | apply Only.judgeEligible

theorem Only.sequenceRequest (h_sli : Fld.sli ∈ fs) (h_syn : Fld.syn ∈ fs) (k : Only fs s t) :
    Only fs s (Machine.sequenceRequest t) := by
  unfold Machine.sequenceRequest
  repeat' first
    | assumption
    | with_reducible first
      | apply Only.withSyn | apply Only.inForce | apply Only.takeRequest
    | split
    | intro _

theorem Only.evaluatePermit (st : Settings) (r : Record) (h_due : Fld.due ∈ fs) (h_syn : Fld.syn ∈ fs) (k : Only fs s
    t) :
    Only fs s (Machine.evaluatePermit st r t) := by
  unfold Machine.evaluatePermit
  repeat' first
    | assumption
    | with_reducible first
      | apply Only.withSyn | apply Only.send
    | split

theorem Only.avrCheck (st : Settings) (r : Record) (h_syn : Fld.syn ∈ fs) (k : Only fs s t) :
    Only fs s (Machine.avrCheck st r t) := by
  unfold Machine.avrCheck
  try dsimp only
  repeat' first
    | assumption
    | with_reducible first
      | apply Only.withSyn
    | split

theorem Only.claimingCycle (h_sli : Fld.sli ∈ fs) (h_syn : Fld.syn ∈ fs) (k : Only fs s t) :
    Only fs s (Machine.claimingCycle t) := by
  unfold Machine.claimingCycle
  repeat' first
    | assumption
    | with_reducible first
      | apply Only.withdrawClaim
    | split

theorem Only.lowerWinner (claimants : List StationNo) (h_syn : Fld.syn ∈ fs) (k : Only fs s t) :
    Only fs s (Machine.lowerWinner claimants t) := by
  unfold Machine.lowerWinner
  repeat' first
    | assumption
    | with_reducible first
      | apply Only.withSyn
    | split

theorem Only.claimingView (st : Settings) (c : Claim) (h_sli : Fld.sli ∈ fs) (h_syn : Fld.syn ∈ fs) (k : Only fs s t)
    :
    Only fs s (Machine.claimingView st c t) := by
  unfold Machine.claimingView
  try dsimp only
  repeat' first
    | assumption
    | with_reducible first
      | apply Only.withdrawClaim | apply Only.yieldTo
    | split

theorem Only.yieldedView (st : Settings) (h_sli : Fld.sli ∈ fs) (h_syn : Fld.syn ∈ fs) (k : Only fs s t) :
    Only fs s (Machine.yieldedView st t) := by
  unfold Machine.yieldedView
  try dsimp only
  repeat' first
    | assumption
    | with_reducible first
      | apply Only.leaveYielded | apply Only.lowerWinner
    | split

theorem Only.synClaimFrame (sender : StationNo) (sections : SectionSet) (h_sli : Fld.sli ∈ fs) (h_syn : Fld.syn ∈ fs)
    (k : Only fs s t) :
    Only fs s (Machine.synClaimFrame sender sections t) := by
  unfold Machine.synClaimFrame
  repeat' first
    | assumption
    | with_reducible first
      | apply Only.inForce | apply Only.yieldTo | apply Only.lowerWinner
    | split
    | intro _

theorem Only.synWithdrawFrame (sender : StationNo) (h_sli : Fld.sli ∈ fs) (h_syn : Fld.syn ∈ fs) (k : Only fs s t) :
    Only fs s (Machine.synWithdrawFrame sender t) := by
  unfold Machine.synWithdrawFrame
  repeat' first
    | assumption
    | with_reducible first
      | apply Only.leaveYielded
    | split

theorem Only.claimLeft (h_syn : Fld.syn ∈ fs) (k : Only fs s t) :
    Only fs s (Machine.claimLeft t) := by
  unfold Machine.claimLeft
  repeat' first
    | assumption
    | with_reducible first
      | apply Only.withSyn
    | split

theorem Only.syncRefused (h_syn : Fld.syn ∈ fs) (k : Only fs s t) :
    Only fs s (Machine.syncRefused t) := by
  unfold Machine.syncRefused
  repeat' first
    | assumption
    | with_reducible first
      | apply Only.withSyn
    | split

theorem Only.deadRefused (h_sli : Fld.sli ∈ fs) (h_syn : Fld.syn ∈ fs) (k : Only fs s t) :
    Only fs s (Machine.deadRefused t) := by
  unfold Machine.deadRefused
  try dsimp only
  repeat' first
    | assumption
    | with_reducible first
      | apply Only.withSyn | apply Only.giveUpClaim
    | split

theorem Only.lscEvent (act : Settings → State → State) (h_lsc : Fld.lsc ∈ fs) (ha : ∀ x1 u, Only fs s u → Only fs s
    (act x1 u)) (k : Only fs s t) :
    Only fs s (Machine.lscEvent act t) := by
  unfold Machine.lscEvent
  repeat' first
    | assumption
    | with_reducible first
      | apply ha | apply Only.inForce | apply Only.testZero

theorem Only.unloadClaim (h_due : Fld.due ∈ fs) (k : Only fs s t) :
    Only fs s (Machine.unloadClaim t) := by
  unfold Machine.unloadClaim
  repeat' first
    | assumption
    | with_reducible first
      | apply Only.send

theorem Only.endUnload (h_due : Fld.due ∈ fs) (h_lsc : Fld.lsc ∈ fs) (k : Only fs s t) :
    Only fs s (Machine.endUnload t) := by
  unfold Machine.endUnload
  repeat' first
    | assumption
    | with_reducible first
      | apply Only.withLsc | apply Only.send
    | split

theorem Only.startUnload (st : Settings) (reason : UnloadReason) (h_freeCount : Fld.freeCount ∈ fs) (h_lsc : Fld.lsc ∈
    fs) (k : Only fs s t) :
    Only fs s (Machine.startUnload st reason t) := by
  unfold Machine.startUnload
  try dsimp only
  repeat' first
    | assumption
    | with_reducible first
      | apply Only.withLsc | apply Only.withFree

theorem Only.unloadOrder (reason : UnloadReason) (h_due : Fld.due ∈ fs) (h_freeCount : Fld.freeCount ∈ fs) (h_lsc :
    Fld.lsc ∈ fs) (k : Only fs s t) :
    Only fs s (Machine.unloadOrder reason t) := by
  unfold Machine.unloadOrder
  repeat' first
    | assumption
    | with_reducible first
      | apply Only.lscEvent | apply Only.unloadClaim | apply Only.startUnload
    | split
    | intro _

theorem Only.onlineNotice (h_lsc : Fld.lsc ∈ fs) (k : Only fs s t) :
    Only fs s (Machine.onlineNotice t) := by
  unfold Machine.onlineNotice
  repeat' first
    | assumption
    | with_reducible first
      | apply Only.withLsc | apply Only.lscEvent
    | split
    | intro _

theorem Only.unloadTest (st : LscSettings) (p : Int) (h_due : Fld.due ∈ fs) (h_lsc : Fld.lsc ∈ fs) (k : Only fs s t) :
    Only fs s (Machine.unloadTest st p t) := by
  unfold Machine.unloadTest
  repeat' first
    | assumption
    | with_reducible first
      | apply Only.endUnload
    | split

theorem Only.shareStep (st : Settings) (p : Int) (h_due : Fld.due ∈ fs) (h_lsc : Fld.lsc ∈ fs) (k : Only fs s t) :
    Only fs s (Machine.shareStep st p t) := by
  unfold Machine.shareStep
  repeat' first
    | assumption
    | with_reducible first
      | apply Only.withLsc | apply Only.unloadTest
    | split

theorem Only.shareInterval (st : Settings) (h_due : Fld.due ∈ fs) (h_lsc : Fld.lsc ∈ fs) (k : Only fs s t) :
    Only fs s (Machine.shareInterval st t) := by
  unfold Machine.shareInterval
  repeat' first
    | assumption
    | with_reducible first
      | apply Only.withLsc | apply Only.shareStep
    | split

theorem Only.overlapExpires (d : OverlapDeadline) (h_due : Fld.due ∈ fs) (h_lsc : Fld.lsc ∈ fs) (k : Only fs s t) :
    Only fs s (Machine.overlapExpires d t) := by
  unfold Machine.overlapExpires
  try dsimp only
  repeat' first
    | assumption
    | with_reducible first
      | apply Only.withLsc | apply Only.unloadClaim | apply Only.endUnload
    | split

theorem Only.turnToOverlap (st : Settings) (h_freeCount : Fld.freeCount ∈ fs) (h_lsc : Fld.lsc ∈ fs) (k : Only fs s t)
    :
    Only fs s (Machine.turnToOverlap st t) := by
  unfold Machine.turnToOverlap
  repeat' first
    | assumption
    | with_reducible first
      | apply Only.withLsc | apply Only.startUnload
    | split

theorem Only.setDeadline (st : Settings) (closed : Time) (h_due : Fld.due ∈ fs) (h_freeCount : Fld.freeCount ∈ fs)
    (h_lsc : Fld.lsc ∈ fs) (k : Only fs s t) :
    Only fs s (Machine.setDeadline st closed t) := by
  unfold Machine.setDeadline
  try dsimp only
  repeat' first
    | assumption
    | with_reducible first
      | apply Only.withLsc | apply Only.overlapExpires | apply Only.turnToOverlap
    | split

theorem Only.overlapTest (st : Settings) (h_due : Fld.due ∈ fs) (h_freeCount : Fld.freeCount ∈ fs) (h_lsc : Fld.lsc ∈
    fs) (k : Only fs s t) :
    Only fs s (Machine.overlapTest st t) := by
  unfold Machine.overlapTest
  repeat' first
    | assumption
    | with_reducible first
      | apply Only.withLsc | apply Only.setDeadline
    | split

theorem Only.leaveConflict (st : Settings) (h_lsc : Fld.lsc ∈ fs) (k : Only fs s t) :
    Only fs s (Machine.leaveConflict st t) := by
  unfold Machine.leaveConflict
  try dsimp only
  repeat' first
    | assumption
    | with_reducible first
      | apply Only.withLsc

theorem Only.toCsq (x : CsqState) (h_csq : Fld.csq ∈ fs) (k : Only fs s t) :
    Only fs s (Machine.State.toCsq t x) := by
  unfold Machine.State.toCsq
  repeat' first
    | assumption
    | with_reducible first
      | apply Only.withCsq

theorem Only.run (b : Bool) (h_ssc : Fld.ssc ∈ fs) (k : Only fs s t) :
    Only fs s (Machine.State.run t b) := by
  unfold Machine.State.run
  repeat' first
    | assumption
    | with_reducible first
      | apply Only.withSsc

theorem Only.sequenceOpen (h_csq : Fld.csq ∈ fs) (h_due : Fld.due ∈ fs) (k : Only fs s t) :
    Only fs s (Machine.sequenceOpen t) := by
  unfold Machine.sequenceOpen
  repeat' first
    | assumption
    | with_reducible first
      | apply Only.withCsq | apply Only.send

theorem Only.handRequest (h_csq : Fld.csq ∈ fs) (h_sli : Fld.sli ∈ fs) (h_syn : Fld.syn ∈ fs) (k : Only fs s t) :
    Only fs s (Machine.handRequest t) := by
  unfold Machine.handRequest
  try dsimp only
  repeat' first
    | assumption
    | with_reducible first
      | apply Only.withCsq | apply Only.sequenceRequest
    | split

theorem Only.withdrawRequest (h_csq : Fld.csq ∈ fs) (h_due : Fld.due ∈ fs) (h_sli : Fld.sli ∈ fs) (h_syn : Fld.syn ∈
    fs) (k : Only fs s t) :
    Only fs s (Machine.withdrawRequest t) := by
  unfold Machine.withdrawRequest
  try dsimp only
  repeat' first
    | assumption
    | with_reducible first
      | apply Only.withCsq | apply Only.synWithdraw

theorem Only.suspendConfirm (h_csq : Fld.csq ∈ fs) (k : Only fs s t) :
    Only fs s (Machine.suspendConfirm t) := by
  unfold Machine.suspendConfirm
  repeat' first
    | assumption
    | with_reducible first
      | apply Only.withCsq
    | split

theorem Only.suspectSource (st : Settings) (h_csq : Fld.csq ∈ fs) (k : Only fs s t) :
    Only fs s (Machine.suspectSource st t) := by
  unfold Machine.suspectSource
  repeat' first
    | assumption
    | with_reducible first
      | apply Only.withCsq
    | split

theorem Only.setMonitor (m : Monitor) (h_csq : Fld.csq ∈ fs) (k : Only fs s t) :
    Only fs s (Machine.State.setMonitor t m) := by
  unfold Machine.State.setMonitor
  repeat' first
    | assumption
    | with_reducible first
      | apply Only.withCsq

theorem Only.evaluateMonitor (st : Settings) (h_csq : Fld.csq ∈ fs) (k : Only fs s t) :
    Only fs s (Machine.evaluateMonitor st t) := by
  unfold Machine.evaluateMonitor
  repeat' first
    | assumption
    | with_reducible first
      | apply Only.suspendConfirm | apply Only.suspectSource | apply Only.setMonitor
    | split

theorem Only.returnOrLost (st : Settings) (h_csq : Fld.csq ∈ fs) (k : Only fs s t) :
    Only fs s (Machine.returnOrLost st t) := by
  unfold Machine.returnOrLost
  repeat' first
    | assumption
    | with_reducible first
      | apply Only.withCsq
    | split

theorem Only.overlapOrNormal (st : Settings) (h_csq : Fld.csq ∈ fs) (k : Only fs s t) :
    Only fs s (Machine.overlapOrNormal st t) := by
  unfold Machine.overlapOrNormal
  try dsimp only
  repeat' first
    | assumption
    | with_reducible first
      | apply Only.withCsq
    | split

theorem Only.toBlocked (h_csq : Fld.csq ∈ fs) (k : Only fs s t) :
    Only fs s (Machine.toBlocked t) := by
  unfold Machine.toBlocked
  repeat' first
    | assumption
    | with_reducible first
      | apply Only.withCsq

theorem Only.enterRetransfer (st : Settings) (h_csq : Fld.csq ∈ fs) (h_sli : Fld.sli ∈ fs) (h_syn : Fld.syn ∈ fs) (k :
    Only fs s t) :
    Only fs s (Machine.enterRetransfer st t) := by
  unfold Machine.enterRetransfer
  try dsimp only
  repeat' first
    | assumption
    | with_reducible first
      | apply Only.withCsq | apply Only.handRequest
    | split

theorem Only.incomerMonitor (st : Settings) (h_csq : Fld.csq ∈ fs) (h_due : Fld.due ∈ fs) (k : Only fs s t) :
    Only fs s (Machine.incomerMonitor st t) := by
  unfold Machine.incomerMonitor
  repeat' first
    | assumption
    | with_reducible first
      | apply Only.sequenceOpen | apply Only.returnOrLost
    | split

theorem Only.incomerEvaluated (st : Settings) (h_csq : Fld.csq ∈ fs) (h_due : Fld.due ∈ fs) (h_sli : Fld.sli ∈ fs)
    (h_syn : Fld.syn ∈ fs) (k : Only fs s t) :
    Only fs s (Machine.incomerEvaluated st t) := by
  unfold Machine.incomerEvaluated
  repeat' first
    | assumption
    | with_reducible first
      | apply Only.withdrawRequest | apply Only.returnOrLost
    | split

theorem Only.incomerDelayEnds (st : Settings) (h_csq : Fld.csq ∈ fs) (h_sli : Fld.sli ∈ fs) (h_syn : Fld.syn ∈ fs) (k :
    Only fs s t) :
    Only fs s (Machine.incomerDelayEnds st t) := by
  unfold Machine.incomerDelayEnds
  repeat' first
    | assumption
    | with_reducible first
      | apply Only.enterRetransfer
    | split

theorem Only.incomerRunOut (st : Settings) (h_csq : Fld.csq ∈ fs) (h_sli : Fld.sli ∈ fs) (h_syn : Fld.syn ∈ fs) (k :
    Only fs s t) :
    Only fs s (Machine.incomerRunOut st t) := by
  unfold Machine.incomerRunOut
  repeat' first
    | assumption
    | with_reducible first
      | apply Only.enterRetransfer
    | split

theorem Only.incomerHand (h_csq : Fld.csq ∈ fs) (h_sli : Fld.sli ∈ fs) (h_syn : Fld.syn ∈ fs) (k : Only fs s t) :
    Only fs s (Machine.incomerHand t) := by
  unfold Machine.incomerHand
  repeat' first
    | assumption
    | with_reducible first
      | apply Only.handRequest
    | split

theorem Only.toCooldown (st : Settings) (h_csq : Fld.csq ∈ fs) (k : Only fs s t) :
    Only fs s (Machine.toCooldown st t) := by
  unfold Machine.toCooldown
  repeat' first
    | assumption
    | with_reducible first
      | apply Only.withCsq

theorem Only.toReadyOrStarting (st : Settings) (h_csq : Fld.csq ∈ fs) (h_ssc : Fld.ssc ∈ fs) (k : Only fs s t) :
    Only fs s (Machine.toReadyOrStarting st t) := by
  unfold Machine.toReadyOrStarting
  try dsimp only
  repeat' first
    | assumption
    | with_reducible first
      | apply Only.withCsq | apply Only.run
    | split

theorem Only.enterOnline (h_csq : Fld.csq ∈ fs) (h_lsc : Fld.lsc ∈ fs) (h_ssc : Fld.ssc ∈ fs) (k : Only fs s t) :
    Only fs s (Machine.enterOnline t) := by
  unfold Machine.enterOnline
  repeat' first
    | assumption
    | with_reducible first
      | apply Only.withCsq | apply Only.onlineNotice | apply Only.run

theorem Only.generatorStarting (st : Settings) (h_csq : Fld.csq ∈ fs) (k : Only fs s t) :
    Only fs s (Machine.generatorStarting st t) := by
  unfold Machine.generatorStarting
  repeat' first
    | assumption
    | with_reducible first
      | apply Only.withCsq | apply Only.toCooldown
    | split

theorem Only.generatorReady (st : Settings) (h_csq : Fld.csq ∈ fs) (h_due : Fld.due ∈ fs) (h_sli : Fld.sli ∈ fs)
    (h_syn : Fld.syn ∈ fs) (k : Only fs s t) :
    Only fs s (Machine.generatorReady st t) := by
  unfold Machine.generatorReady
  repeat' first
    | assumption
    | with_reducible first
      | apply Only.handRequest | apply Only.withdrawRequest | apply Only.toCooldown
    | split

theorem Only.generatorDelay (st : Settings) (h_csq : Fld.csq ∈ fs) (k : Only fs s t) :
    Only fs s (Machine.generatorDelay st t) := by
  unfold Machine.generatorDelay
  repeat' first
    | assumption
    | with_reducible first
      | apply Only.withCsq
    | split

theorem Only.generatorShown (h_csq : Fld.csq ∈ fs) (k : Only fs s t) :
    Only fs s (Machine.generatorShown t) := by
  unfold Machine.generatorShown
  repeat' first
    | assumption
    | with_reducible first
      | apply Only.toCsq
    | split

theorem Only.tieOpened (h_csq : Fld.csq ∈ fs) (k : Only fs s t) :
    Only fs s (Machine.tieOpened t) := by
  unfold Machine.tieOpened
  repeat' first
    | assumption
    | with_reducible first
      | apply Only.withCsq

theorem Only.tieTest (st : Settings) (h_csq : Fld.csq ∈ fs) (h_due : Fld.due ∈ fs) (h_sli : Fld.sli ∈ fs) (h_syn :
    Fld.syn ∈ fs) (k : Only fs s t) :
    Only fs s (Machine.tieTest st t) := by
  unfold Machine.tieTest
  repeat' first
    | assumption
    | with_reducible first
      | apply Only.withCsq | apply Only.handRequest | apply Only.withdrawRequest | apply Only.tieOpened
    | split

theorem Only.feederRestore (st : Settings) (h_csq : Fld.csq ∈ fs) (h_due : Fld.due ∈ fs) (k : Only fs s t) :
    Only fs s (Machine.feederRestore st t) := by
  unfold Machine.feederRestore
  repeat' first
    | assumption
    | with_reducible first
      | apply Only.withCsq | apply Only.send
    | split

theorem Only.enterShed (st : Settings) (cause : Option ShedCause) (h_csq : Fld.csq ∈ fs) (k : Only fs s t) :
    Only fs s (Machine.enterShed st cause t) := by
  unfold Machine.enterShed
  repeat' first
    | assumption
    | with_reducible first
      | apply Only.withCsq

theorem Only.feederTo (x : CsqState) (h_csq : Fld.csq ∈ fs) (k : Only fs s t) :
    Only fs s (Machine.feederTo x t) := by
  unfold Machine.feederTo
  repeat' first
    | assumption
    | with_reducible first
      | apply Only.withCsq

theorem Only.feederDeadBus (st : Settings) (r : Record) (h_csq : Fld.csq ∈ fs) (k : Only fs s t) :
    Only fs s (Machine.feederDeadBus st r t) := by
  unfold Machine.feederDeadBus
  repeat' first
    | assumption
    | with_reducible first
      | apply Only.withCsq
    | split

theorem Only.feederOverload (st : Settings) (h_csq : Fld.csq ∈ fs) (k : Only fs s t) :
    Only fs s (Machine.feederOverload st t) := by
  unfold Machine.feederOverload
  repeat' first
    | assumption
    | with_reducible first
      | apply Only.withCsq
    | split

theorem Only.feederSheds (st : Settings) (h_csq : Fld.csq ∈ fs) (k : Only fs s t) :
    Only fs s (Machine.feederSheds st t) := by
  unfold Machine.feederSheds
  repeat' first
    | assumption
    | with_reducible first
      | apply Only.withCsq
    | split

theorem Only.keepSheds (st : Settings) (h_csq : Fld.csq ∈ fs) (k : Only fs s t) :
    Only fs s (Machine.keepSheds st t) := by
  unfold Machine.keepSheds
  repeat' first
    | assumption
    | with_reducible first
      | apply Only.withCsq
    | split

theorem Only.judgeShed (st : Settings) (h_csq : Fld.csq ∈ fs) (h_due : Fld.due ∈ fs) (k : Only fs s t) :
    Only fs s (Machine.judgeShed st t) := by
  unfold Machine.judgeShed
  repeat' first
    | assumption
    | with_reducible first
      | apply Only.sequenceOpen | apply Only.enterShed
    | split

theorem Only.csqTick (st : Settings) (h_csq : Fld.csq ∈ fs) (h_due : Fld.due ∈ fs) (h_sli : Fld.sli ∈ fs) (h_syn :
    Fld.syn ∈ fs) (k : Only fs s t) :
    Only fs s (Machine.csqTick st t) := by
  unfold Machine.csqTick
  repeat' first
    | assumption
    | with_reducible first
      | apply Only.incomerMonitor | apply Only.incomerRunOut | apply Only.incomerHand
      | apply Only.generatorStarting | apply Only.generatorReady | apply Only.generatorDelay
      | apply Only.generatorShown | apply Only.tieTest | apply Only.feederRestore
    | split

theorem Only.csqEvent (act : Settings → State → State) (h_csq : Fld.csq ∈ fs) (h_due : Fld.due ∈ fs) (h_sli : Fld.sli
    ∈ fs) (h_syn : Fld.syn ∈ fs) (ha : ∀ x1 u, Only fs s u → Only fs s (act x1 u)) (k : Only fs s t) :
    Only fs s (Machine.csqEvent act t) := by
  unfold Machine.csqEvent
  repeat' first
    | assumption
    | with_reducible first
      | apply ha | apply Only.inForce | apply Only.csqTick
    | split
    | intro _

theorem Only.whenRunning (act : Settings → State → State) (st : Settings) (ha : ∀ x1 u, Only fs s u → Only fs s (act
    x1 u)) (k : Only fs s t) :
    Only fs s (Machine.whenRunning act st t) := by
  unfold Machine.whenRunning
  repeat' first
    | assumption
    | with_reducible first
      | apply ha
    | split

theorem Only.derive (st : Settings) (h_csq : Fld.csq ∈ fs) (h_lsc : Fld.lsc ∈ fs) (h_ssc : Fld.ssc ∈ fs) (k : Only fs
    s t) :
    Only fs s (Machine.derive st t) := by
  unfold Machine.derive
  repeat' first
    | assumption
    | with_reducible first
      | apply Only.withCsq | apply Only.toCsq | apply Only.returnOrLost | apply Only.toCooldown
      | apply Only.toReadyOrStarting | apply Only.enterOnline | apply Only.enterShed
    | split

theorem Only.incomerView (h_csq : Fld.csq ∈ fs) (k : Only fs s t) :
    Only fs s (Machine.incomerView t) := by
  unfold Machine.incomerView
  repeat' first
    | assumption
    | with_reducible first
      | apply Only.withCsq
    | split

theorem Only.generatorView (h_due : Fld.due ∈ fs) (h_freeCount : Fld.freeCount ∈ fs) (h_lsc : Fld.lsc ∈ fs) (k : Only
    fs s t) :
    Only fs s (Machine.generatorView t) := by
  unfold Machine.generatorView
  repeat' first
    | assumption
    | with_reducible first
      | apply Only.unloadOrder
    | split

theorem Only.tieView (h_csq : Fld.csq ∈ fs) (h_due : Fld.due ∈ fs) (k : Only fs s t) :
    Only fs s (Machine.tieView t) := by
  unfold Machine.tieView
  repeat' first
    | assumption
    | with_reducible first
      | apply Only.sequenceOpen
    | split

theorem Only.roleView (st : Settings) (h_csq : Fld.csq ∈ fs) (h_due : Fld.due ∈ fs) (h_freeCount : Fld.freeCount ∈ fs)
    (h_lsc : Fld.lsc ∈ fs) (k : Only fs s t) :
    Only fs s (Machine.roleView st t) := by
  unfold Machine.roleView
  repeat' first
    | assumption
    | with_reducible first
      | apply Only.feederOverload | apply Only.feederSheds | apply Only.incomerView | apply Only.generatorView
      | apply Only.tieView
    | split

theorem Only.incomerRecord (st : Settings) (h_csq : Fld.csq ∈ fs) (k : Only fs s t) :
    Only fs s (Machine.incomerRecord st t) := by
  unfold Machine.incomerRecord
  repeat' first
    | assumption
    | with_reducible first
      | apply Only.returnOrLost | apply Only.overlapOrNormal
    | split

theorem Only.generatorRecord (st : Settings) (h_csq : Fld.csq ∈ fs) (h_lsc : Fld.lsc ∈ fs) (h_ssc : Fld.ssc ∈ fs) (k :
    Only fs s t) :
    Only fs s (Machine.generatorRecord st t) := by
  unfold Machine.generatorRecord
  repeat' first
    | assumption
    | with_reducible first
      | apply Only.toCooldown | apply Only.enterOnline
    | split

theorem Only.tieRecord (h_csq : Fld.csq ∈ fs) (k : Only fs s t) :
    Only fs s (Machine.tieRecord t) := by
  unfold Machine.tieRecord
  repeat' first
    | assumption
    | with_reducible first
      | apply Only.toCsq | apply Only.tieOpened
    | split

theorem Only.feederRecord (st : Settings) (h_csq : Fld.csq ∈ fs) (k : Only fs s t) :
    Only fs s (Machine.feederRecord st t) := by
  unfold Machine.feederRecord
  repeat' first
    | assumption
    | with_reducible first
      | apply Only.enterShed | apply Only.feederTo
    | split

theorem Only.roleRecord (st : Settings) (h_csq : Fld.csq ∈ fs) (h_lsc : Fld.lsc ∈ fs) (h_ssc : Fld.ssc ∈ fs) (k : Only
    fs s t) :
    Only fs s (Machine.roleRecord st t) := by
  unfold Machine.roleRecord
  repeat' first
    | assumption
    | with_reducible first
      | apply Only.incomerRecord | apply Only.generatorRecord | apply Only.tieRecord | apply Only.feederRecord
    | split

theorem Only.roleOutcome (o : SynOutcome) (st : Settings) (h_csq : Fld.csq ∈ fs) (h_lsc : Fld.lsc ∈ fs) (h_ssc :
    Fld.ssc ∈ fs) (k : Only fs s t) :
    Only fs s (Machine.roleOutcome o st t) := by
  unfold Machine.roleOutcome
  repeat' first
    | assumption
    | with_reducible first
      | apply Only.toCsq | apply Only.overlapOrNormal | apply Only.toBlocked | apply Only.enterOnline
      | apply Only.tieOpened
    | split

theorem Only.takeOutcome (o : SynOutcome) (st : Settings) (h_csq : Fld.csq ∈ fs) (h_lsc : Fld.lsc ∈ fs) (h_ssc :
    Fld.ssc ∈ fs) (k : Only fs s t) :
    Only fs s (Machine.takeOutcome o st t) := by
  unfold Machine.takeOutcome
  repeat' first
    | assumption
    | with_reducible first
      | apply Only.withCsq | apply Only.whenRunning | apply Only.roleOutcome
    | split
    | intro _

theorem Only.csqGenReady (h_csq : Fld.csq ∈ fs) (h_due : Fld.due ∈ fs) (h_sli : Fld.sli ∈ fs) (h_syn : Fld.syn ∈ fs)
    (k : Only fs s t) :
    Only fs s (Machine.csqGenReady t) := by
  unfold Machine.csqGenReady
  repeat' first
    | assumption
    | with_reducible first
      | apply Only.csqEvent
    | split
    | intro _

theorem Only.tellTrip (h_csq : Fld.csq ∈ fs) (h_due : Fld.due ∈ fs) (h_sli : Fld.sli ∈ fs) (h_syn : Fld.syn ∈ fs) (k :
    Only fs s t) :
    Only fs s (Machine.tellTrip t) := by
  unfold Machine.tellTrip
  repeat' first
    | assumption
    | with_reducible first
      | apply Only.feederTo | apply Only.csqEvent | apply Only.whenRunning
    | split
    | intro _

theorem Only.tellLockoutClear (h_csq : Fld.csq ∈ fs) (h_due : Fld.due ∈ fs) (h_sli : Fld.sli ∈ fs) (h_syn : Fld.syn ∈
    fs) (k : Only fs s t) :
    Only fs s (Machine.tellLockoutClear t) := by
  unfold Machine.tellLockoutClear
  repeat' first
    | assumption
    | with_reducible first
      | apply Only.feederTo | apply Only.csqEvent | apply Only.whenRunning
    | split
    | intro _

theorem Only.tellOpenRequest (h_csq : Fld.csq ∈ fs) (h_due : Fld.due ∈ fs) (h_sli : Fld.sli ∈ fs) (h_syn : Fld.syn ∈
    fs) (k : Only fs s t) :
    Only fs s (Machine.tellOpenRequest t) := by
  unfold Machine.tellOpenRequest
  repeat' first
    | assumption
    | with_reducible first
      | apply Only.feederTo | apply Only.csqEvent | apply Only.whenRunning
    | split
    | intro _

theorem Only.tellFeederTaken (h_csq : Fld.csq ∈ fs) (k : Only fs s t) :
    Only fs s (Machine.tellFeederTaken t) := by
  unfold Machine.tellFeederTaken
  repeat' first
    | assumption
    | with_reducible first
      | apply Only.withCsq
    | split

theorem Only.tellFeederRefused (h_csq : Fld.csq ∈ fs) (k : Only fs s t) :
    Only fs s (Machine.tellFeederRefused t) := by
  unfold Machine.tellFeederRefused
  try dsimp only
  repeat' first
    | assumption
    | with_reducible first
      | apply Only.withCsq | apply Only.inForce | apply Only.enterShed
    | split
    | intro _

theorem Only.transferTestStart (h_csq : Fld.csq ∈ fs) (h_due : Fld.due ∈ fs) (h_sli : Fld.sli ∈ fs) (h_syn : Fld.syn ∈
    fs) (k : Only fs s t) :
    Only fs s (Machine.transferTestStart t) := by
  unfold Machine.transferTestStart
  repeat' first
    | assumption
    | with_reducible first
      | apply Only.withCsq | apply Only.setMonitor | apply Only.csqEvent
    | split
    | intro _

theorem Only.transferTestEnd (h_csq : Fld.csq ∈ fs) (h_due : Fld.due ∈ fs) (h_sli : Fld.sli ∈ fs) (h_syn : Fld.syn ∈
    fs) (k : Only fs s t) :
    Only fs s (Machine.transferTestEnd t) := by
  unfold Machine.transferTestEnd
  try dsimp only
  repeat' first
    | assumption
    | with_reducible first
      | apply Only.withCsq | apply Only.setMonitor | apply Only.csqEvent
    | split
    | intro _

theorem Only.setInhibit (on : Bool) (h_csq : Fld.csq ∈ fs) (h_due : Fld.due ∈ fs) (h_sli : Fld.sli ∈ fs) (h_syn :
    Fld.syn ∈ fs) (k : Only fs s t) :
    Only fs s (Machine.setInhibit on t) := by
  unfold Machine.setInhibit
  repeat' first
    | assumption
    | with_reducible first
      | apply Only.withCsq | apply Only.csqEvent
    | split
    | intro _

theorem Only.retransferAtOnce (h_csq : Fld.csq ∈ fs) (h_due : Fld.due ∈ fs) (h_sli : Fld.sli ∈ fs) (h_syn : Fld.syn ∈
    fs) (k : Only fs s t) :
    Only fs s (Machine.retransferAtOnce t) := by
  unfold Machine.retransferAtOnce
  repeat' first
    | assumption
    | with_reducible first
      | apply Only.enterRetransfer | apply Only.csqEvent
    | split
    | intro _

theorem Only.csqResetAlarm (h_csq : Fld.csq ∈ fs) (h_due : Fld.due ∈ fs) (h_lsc : Fld.lsc ∈ fs) (h_sli : Fld.sli ∈ fs)
    (h_ssc : Fld.ssc ∈ fs) (h_syn : Fld.syn ∈ fs) (k : Only fs s t) :
    Only fs s (Machine.csqResetAlarm t) := by
  unfold Machine.csqResetAlarm
  repeat' first
    | assumption
    | with_reducible first
      | apply Only.withCsq | apply Only.toCsq | apply Only.csqEvent | apply Only.whenRunning | apply Only.derive
    | split
    | intro _

theorem Only.operate (station : StationState) (c : TripCause) (h_csq : Fld.csq ∈ fs) (h_due : Fld.due ∈ fs) (h_sli :
    Fld.sli ∈ fs) (h_syn : Fld.syn ∈ fs) (k : Only fs s t) :
    Only fs s (Machine.operate station c t) := by
  unfold Machine.operate
  repeat' first
    | assumption
    | with_reducible first
      | apply Only.withSli | apply Only.send | apply Only.tellTrip
    | split

theorem Only.pesFinish (station : StationState) (before : Pes) (claim : Option TripCause) (h_csq : Fld.csq ∈ fs)
    (h_due : Fld.due ∈ fs) (h_sli : Fld.sli ∈ fs) (h_syn : Fld.syn ∈ fs) (k : Only fs s t) :
    Only fs s (Machine.pesFinish station before claim t) := by
  unfold Machine.pesFinish
  repeat' first
    | assumption
    | with_reducible first
      | apply Only.send | apply Only.operate
    | split

theorem Only.publishPes (afterCycle : Bool) (h_due : Fld.due ∈ fs) (k : Only fs s t) :
    Only fs s (Machine.publishPes afterCycle t) := by
  unfold Machine.publishPes
  repeat' first
    | assumption
    | with_reducible first
      | apply Only.notify

theorem Only.takeExtTrip (station : StationState) (before : Pes) (st : Settings) (h_csq : Fld.csq ∈ fs) (h_due :
    Fld.due ∈ fs) (h_pes : Fld.pes ∈ fs) (h_sli : Fld.sli ∈ fs) (h_syn : Fld.syn ∈ fs) (k : Only fs s t) :
    Only fs s (Machine.takeExtTrip station before st t) := by
  unfold Machine.takeExtTrip
  repeat' first
    | assumption
    | with_reducible first
      | apply Only.withPes | apply Only.pesFinish
    | split

theorem Only.extTripChange (h_csq : Fld.csq ∈ fs) (h_due : Fld.due ∈ fs) (h_pes : Fld.pes ∈ fs) (h_sli : Fld.sli ∈ fs)
    (h_syn : Fld.syn ∈ fs) (k : Only fs s t) :
    Only fs s (Machine.extTripChange t) := by
  unfold Machine.extTripChange
  repeat' first
    | assumption
    | with_reducible first
      | apply Only.inForce | apply Only.publishPes | apply Only.takeExtTrip
    | split
    | intro _

theorem Only.takePassage (fromState : StationState) (toState : StationState) (st : Settings) (h_csq : Fld.csq ∈ fs)
    (h_due : Fld.due ∈ fs) (h_pes : Fld.pes ∈ fs) (h_sli : Fld.sli ∈ fs) (h_syn : Fld.syn ∈ fs) (k : Only fs s t) :
    Only fs s (Machine.takePassage fromState toState st t) := by
  unfold Machine.takePassage
  repeat' first
    | assumption
    | with_reducible first
      | apply Only.withPes | apply Only.takeExtTrip
    | split

theorem Only.takeTransfer (st : Settings) (n : StationNo) (sections : SectionSet) (h_csq : Fld.csq ∈ fs) (h_due :
    Fld.due ∈ fs) (h_pes : Fld.pes ∈ fs) (h_sli : Fld.sli ∈ fs) (h_syn : Fld.syn ∈ fs) (k : Only fs s t) :
    Only fs s (Machine.takeTransfer st n sections t) := by
  unfold Machine.takeTransfer
  try dsimp only
  repeat' first
    | assumption
    | with_reducible first
      | apply Only.withPes | apply Only.pesFinish
    | split

theorem Only.transferNotice (n : StationNo) (sections : SectionSet) (h_csq : Fld.csq ∈ fs) (h_due : Fld.due ∈ fs)
    (h_pes : Fld.pes ∈ fs) (h_sli : Fld.sli ∈ fs) (h_syn : Fld.syn ∈ fs) (k : Only fs s t) :
    Only fs s (Machine.transferNotice n sections t) := by
  unfold Machine.transferNotice
  repeat' first
    | assumption
    | with_reducible first
      | apply Only.inForce | apply Only.publishPes | apply Only.takeTransfer
    | split
    | intro _

theorem Only.removeOrigin (n : StationNo) (h_pes : Fld.pes ∈ fs) (k : Only fs s t) :
    Only fs s (Machine.removeOrigin n t) := by
  unfold Machine.removeOrigin
  try dsimp only
  repeat' first
    | assumption
    | with_reducible first
      | apply Only.withPes
    | split

theorem Only.transferReport (n : StationNo) (body : Option ReportBody) (h_csq : Fld.csq ∈ fs) (h_due : Fld.due ∈ fs)
    (h_pes : Fld.pes ∈ fs) (h_sli : Fld.sli ∈ fs) (h_syn : Fld.syn ∈ fs) (k : Only fs s t) :
    Only fs s (Machine.transferReport n body t) := by
  unfold Machine.transferReport
  repeat' first
    | assumption
    | with_reducible first
      | apply Only.inForce | apply Only.publishPes | apply Only.takeTransfer | apply Only.removeOrigin
    | split
    | intro _

theorem Only.crossTrigger (st : DrcSettings) (kind : CauseKind) (detail : Byte) (h_sli : Fld.sli ∈ fs) (k : Only fs s
    t) :
    Only fs s (Machine.crossTrigger st kind detail t) := by
  unfold Machine.crossTrigger
  repeat' first
    | assumption
    | with_reducible first
      | apply Only.withSli
    | split

theorem Only.takeTrigger (st : Settings) (kind : CauseKind) (detail : Byte) (h_drc : Fld.drc ∈ fs) (h_sli : Fld.sli ∈
    fs) (k : Only fs s t) :
    Only fs s (Machine.takeTrigger st kind detail t) := by
  unfold Machine.takeTrigger
  try dsimp only
  repeat' first
    | assumption
    | with_reducible first
      | apply Only.withDrc | apply Only.crossTrigger
    | split

theorem Only.recording (act : Settings → State → State) (ha : ∀ x1 u, Only fs s u → Only fs s (act x1 u)) (k : Only fs
    s t) :
    Only fs s (Machine.State.recording t act) := by
  unfold Machine.State.recording
  repeat' first
    | assumption
    | with_reducible first
      | apply ha | apply Only.inForce
    | split
    | intro _

theorem Only.generalInputChange (g : Fin 4 × Byte) (level : Bool) (h_drc : Fld.drc ∈ fs) (h_sli : Fld.sli ∈ fs) (k :
    Only fs s t) :
    Only fs s (Machine.generalInputChange g level t) := by
  unfold Machine.generalInputChange
  try dsimp only
  repeat' first
    | assumption
    | with_reducible first
      | apply Only.withDrc | apply Only.takeTrigger | apply Only.recording
    | split
    | intro _

theorem Only.peerTrigger (sender : StationNo) (h_drc : Fld.drc ∈ fs) (h_sli : Fld.sli ∈ fs) (k : Only fs s t) :
    Only fs s (Machine.peerTrigger sender t) := by
  unfold Machine.peerTrigger
  repeat' first
    | assumption
    | with_reducible first
      | apply Only.takeTrigger | apply Only.recording
    | split
    | intro _

theorem Only.levelTriggers (st : Settings) (h_drc : Fld.drc ∈ fs) (h_sli : Fld.sli ∈ fs) (k : Only fs s t) :
    Only fs s (Machine.levelTriggers st t) := by
  unfold Machine.levelTriggers
  generalize generalInputs = l
  induction l generalizing t with
  | nil => exact k
  | cons g l ih =>
    refine ih ?_
    dsimp only
    split
    · exact Only.takeTrigger _ _ _ h_drc h_sli k
    · exact k

theorem Only.addMark (h_ptb : Fld.ptb ∈ fs) (k : Only fs s t) :
    Only fs s (Machine.addMark t) := by
  unfold Machine.addMark
  repeat' first
    | assumption
    | with_reducible first
      | apply Only.withPtb

theorem Only.placeReport (h_ptb : Fld.ptb ∈ fs) (h_sli : Fld.sli ∈ fs) (k : Only fs s t) :
    Only fs s (Machine.placeReport t) := by
  unfold Machine.placeReport
  repeat' first
    | assumption
    | with_reducible first
      | apply Only.withSli | apply Only.withPtb
    | split

theorem Only.takeBreaker (h_due : Fld.due ∈ fs) (h_ptb : Fld.ptb ∈ fs) (h_sli : Fld.sli ∈ fs) (k : Only fs s t) :
    Only fs s (Machine.takeBreaker t) := by
  unfold Machine.takeBreaker
  try dsimp only
  repeat' first
    | assumption
    | with_reducible first
      | apply Only.withPtb | apply Only.publishView | apply Only.addMark | apply Only.placeReport
    | split

theorem Only.takeSequence (h_ptb : Fld.ptb ∈ fs) (h_sli : Fld.sli ∈ fs) (k : Only fs s t) :
    Only fs s (Machine.takeSequence t) := by
  unfold Machine.takeSequence
  try dsimp only
  repeat' first
    | assumption
    | with_reducible first
      | apply Only.withPtb | apply Only.placeReport
    | split

theorem Only.takeClaim (h_ptb : Fld.ptb ∈ fs) (h_sli : Fld.sli ∈ fs) (k : Only fs s t) :
    Only fs s (Machine.takeClaim t) := by
  unfold Machine.takeClaim
  try dsimp only
  repeat' first
    | assumption
    | with_reducible first
      | apply Only.withPtb | apply Only.placeReport
    | split

theorem Only.takeService (h_ptb : Fld.ptb ∈ fs) (h_sli : Fld.sli ∈ fs) (k : Only fs s t) :
    Only fs s (Machine.takeService t) := by
  unfold Machine.takeService
  try dsimp only
  repeat' first
    | assumption
    | with_reducible first
      | apply Only.withPtb | apply Only.placeReport
    | split

theorem Only.setEntry (n : StationNo) (e : Entry) (h_ptb : Fld.ptb ∈ fs) (k : Only fs s t) :
    Only fs s (Machine.State.setEntry t n e) := by
  unfold Machine.State.setEntry
  repeat' first
    | assumption
    | with_reducible first
      | apply Only.withPtb

theorem Only.takeReport (n : StationNo) (r : Report) (h_due : Fld.due ∈ fs) (h_ptb : Fld.ptb ∈ fs) (k : Only fs s t) :
    Only fs s (Machine.takeReport n r t) := by
  unfold Machine.takeReport
  try dsimp only
  repeat' first
    | assumption
    | with_reducible first
      | apply Only.take | apply Only.publishView | apply Only.addMark | apply Only.setEntry
    | split

theorem Only.claimFrame (n : StationNo) (c : ClaimField) (h_due : Fld.due ∈ fs) (h_ptb : Fld.ptb ∈ fs) (k : Only fs s
    t) :
    Only fs s (Machine.claimFrame n c t) := by
  unfold Machine.claimFrame
  repeat' first
    | assumption
    | with_reducible first
      | apply Only.publishView | apply Only.setEntry
    | split

theorem Only.conflictFrame (n : StationNo) (h_due : Fld.due ∈ fs) (h_ptb : Fld.ptb ∈ fs) (k : Only fs s t) :
    Only fs s (Machine.conflictFrame n t) := by
  unfold Machine.conflictFrame
  repeat' first
    | assumption
    | with_reducible first
      | apply Only.send | apply Only.publishView | apply Only.setEntry

theorem Only.clearConflict (n : StationNo) (h_due : Fld.due ∈ fs) (h_ptb : Fld.ptb ∈ fs) (k : Only fs s t) :
    Only fs s (Machine.clearConflict n t) := by
  unfold Machine.clearConflict
  try dsimp only
  repeat' first
    | assumption
    | with_reducible first
      | apply Only.publishView | apply Only.setEntry
    | split

theorem Only.renumber (old : StationNo) (new : StationNo) (h_due : Fld.due ∈ fs) (h_ptb : Fld.ptb ∈ fs) (k : Only fs s
    t) :
    Only fs s (Machine.renumber old new t) := by
  unfold Machine.renumber
  repeat' first
    | assumption
    | with_reducible first
      | apply Only.publishView | apply Only.setEntry
    | split

theorem Only.closeOff (h_bkc : Fld.bkc ∈ fs) (h_cds : Fld.cds ∈ fs) (k : Only fs s t) :
    Only fs s (Machine.closeOff t) := by
  unfold Machine.closeOff
  repeat' first
    | assumption
    | with_reducible first
      | apply Only.withBkc | apply Only.deenergize

theorem Only.tripOff (h_bkc : Fld.bkc ∈ fs) (h_cds : Fld.cds ∈ fs) (k : Only fs s t) :
    Only fs s (Machine.tripOff t) := by
  unfold Machine.tripOff
  repeat' first
    | assumption
    | with_reducible first
      | apply Only.withBkc | apply Only.deenergize

theorem Only.passTo (x : BreakerState) (h_bkc : Fld.bkc ∈ fs) (h_cds : Fld.cds ∈ fs) (k : Only fs s t) :
    Only fs s (Machine.passTo x t) := by
  unfold Machine.passTo
  try dsimp only
  repeat' first
    | assumption
    | with_reducible first
      | apply Only.withBkc | apply Only.closeOff
    | split

theorem Only.setLockout (h_bkc : Fld.bkc ∈ fs) (h_cds : Fld.cds ∈ fs) (k : Only fs s t) :
    Only fs s (Machine.setLockout t) := by
  unfold Machine.setLockout
  try dsimp only
  repeat' first
    | assumption
    | with_reducible first
      | apply Only.withBkc | apply Only.closeOff
    | split

theorem Only.armFailure (st : Settings) (h_bkc : Fld.bkc ∈ fs) (k : Only fs s t) :
    Only fs s (Machine.armFailure st t) := by
  unfold Machine.armFailure
  repeat' first
    | assumption
    | with_reducible first
      | apply Only.withBkc
    | split

theorem Only.tripPulse (purpose : Purpose) (h_bkc : Fld.bkc ∈ fs) (h_cds : Fld.cds ∈ fs) (k : Only fs s t) :
    Only fs s (Machine.tripPulse purpose t) := by
  unfold Machine.tripPulse
  try dsimp only
  repeat' first
    | assumption
    | with_reducible first
      | apply Only.withBkc | apply Only.energize | apply Only.closeOff

theorem Only.driveOpen (purpose : Purpose) (h_bkc : Fld.bkc ∈ fs) (h_cds : Fld.cds ∈ fs) (k : Only fs s t) :
    Only fs s (Machine.driveOpen purpose t) := by
  unfold Machine.driveOpen
  try dsimp only
  repeat' first
    | assumption
    | with_reducible first
      | apply Only.withBkc | apply Only.passTo | apply Only.tripPulse
    | split

theorem Only.abortAndOpen (purpose : Purpose) (h_bkc : Fld.bkc ∈ fs) (h_cds : Fld.cds ∈ fs) (k : Only fs s t) :
    Only fs s (Machine.abortAndOpen purpose t) := by
  unfold Machine.abortAndOpen
  repeat' first
    | assumption
    | with_reducible first
      | apply Only.abortRun | apply Only.driveOpen

theorem Only.takeOpening (purpose : Purpose) (h_bkc : Fld.bkc ∈ fs) (h_cds : Fld.cds ∈ fs) (h_due : Fld.due ∈ fs)
    (h_sli : Fld.sli ∈ fs) (h_syn : Fld.syn ∈ fs) (k : Only fs s t) :
    Only fs s (Machine.takeOpening purpose t) := by
  unfold Machine.takeOpening
  repeat' first
    | assumption
    | with_reducible first
      | apply Only.synCancel | apply Only.abortAndOpen

theorem Only.takeTrip (cause : TripCause) (st : Settings) (h_bkc : Fld.bkc ∈ fs) (h_cds : Fld.cds ∈ fs) (h_due :
    Fld.due ∈ fs) (h_sli : Fld.sli ∈ fs) (h_syn : Fld.syn ∈ fs) (k : Only fs s t) :
    Only fs s (Machine.takeTrip cause st t) := by
  unfold Machine.takeTrip
  try dsimp only
  repeat' first
    | assumption
    | with_reducible first
      | apply Only.withBkc | apply Only.setLockout | apply Only.armFailure | apply Only.synTrip
      | apply Only.abortAndOpen

theorem Only.atWork (act : Settings → State → State) (ha : ∀ x1 u, Only fs s u → Only fs s (act x1 u)) (k : Only fs s
    t) :
    Only fs s (Machine.State.atWork t act) := by
  unfold Machine.State.atWork
  repeat' first
    | assumption
    | with_reducible first
      | apply ha | apply Only.inForce
    | split
    | intro _

theorem Only.takeClose (purpose : ClosePurpose) (st : Settings) (h_bkc : Fld.bkc ∈ fs) (h_cds : Fld.cds ∈ fs) (k :
    Only fs s t) :
    Only fs s (Machine.takeClose purpose st t) := by
  unfold Machine.takeClose
  try dsimp only
  repeat' first
    | assumption
    | with_reducible first
      | apply Only.withBkc | apply Only.energize | apply Only.passTo

theorem Only.tellTaken (purpose : ClosePurpose) (h_csq : Fld.csq ∈ fs) (h_syn : Fld.syn ∈ fs) (k : Only fs s t) :
    Only fs s (Machine.tellTaken purpose t) := by
  unfold Machine.tellTaken
  repeat' first
    | assumption
    | with_reducible first
      | apply Only.withSyn | apply Only.tellFeederTaken
    | split

theorem Only.tellRefused (purpose : ClosePurpose) (h_csq : Fld.csq ∈ fs) (h_sli : Fld.sli ∈ fs) (h_syn : Fld.syn ∈ fs)
    (k : Only fs s t) :
    Only fs s (Machine.tellRefused purpose t) := by
  unfold Machine.tellRefused
  repeat' first
    | assumption
    | with_reducible first
      | apply Only.syncRefused | apply Only.deadRefused | apply Only.tellFeederRefused
    | split

theorem Only.followContacts (x : BreakerState) (h_bkc : Fld.bkc ∈ fs) (h_cds : Fld.cds ∈ fs) (k : Only fs s t) :
    Only fs s (Machine.followContacts x t) := by
  unfold Machine.followContacts
  try dsimp only
  repeat' first
    | assumption
    | with_reducible first
      | apply Only.withBkc | apply Only.passTo

theorem Only.startDiscrepancy (h_bkc : Fld.bkc ∈ fs) (k : Only fs s t) :
    Only fs s (Machine.startDiscrepancy t) := by
  unfold Machine.startDiscrepancy
  repeat' first
    | assumption
    | with_reducible first
      | apply Only.withBkc
    | split

theorem Only.compareContacts (own : ContactPosition) (other : ContactPosition) (otherState : BreakerState) (pos :
    ContactPosition) (h_bkc : Fld.bkc ∈ fs) (h_cds : Fld.cds ∈ fs) (k : Only fs s t) :
    Only fs s (Machine.compareContacts own other otherState pos t) := by
  unfold Machine.compareContacts
  repeat' first
    | assumption
    | with_reducible first
      | apply Only.withBkc | apply Only.followContacts | apply Only.startDiscrepancy
    | split

theorem Only.tripDone (h_bkc : Fld.bkc ∈ fs) (h_cds : Fld.cds ∈ fs) (k : Only fs s t) :
    Only fs s (Machine.tripDone t) := by
  unfold Machine.tripDone
  try dsimp only
  repeat' first
    | assumption
    | with_reducible first
      | apply Only.withBkc | apply Only.tripOff | apply Only.passTo

theorem Only.contactChange (h_bkc : Fld.bkc ∈ fs) (h_cds : Fld.cds ∈ fs) (k : Only fs s t) :
    Only fs s (Machine.contactChange t) := by
  unfold Machine.contactChange
  try dsimp only
  repeat' first
    | assumption
    | with_reducible first
      | apply Only.withBkc | apply Only.passTo | apply Only.atWork | apply Only.followContacts
      | apply Only.compareContacts | apply Only.tripDone
    | split
    | intro _

theorem Only.bothIdle (h_bkc : Fld.bkc ∈ fs) (h_cds : Fld.cds ∈ fs) (k : Only fs s t) :
    Only fs s (Machine.bothIdle t) := by
  unfold Machine.bothIdle
  try dsimp only
  repeat' first
    | assumption
    | with_reducible first
      | apply Only.withBkc | apply Only.closeOff | apply Only.tripOff

theorem Only.deriveBreaker (h_bkc : Fld.bkc ∈ fs) (h_cds : Fld.cds ∈ fs) (k : Only fs s t) :
    Only fs s (Machine.deriveBreaker t) := by
  unfold Machine.deriveBreaker
  try dsimp only
  repeat' first
    | assumption
    | with_reducible first
      | apply Only.withBkc | apply Only.bothIdle

theorem Only.rackChange (h_bkc : Fld.bkc ∈ fs) (h_cds : Fld.cds ∈ fs) (k : Only fs s t) :
    Only fs s (Machine.rackChange t) := by
  unfold Machine.rackChange
  try dsimp only
  repeat' first
    | assumption
    | with_reducible first
      | apply Only.withBkc | apply Only.atWork | apply Only.bothIdle | apply Only.deriveBreaker
    | split
    | intro _

theorem Only.failBreaker (st : Settings) (h_bkc : Fld.bkc ∈ fs) (h_cds : Fld.cds ∈ fs) (h_sli : Fld.sli ∈ fs) (k :
    Only fs s t) :
    Only fs s (Machine.failBreaker st t) := by
  unfold Machine.failBreaker
  try dsimp only
  repeat' first
    | assumption
    | with_reducible first
      | apply Only.withBkc | apply Only.withSli | apply Only.setLockout

theorem Only.dropLockout (h_bkc : Fld.bkc ∈ fs) (k : Only fs s t) :
    Only fs s (Machine.dropLockout t) := by
  unfold Machine.dropLockout
  repeat' first
    | assumption
    | with_reducible first
      | apply Only.withBkc
    | split

theorem Only.lockoutClear (st : Settings) (h_bkc : Fld.bkc ∈ fs) (h_csq : Fld.csq ∈ fs) (h_due : Fld.due ∈ fs) (h_sli
    : Fld.sli ∈ fs) (h_syn : Fld.syn ∈ fs) (k : Only fs s t) :
    Only fs s (Machine.lockoutClear st t) := by
  unfold Machine.lockoutClear
  repeat' first
    | assumption
    | with_reducible first
      | apply Only.tellLockoutClear | apply Only.dropLockout
    | split

theorem Only.localOpen (h_bkc : Fld.bkc ∈ fs) (h_cds : Fld.cds ∈ fs) (h_due : Fld.due ∈ fs) (h_sli : Fld.sli ∈ fs)
    (h_syn : Fld.syn ∈ fs) (k : Only fs s t) :
    Only fs s (Machine.localOpen t) := by
  unfold Machine.localOpen
  repeat' first
    | assumption
    | with_reducible first
      | apply Only.takeOpening | apply Only.atWork
    | split
    | intro _

theorem Only.operatorClose (st : Settings) (h_bkc : Fld.bkc ∈ fs) (h_cds : Fld.cds ∈ fs) (h_sli : Fld.sli ∈ fs)
    (h_syn : Fld.syn ∈ fs) (k : Only fs s t) : Only fs s (Machine.operatorClose st t).1 := by
  unfold Machine.operatorClose
  repeat' first
    | assumption
    | with_reducible first | apply Only.takeClose | apply Only.takeRequest
    | split

theorem Only.localClose (h_bkc : Fld.bkc ∈ fs) (h_cds : Fld.cds ∈ fs) (h_sli : Fld.sli ∈ fs) (h_syn : Fld.syn ∈ fs)
    (k : Only fs s t) : Only fs s (Machine.localClose t) := by
  unfold Machine.localClose
  repeat' first
    | assumption
    | with_reducible first | apply Only.atWork | apply Only.operatorClose
    | split
    | intro _

theorem Only.localLockoutReset (h_bkc : Fld.bkc ∈ fs) (h_csq : Fld.csq ∈ fs) (h_due : Fld.due ∈ fs) (h_sli : Fld.sli ∈
    fs) (h_syn : Fld.syn ∈ fs) (k : Only fs s t) :
    Only fs s (Machine.localLockoutReset t) := by
  unfold Machine.localLockoutReset
  repeat' first
    | assumption
    | with_reducible first
      | apply Only.atWork | apply Only.lockoutClear
    | split
    | intro _

theorem Only.onLine (act : State → State) (ha : ∀ u, Only fs s u → Only fs s (act u)) (k : Only fs s t) :
    Only fs s (Machine.State.onLine t act) := by
  unfold Machine.State.onLine
  repeat' first
    | assumption
    | with_reducible first
      | apply ha
    | split

theorem Only.leaveFlight (f : Flight) (h_sli : Fld.sli ∈ fs) (h_syn : Fld.syn ∈ fs) (k : Only fs s t) :
    Only fs s (Machine.leaveFlight f t) := by
  unfold Machine.leaveFlight
  try dsimp only
  repeat' first
    | assumption
    | with_reducible first
      | apply Only.withSli | apply Only.claimLeft
    | split

theorem Only.enterConflict (h_sli : Fld.sli ∈ fs) (h_ssc : Fld.ssc ∈ fs) (k : Only fs s t) :
    Only fs s (Machine.enterConflict t) := by
  unfold Machine.enterConflict
  repeat' first
    | assumption
    | with_reducible first
      | apply Only.withSli | apply Only.withSsc
    | split

theorem Only.heard (h_sli : Fld.sli ∈ fs) (k : Only fs s t) :
    Only fs s (Machine.State.heard t) := by
  unfold Machine.State.heard
  repeat' first
    | assumption
    | with_reducible first
      | apply Only.withSli

theorem Only.hearing (act : State → State) (h_sli : Fld.sli ∈ fs) (ha : ∀ u, Only fs s u → Only fs s (act u))
    (k : Only fs s t) : Only fs s (Machine.State.hearing t act) := by
  unfold Machine.State.hearing
  repeat' first
    | assumption
    | with_reducible first
      | apply ha | apply Only.onLine | apply Only.heard
    | split
    | intro _

theorem Only.filtered (sender : StationNo) (act : State → State) (h_sli : Fld.sli ∈ fs) (h_ssc : Fld.ssc ∈ fs) (ha : ∀
    u, Only fs s u → Only fs s (act u)) (k : Only fs s t) :
    Only fs s (Machine.filtered sender act t) := by
  unfold Machine.filtered
  repeat' first
    | assumption
    | with_reducible first
      | apply ha | apply Only.hearing | apply Only.enterConflict
    | split
    | intro _

theorem Only.reportHeard (sender : StationNo) (r : Report) (h_csq : Fld.csq ∈ fs) (h_due : Fld.due ∈ fs) (h_pes :
    Fld.pes ∈ fs) (h_ptb : Fld.ptb ∈ fs) (h_sli : Fld.sli ∈ fs) (h_syn : Fld.syn ∈ fs) (k : Only fs s t) :
    Only fs s (Machine.reportHeard sender r t) := by
  unfold Machine.reportHeard
  repeat' first
    | assumption
    | with_reducible first
      | apply Only.transferReport | apply Only.takeReport
    | split

theorem Only.conflictHeard (identity : BitVec 48) (contested : Byte) (h_due : Fld.due ∈ fs) (h_ptb : Fld.ptb ∈ fs)
    (h_sli : Fld.sli ∈ fs) (h_ssc : Fld.ssc ∈ fs) (k : Only fs s t) :
    Only fs s (Machine.conflictHeard identity contested t) := by
  unfold Machine.conflictHeard
  repeat' first
    | assumption
    | with_reducible first
      | apply Only.conflictFrame | apply Only.enterConflict
    | split

theorem Only.takeOwnRecord (h_ptb : Fld.ptb ∈ fs) (k : Only fs s t) :
    Only fs s (Machine.takeOwnRecord t) := by
  unfold Machine.takeOwnRecord
  repeat' first
    | assumption
    | with_reducible first
      | apply Only.withPtb

theorem Only.beginService (h_drc : Fld.drc ∈ fs) (h_due : Fld.due ∈ fs) (h_lsc : Fld.lsc ∈ fs) (h_ptb : Fld.ptb ∈ fs)
    (h_sli : Fld.sli ∈ fs) (k : Only fs s t) :
    Only fs s (Machine.beginService t) := by
  unfold Machine.beginService
  try dsimp only
  repeat' first
    | assumption
    | with_reducible first
      | apply Only.withLsc | apply Only.withDrc | apply Only.publishView | apply Only.addMark
      | apply Only.placeReport | apply Only.takeOwnRecord

theorem Only.enterSettingsFault (h_drc : Fld.drc ∈ fs) (h_due : Fld.due ∈ fs) (h_lsc : Fld.lsc ∈ fs) (h_ptb : Fld.ptb
    ∈ fs) (h_sli : Fld.sli ∈ fs) (h_ssc : Fld.ssc ∈ fs) (k : Only fs s t) :
    Only fs s (Machine.enterSettingsFault t) := by
  unfold Machine.enterSettingsFault
  repeat' first
    | assumption
    | with_reducible first
      | apply Only.withSsc | apply Only.beginService

theorem Only.startBreaker (h_bkc : Fld.bkc ∈ fs) (h_cds : Fld.cds ∈ fs) (h_csq : Fld.csq ∈ fs) (h_syn : Fld.syn ∈ fs)
    (k : Only fs s t) :
    Only fs s (Machine.startBreaker t) := by
  unfold Machine.startBreaker
  try dsimp only
  repeat' first
    | assumption
    | with_reducible first
      | apply Only.withBkc | apply Only.withSyn | apply Only.withCsq | apply Only.deriveBreaker

theorem Only.enterPresence (st : Settings) (clamped : Bool) (h_bkc : Fld.bkc ∈ fs) (h_cds : Fld.cds ∈ fs) (h_csq :
    Fld.csq ∈ fs) (h_drc : Fld.drc ∈ fs) (h_due : Fld.due ∈ fs) (h_lsc : Fld.lsc ∈ fs) (h_ptb : Fld.ptb ∈ fs)
    (h_settings : Fld.settings ∈ fs) (h_sli : Fld.sli ∈ fs) (h_ssc : Fld.ssc ∈ fs) (h_syn : Fld.syn ∈ fs) (k : Only fs
    s t) :
    Only fs s (Machine.enterPresence st clamped t) := by
  unfold Machine.enterPresence
  try dsimp only
  repeat' first
    | assumption
    | with_reducible first
      | apply Only.withSettings | apply Only.withSli | apply Only.withSsc | apply Only.beginService
      | apply Only.startBreaker

theorem Only.failAttempt (h_drc : Fld.drc ∈ fs) (h_due : Fld.due ∈ fs) (h_lsc : Fld.lsc ∈ fs) (h_ptb : Fld.ptb ∈ fs)
    (h_sli : Fld.sli ∈ fs) (h_ssc : Fld.ssc ∈ fs) (k : Only fs s t) :
    Only fs s (Machine.failAttempt t) := by
  unfold Machine.failAttempt
  repeat' first
    | assumption
    | with_reducible first
      | apply Only.withSsc | apply Only.enterSettingsFault
    | split

theorem Only.leaveAddressConflict (h_ssc : Fld.ssc ∈ fs) (k : Only fs s t) :
    Only fs s (Machine.leaveAddressConflict t) := by
  unfold Machine.leaveAddressConflict
  repeat' first
    | assumption
    | with_reducible first
      | apply Only.withSsc | apply Only.inForce
    | split
    | intro _

theorem Only.inputEvent (i : Input) (level : Bool) (h_sli : Fld.sli ∈ fs) (k : Only fs s t) :
    Only fs s (Machine.inputEvent i level t) := by
  unfold Machine.inputEvent
  repeat' first
    | assumption
    | with_reducible first
      | apply Only.withSli | apply Only.atWork
    | split
    | intro _

theorem Only.takeInput (i : Input) (level : Bool) (h_bkc : Fld.bkc ∈ fs) (h_cds : Fld.cds ∈ fs) (h_csq : Fld.csq ∈ fs)
    (h_drc : Fld.drc ∈ fs) (h_due : Fld.due ∈ fs) (h_pes : Fld.pes ∈ fs) (h_sli : Fld.sli ∈ fs) (h_syn : Fld.syn ∈ fs)
    (k : Only fs s t) :
    Only fs s (Machine.takeInput i level t) := by
  unfold Machine.takeInput
  repeat' first
    | assumption
    | with_reducible first
      | apply Only.csqGenReady | apply Only.extTripChange | apply Only.generalInputChange
      | apply Only.contactChange | apply Only.rackChange | apply Only.localOpen | apply Only.localClose
      | apply Only.localLockoutReset
    | split

theorem Only.debounced (i : Input) (h_bkc : Fld.bkc ∈ fs) (h_cds : Fld.cds ∈ fs) (h_csq : Fld.csq ∈ fs) (h_drc :
    Fld.drc ∈ fs) (h_due : Fld.due ∈ fs) (h_pes : Fld.pes ∈ fs) (h_sli : Fld.sli ∈ fs) (h_ssc : Fld.ssc ∈ fs) (h_syn :
    Fld.syn ∈ fs) (k : Only fs s t) :
    Only fs s (Machine.debounced i t) := by
  unfold Machine.debounced
  try dsimp only
  repeat' first
    | assumption
    | with_reducible first
      | apply Only.withSsc | apply Only.inputEvent | apply Only.takeInput
    | split

theorem Only.hears (r : Request) (act : State → State) (h_sli : Fld.sli ∈ fs) (ha : ∀ u, Only fs s u → Only fs s (act
    u)) (k : Only fs s t) :
    Only fs s (Machine.State.hears t r act) := by
  unfold Machine.State.hears
  repeat' first
    | assumption
    | with_reducible first
      | apply ha | apply Only.hearing
    | split
    | intro _

/-- The frame of a request's intake: the echo, and what the owner of its kind writes to. -/
theorem Only.intake (code : Byte) (known broadcastable : Bool) (r : Request) (owner : State → Answer)
    (h_sli : Fld.sli ∈ fs) (ha : ∀ u, Only fs s u → Only fs s (owner u).state) (k : Only fs s t) :
    Only fs s (Machine.intake code known broadcastable r owner t) := by
  unfold Machine.intake
  refine Only.hears _ _ h_sli (fun u hu => ?_) k
  split
  · refine Only.withSli h_sli ?_ _
    unfold judge
    repeat' first
      | exact hu
      | exact ha _ hu
      | split
  · exact hu

theorem Only.resetAlarms (h_bkc : Fld.bkc ∈ fs) (h_csq : Fld.csq ∈ fs) (h_due : Fld.due ∈ fs) (h_lsc : Fld.lsc ∈ fs)
    (h_sli : Fld.sli ∈ fs) (h_ssc : Fld.ssc ∈ fs) (h_syn : Fld.syn ∈ fs) (k : Only fs s t) :
    Only fs s (Machine.resetAlarms t) := by
  unfold Machine.resetAlarms
  try dsimp only
  repeat' first
    | assumption
    | with_reducible first
      | apply Only.withBkc | apply Only.withSyn | apply Only.csqResetAlarm

theorem Only.assign (n : StationNo) (h_due : Fld.due ∈ fs) (_ : Fld.lsc ∈ fs) (h_ptb : Fld.ptb ∈ fs) (h_sli :
    Fld.sli ∈ fs) (h_ssc : Fld.ssc ∈ fs) (k : Only fs s t) :
    Only fs s (Machine.assign n t) := by
  unfold Machine.assign
  try dsimp only
  repeat' first
    | assumption
    | with_reducible first
      | apply Only.withSli | apply Only.leaveConflict | apply Only.renumber | apply Only.leaveAddressConflict
    | split

theorem Only.observeAssignment (r : Request) (h_due : Fld.due ∈ fs) (h_ptb : Fld.ptb ∈ fs) (k : Only fs s t) :
    Only fs s (Machine.observeAssignment r t) := by
  unfold Machine.observeAssignment
  repeat' first
    | assumption
    | with_reducible first
      | apply Only.clearConflict
    | split

end Sys2Proof.Machine
end

