-- ==== Sys2Proof/WellFormed.lean ====
section
/-! DEFINITION. Which commands can arrive: the bounds that the manual sets on the values that come with them. The meanings
are total, so an ill-formed command has a meaning too; it stands for no event of the part. -/

namespace Sys2Proof

/-- A station's number, 1 to 31. -/
def stationNumber (n : StationNo) : Bool := n != 0

/-- A REQUEST payload holds 4 to 12 bytes, so at most 8 argument bytes (R93, R206). -/
def requestFits (r : Request) : Bool := decide (r.args.length ≤ 8)

/-- A kind byte beyond the list of request kinds (R206). -/
def unknownKind (kind : Byte) : Bool := decide (14 ≤ kind.toNat)

/-- The payload length of a DATA kind (R207). -/
def dataFits (kind : Byte) (payload : List Byte) : Bool :=
  (kind == 0 && payload.length == 103) || (kind == 1 && payload.length == 104)

/-- A station state and another that it becomes. -/
def changes (fromState toState : StationState) : Bool := fromState != toState

/-- The whole bytes of a frame are at most 1 + 6 + 2 + 104 + 2 (R84). -/
def frameFits (heard : List Byte) : Bool := decide (heard.length ≤ 115)

/-- An image is read from its header on, to a length of 2 bytes (R211). -/
def imageFits (image : List Byte) : Bool := decide (4 ≤ image.length) && decide (image.length ≤ 65535)

/-- The input and level of an INPUT_CHANGE event (R207). -/
def inputChangeFits (input level : Byte) : Bool := decide (input.toNat < 15) && decide (level.toNat ≤ 1)

/-- The well-formed commands. -/
def WellFormed : Instr → Bool
  | .settingsImageRead image => imageFits image
  | .frameDiscarded heard => frameFits heard
  | .tripNoticeReceived sender _ _ | .bfTransferReceived sender _ | .claimReceived sender _
  | .claimWithdrawReceived sender | .reportReceived sender _ | .captureTriggerEventReceived sender _ _ _
  | .presenceReceived sender _ => stationNumber sender
  | .inputChangeReceived sender input level _ => stationNumber sender && inputChangeFits input level
  | .dataReceived sender kind payload => stationNumber sender && dataFits kind payload
  | .openRequest r | .closeRequest r | .resetLockout r | .setMode r | .resetAlarm r | .transferTest r
  | .retransferInhibit r | .retransferNow r | .runDiagnostics r | .captureTrigger r | .captureDirectory r
  | .captureRead r | .captureRelease r | .assignNumber r => requestFits r
  | .unknownRequest kind r => unknownKind kind && requestFits r
  | .freshnessTimerExpiry n | .lossTimerExpiry n | .conflictClearExpiry n | .pesConflictMarking n
  | .transferOriginExpiry n => stationNumber n
  | .pesStationStateChange a b | .synStationStateChange a b | .lscStationStateChange a b => changes a b
  | .reset _ _ | .settingsNoAcknowledge | .settingsReadRetry | .presenceRepeatTimer | .presenceExpiry
  | .sampleStrobe _ | .cmeCycleRecord | .pesCycleEvaluation | .synCycleCompletion | .lscSlipCorrection
  | .csqCycleCompletion | .ptbMeasuredUpdate | .sscCycleCompletion | .drcBufferStore | .rawInputChange _ _
  | .debounceExpiry _ | .overtempRise | .overtempFall | .tripClaim _ _ | .openClaim _ | .closeClaim _
  | .closePulseEnd | .closingTimerExpiry | .tripPulseEnd | .stuckTimerExpiry | .discrepancyTimerExpiry
  | .bfTimerExpiry | .bfRecheckExpiry | .lockoutPulseEnd | .periodTimerExpiry | .diagnosticRetryExpiry
  | .diagnosticStepEnd _ | .cdsBreakerStateChange | .cdsStationStateChange | .lineFree | .arbitrationLost _
  | .transmitBitError | .frameCompleted | .conflictReceived _ _ | .conflictTimerExpiry | .reportTimerExpiry
  | .ptbSourcePublication _ | .synViewEvent | .synBreakerRecord | .syncTimerExpiry | .synRetryExpiry
  | .holdTimerExpiry | .yieldTimerExpiry | .refusalWaitExpiry | .avrPulseEnd | .avrSpacingExpiry
  | .lscSynPublication | .lscViewEvent | .lscBreakerRecord | .shareIntervalExpiry | .unloadTimerExpiry
  | .overlapDeadlineExpiry | .csqViewEvent | .csqBreakerRecord | .csqPesPublication | .csqSynOutcome _
  | .csqLscMode | .csqAutoEntry | .csqAutoExit | .failureConfirmExpiry | .retransferDelayExpiry
  | .overlapBackupExpiry | .startDelayExpiry | .startTimerExpiry | .cooldownExpiry | .shedDelayExpiry
  | .restoreWaitExpiry | .overloadTimerExpiry | .shedSettleExpiry | .drcTrigger _ _ | .govBiasPeriodStart => true

end Sys2Proof
end

