-- ==== Sys2Proof/Tests/Slice0.lean ====
section
/-! SUPPORT. The tests: each check of WellFormed refuses an ill-formed command, the manual's worked cases, and for each
statement with hypotheses a witness: concrete states and operands that meet them, clause by clause. -/

namespace Sys2Proof

open Machine

/-! ### Small states -/

/-- Default settings of a role, with VNOM 20000 and fnom 60. -/
def sett (role : Role) : Settings :=
  { station :=
      { role := role, sectionB := false, fnom := 60, vnom := 20000, livePm := 850, deadPm := 200, flp := some 80000000,
        ratedKw := 2000, autoInService := true, debounceMs := 4, changeMask := 32767 }
    pes :=
      { enables := 1023, action7 := if role = .incomer then .source else .trip, action8 := .disabled,
        action9 := .disabled, action10 := .disabled, pu3 := 20000, delay3 := 0, pu4 := 2000, delay4 := 5, pu5 := 1000,
        td := 30, rt := 60, rpPm := 50, delay6 := 100, pu7 := 16000, delay7 := 10, pu8 := 22000, delay8 := 10,
        pu9 := 59000, delay9 := 10, pu10 := 61000, delay10 := 10 }
    brk :=
      { closePulseMs := 120, bfMs := 150, bfpu := 400, lineVtFitted := true, driveLevel := .normal, diagPeriodS := 60,
        rminTrip := 20, rmaxTrip := 1000, rminClose := 20, rmaxClose := 1000 }
    syn := { voltageWindow := 50, slipWindow := 150, angleWindow := 1000, tcMs := 80, positiveSlipOnly := true }
    lsc :=
      { kp := 256, kf := 64, ks := 128, slipTarget := 50, retransferSlipTarget := 50, softRate := 100, unloadRate := 200,
        openThreshold := 50, unloadTimeoutS := 30, overlapLimitMs := 100 }
    csq :=
      { failureConfirmMs := 2000, retransferDelayS := 300, retransferClosed := true, startDelayS := 3, startTimeS := 20,
        cooldownS := 300, tieAuto := true, shedOnDeadBus := true, shedDelayMs := 500, priority := 8, expectedKw := 500,
        reserveKw := 0, addSettleMs := 2000, shedThreshold := 950, overloadDelayMs := 2000, shedSettleMs := 2000 }
    drc :=
      { pre := 4, post := 20, keep := false, enablePickup := true, enableTrip := true, enablePeer := true,
        enableRequest := true, enableGin := 0, levelGin := 0, crossOut := true } }

/-- The record of completion k+1 of the manual's synchronizing case. -/
def record : Record :=
  { cycle := 100, warmup := false
    rms := #v[some 19600, some 19600, some 19600, some 20000, some 500, some 500, some 500, some 0]
    ms := #v[some 384160000, some 384160000, some 384160000, some 400000000, some 250000, some 250000, some 250000,
      some 0]
    clipped := Vector.replicate 8 false, power := some 60000000, load := some 750, fLine := some 60097,
    fBus := some 60000, theta := some (-1277), line := .live, bus := .live }

/-- Station 7 of a role, in AUTO with a live record and its breaker OPEN, watching the line, at local time 5000. -/
def station (role : Role) : State :=
  { State.reset with
    localTime := 5000
    settings := some (sett role)
    cme := { Cme.reset with record := some record, warmCount := 2 }
    sli := { State.reset.sli with ownNumber := 7, watching := true }
    ssc := { State.reset.ssc with station := .auto, reading := false } }

/-- With another breaker state. -/
def Machine.State.atBreaker (s : State) (b : BreakerState) : State := { s with bkc := { s.bkc with state := b } }

/-- With another station state. -/
def Machine.State.atService (s : State) (x : StationState) : State := { s with ssc := { s.ssc with station := x } }

/-- With inputs debounced active. -/
def Machine.State.active (s : State) (l : List Input) : State :=
  { s with ssc := { s.ssc with debounced := l.foldl (fun v i => v.set (inputIdx i) true) s.ssc.debounced } }

/-- With an input whose raw level has come to differ from its debounced level, its timer about to expire. -/
def Machine.State.bouncing (s : State) (i : Input) : State :=
  { s with
    pins := { s.pins with raw := s.ssc.debounced.set (inputIdx i) (!s.input i) }
    ssc := { s.ssc with debounceTimers := s.ssc.debounceTimers.set (inputIdx i) (some 5004) } }

/-- With another record. -/
def Machine.State.measuring (s : State) (r : Record) : State := s.withCme { s.cme with record := some r }

/-- The role detail of a peer: of an incomer HEALTHY and with mode CLOSED, of the others clear. -/
def plainDetail : Role → RoleDetail
  | .incomer => .incomer (some .healthy) false false true
  | .generator => .generator
  | .tie => .tie { a := false, b := false }
  | .feeder => .feeder false

/-- A report of a peer. -/
def peerBody (role : Role) : ReportBody :=
  { role := role, sections := { a := true, b := false }, clamped := false, lockout := false, bf := false,
    failedToClose := false, stuckAlarm := false, closeCircuitFault := false, driveReduced := false,
    eventsLost := false, breaker := some .closed, line := .live, bus := .live, lastTrip := none, fLine := some 60000,
    fBus := some 60000, load := some 400, ratedKw := some 2500, feeder := none, csq := some .inactive, roleDetail := plainDetail role,
    startFailed := false, blocked := false, syncFailed := false, claim := some .none, theta := none, slip := none,
    pickedUp := 0, operated := 0, held := false, tripCircuit := some .ok, closeCircuit := some .ok, lastRun := none,
    recordsHeld := 0, full := false, newestSeq := none, echo := none, echoCount := 0, echoDetail := none,
    counters := Counters.zero }

/-- A FRESH entry with a report. -/
def freshEntry (b : ReportBody) : Entry :=
  { Entry.empty with
    state := .fresh, report := some { service := .auto, body := some b }, reportTime := some 4990,
    freshTimer := some 5050, lossTimer := some 5990, closedTime := some 4950, refresh := 3 }

/-- With an entry in the peer table. -/
def Machine.State.knowing (s : State) (n : StationNo) (e : Entry) : State :=
  { s with ptb := { s.ptb with entries := s.ptb.entries.set n e } }

/-- A request of station 3 to station 7. -/
def ask (code : Byte) (args : List Byte) : Request :=
  { header := 3, target := 7, origin := 3, args := args, check := crc8 (7 :: 3 :: code :: args) }

/-- Whether nothing is left to act on between commands, as a check. -/
def settledNow (s : State) : Bool :=
  (!s.zeroHolds || decide (s.lsc.toZero = s.lsc)) &&
    (s.ssc.station == .start || !s.sli.lineFree || s.sli.flight.isSome || s.sli.choice.isNone)

theorem settled_of_settledNow {s : State} (h : settledNow s = true) : Settled s := by
  simp only [settledNow, Bool.and_eq_true, Bool.or_eq_true, Bool.not_eq_true', decide_eq_true_eq, beq_iff_eq,
    Option.isNone_iff_eq_none] at h
  refine ⟨fun z => h.1.resolve_left (by simp [z]), fun hs hl hf => ?_⟩
  simpa [hs, hl, hf] using h.2

/-! ### WellFormed refuses -/

theorem test_image_too_short_is_refused : WellFormed (.settingsImageRead [0x46, 0x20, 0]) = false := by decide
theorem test_frame_too_long_is_refused : WellFormed (.frameDiscarded (List.replicate 116 0)) = false := by decide
theorem test_sender_zero_is_refused :
    WellFormed (.claimReceived 0 1) = false ∧ WellFormed (.presenceReceived 0 5) = false := by decide
theorem test_input_beyond_the_list_is_refused :
    WellFormed (.inputChangeReceived 3 15 1 0) = false ∧ WellFormed (.inputChangeReceived 3 14 2 0) = false := by decide
theorem test_data_of_another_length_is_refused :
    WellFormed (.dataReceived 3 0 (List.replicate 104 0)) = false ∧
      WellFormed (.dataReceived 3 1 (List.replicate 103 0)) = false := by decide
theorem test_nine_argument_bytes_are_refused :
    WellFormed (.openRequest (ask 0 (List.replicate 9 0))) = false := by decide
theorem test_known_kind_is_no_unknown_request :
    WellFormed (.unknownRequest 13 (ask 13 [])) = false ∧ WellFormed (.unknownRequest 14 (ask 14 [])) = true := by decide
theorem test_timer_of_no_station_is_refused : WellFormed (.lossTimerExpiry 0) = false := by decide
theorem test_change_to_the_same_state_is_refused :
    WellFormed (.pesStationStateChange .auto .auto) = false := by decide

/-! ### The machine -/

theorem test_no_word_spells_a_command : decodeTableWord 8 0 = none := by decide

theorem test_queue_is_first_in_first_out :
    ∃ t, step (State.reset.withPending [.overtempRise, .overtempFall]) = .next t ∧ t.pins.overTemp = true ∧
      t.pending = [.overtempFall] := ⟨_, rfl, by decide⟩

theorem witness_StepRunsTheFrontCommand :
    step (State.reset.withPending []) = .next ((State.reset.withPending []).withTime 1) := by rfl

theorem witness_EveryCommandRunsAndKeepsTheQueue :
    (∀ straps raw, Instr.overtempFall ≠ .reset straps raw) ∧ (station .feeder).ssc.station ≠ .start ∧
      ∃ t, exec .overtempFall (station .feeder) = .next t := ⟨nofun, by decide, _, rfl⟩

theorem witness_EveryCommandStaysInItsBlocks :
    (∃ t, exec .closePulseEnd (station .feeder) = .next t) ∧ Part.sli ∉ partsWritten .closePulseEnd ∧
      Part.bkc ∈ partsWritten .closePulseEnd := ⟨⟨_, rfl⟩, by decide, by decide⟩

/-! ### Measurement -/

/-- R2: tag, VALID bit 4 and OVERRANGE bit 3 below a 16-bit sample field, line by line of the table. -/
theorem witness_ConverterWordIsStoredByTheTable :
    (¬ (wordTag 0x123430#24 = 0 ∧ (0x123430#24).getLsbD 4 = true)) ∧
    (¬ (wordTag 0x123400#24 = 0 ∧ (0x123400#24).getLsbD 4 = true)) ∧
    (wordTag 0x000018#24 = 0 ∧ (0x000018#24).getLsbD 4 = true ∧ (0x000018#24).getLsbD 3 = true ∧
      wordSample 0x000018#24 = 0) ∧
    (wordTag 0xFFFF18#24 = 0 ∧ (0xFFFF18#24).getLsbD 3 = true ∧ wordSample 0xFFFF18#24 = -1) ∧
    (wordTag 0x800010#24 = 0 ∧ (0x800010#24).getLsbD 3 = false ∧ wordSample 0x800010#24 = -32768) ∧
    (wordTag 0x8001F0#24 = 7 ∧ (0x8001F0#24).getLsbD 3 = false ∧ wordSample 0x8001F0#24 = -32767) := by decide

theorem test_overrange_zero_is_stored_positive :
    storedSample 0 0x000018#24 = { value := 32767, valid := true } ∧ wordClips 0 0x000018#24 = true := by decide
theorem test_lowest_field_is_stored_one_higher :
    storedSample 0 0x800010#24 = { value := -32767, valid := true } ∧ wordClips 0 0x800010#24 = true := by decide

/-- A set of equal valid samples. -/
def flatSet (n : BitVec 32) (v : Int) : SampleSet := { count := n, samples := Vector.replicate 8 { value := v, valid := true } }

/-- The station with k positions of buffer A filled. -/
def filledTo (k : Nat) : State :=
  (station .feeder).withSiu
    { Siu.reset with bufA := { cycle := some 0, sets := List.replicate k (flatSet 0 5), clipped := Vector.replicate 8 false } }

theorem witness_SampleStrobeFillsOneBuffer :
    ∀ k ∈ [0, 1, 46, 47, 48], (filledTo k).settings = some (sett .feeder) ∧ (filledTo k).siu.filling.sets.length = k ∧
      settledNow (filledTo k) = true := by decide

/-- The station with a buffer handed on. -/
def handed (status : ConverterStatus) (sets : List SampleSet) : State :=
  (station .feeder).withSiu
    { Siu.reset with
      bufA := { cycle := some 151, sets := sets, clipped := Vector.replicate 8 false }
      handedB := some false, status := some status }

theorem witness_CycleRecordsAreMade :
    (∃ b, (handed .ok [flatSet 0 5]).siu.handed = some b ∧ (∀ x ∈ b.sets, ∀ c : Fin 8, x.samples[c].valid = true) ∧
      (handed .ok [flatSet 0 5]).siu.status = some .ok) ∧
    (let x : SampleSet := { count := 0, samples := Vector.replicate 8 { value := 0, valid := false } }
     ∃ b, (handed .lost [x]).siu.handed = some b ∧ b.sets ≠ [] ∧
      (∀ y ∈ b.sets, ∀ c : Fin 8, y.samples[c].valid = false) ∧ (handed .lost [x]).siu.status = some .lost ∧
      settledNow (handed .lost [x]) = true) := by
  refine ⟨⟨_, rfl, ?_, rfl⟩, ⟨_, rfl, ?_, ?_, rfl, ?_⟩⟩ <;> decide

/-- R9 and R11, worked case: MS 450000000 has RMS 21213; P 60000000 and P -20833333 give p 750 and -260. -/
theorem test_rms_and_load_case :
    isqrt 450000000 = 21213 ∧ loadOf (some 60000000) (some 80000000) = some 750 ∧
      loadOf (some (Int.tdiv (-1000000001) 48)) (some 80000000) = some (-260) := by decide

/-- R13, worked case: crossings at 1844064 and 1856281. -/
theorem test_crossing_case :
    crossing 7203 { value := -1500, valid := true } { value := 2500, valid := true } = some 1844064 ∧
      crossing 7251 { value := -400, valid := true } { value := 3600, valid := true } = some 1856281 := by decide

/-- R14 to R16, worked case: cycle 151 of a line at 50290 mHz against a bus at 50000 mHz. -/
def cycle151 : State :=
  let s := handed .ok ((List.range 48).map fun k =>
    { count := BitVec.ofNat 32 (7248 + k)
      samples := #v[{ value := if k < 4 then -400 else 3600, valid := true }, { value := 0, valid := true },
        { value := 0, valid := true }, { value := if k < 47 then -2000 else 1000, valid := true },
        { value := 0, valid := true }, { value := 0, valid := true }, { value := 0, valid := true },
        { value := 0, valid := true }] })
  { s with
    settings := some { sett .feeder with station := { (sett .feeder).station with fnom := 50 } }
    cme := { s.cme with
      lineHist := { t0 := some 1831800, t1 := some 1844064, age := some 0, last := some { value := -400, valid := true } }
      busHist := { t0 := some 1842858, t1 := some 1855146, age := some 0, last := some { value := -2000, valid := true } } } }

theorem witness_CycleRecordFrequenciesAndAngle :
    ∃ t, exec .cmeCycleRecord cycle151 = .next t ∧ t.cme.lineHist.t0 = some 1844064 ∧
      t.cme.lineHist.t1 = some 1856281 ∧ t.cme.busHist.t1 = some 1867434 ∧
      t.cme.record.map (fun r => (r.fLine, r.fBus, r.theta)) = some (some 50290, some 50000, some (-3325)) :=
  ⟨_, rfl, by decide⟩

/-- The two histories of a record: with a last sample kept before the buffer, and with none. -/
theorem witness_CycleRecordsAreMade_histories :
    ((cycle151.siu.handed.map fun b => (b.sets.length, b.sets.all fun x => x.samples.toList.all (·.valid))) =
        some (48, true) ∧ cycle151.siu.status = some .ok ∧
      cycle151.cme.lineHist.last = some { value := -400, valid := true } ∧
      (handed .ok [flatSet 0 5]).cme.lineHist.last = none) ∧
    (∃ t, exec .cmeCycleRecord cycle151 = .next t ∧ t.cme.lineHist.last = some { value := 3600, valid := true }) :=
  ⟨by decide, _, rfl, by decide⟩

theorem witness_CrossingsAreFoundAndAccepted :
    (let h : History := { t0 := none, t1 := some 1000, age := some 0, last := none }
     (∃ t1, h.t1 = some t1 ∧ ((7143 : CrossTime) - t1).toNat < 6144) ∧
     ¬ (∃ t1, h.t1 = some t1 ∧ ((7144 : CrossTime) - t1).toNat < 6144)) ∧
    History.empty.t1 = none ∧
    (crossing 0 { value := -5, valid := true } { value := 0, valid := true } = some 256) := by
  refine ⟨⟨⟨_, rfl, by decide⟩, ?_⟩, rfl, by decide⟩
  rintro ⟨t, h, k⟩; cases h; revert k; decide

theorem witness_RmsIsTheIntegerRoot :
    ((2 : Nat) ^ 32 - 1 < 2 ^ 32 ∧ isqrt (2 ^ 32 - 1) = 65535) ∧
    (let b : Buffer := { cycle := none, sets := List.replicate 48 (flatSet 0 32767), clipped := Vector.replicate 8 false }
     b.sets.length ≤ 48 ∧ b.meanSquare 0 = some 1073676289) := by decide

/-! ### Protection -/

theorem witness_DefiniteElementsCompareByTheTable :
    record.rms[4] = some 500 ∧ record.rms[5] = some 500 ∧ record.rms[6] = some 500 ∧ record.rms[7] = some 0 ∧
      record.load = some 750 ∧ record.rms[0] = some 19600 ∧ record.rms[1] = some 19600 ∧
      record.rms[2] = some 19600 ∧ record.fLine = some 60097 := by decide

/-- R26, worked levels: PU3 20000 drops below 19000, PU7 16000 above 16800, RP 50 above -48. -/
theorem test_pickup_and_dropout_levels :
    (∃ d, (sett .generator).pes.definite .e3 = some d ∧ d.holds 20000 = true ∧ d.holds 19999 = false ∧
      d.drops 19000 = false ∧ d.drops 18999 = true) ∧
    (∃ d, (sett .generator).pes.definite .e7 = some d ∧ d.holds 16000 = true ∧ d.holds 16001 = false ∧
      d.drops 16800 = false ∧ d.drops 16801 = true) ∧
    (∃ d, (sett .generator).pes.definite .e6 = some d ∧ d.holds (-50) = true ∧ d.holds (-49) = false ∧
      d.drops (-48) = false ∧ d.drops (-47) = true) := by
  refine ⟨⟨_, rfl, ?_⟩, ⟨_, rfl, ?_⟩, ⟨_, rfl, ?_⟩⟩ <;> decide

/-- A record in which the phase currents and the residual current are given. -/
def faulted (v n : Nat) : Record :=
  { record with
    rms := #v[some 19600, some 19600, some 19600, some 20000, some v, some v, some v, some n]
    ms := #v[some 384160000, some 384160000, some 384160000, some 400000000, some (v * v), some 250000, some 250000,
      some (n * n)] }

/-- The station with an element in a state. -/
def withElement (e : ElementNo) (x : ElState) (counter : Nat) (s : State) : State :=
  s.withPes (s.pes.set e { state := x, counter := counter, held := false })

theorem witness_DefiniteElementsFollowTheStepTable :
    let d := Definite.rmsOver 2000 5
    (sett .feeder).pes.definite .e4 = some d ∧ (sett .feeder).inService .e4 = true ∧
    (∀ s ∈ [withElement .e4 .dropped 0 (station .feeder), withElement .e4 .pickedUp 1 (station .feeder),
        withElement .e4 .pickedUp 5 (station .feeder), withElement .e4 .operated 6 (station .feeder)],
      s.ssc.station.protects = true ∧ blocked (sett .feeder) s.bkc.state .e4 = false) ∧
    (∀ v ∈ [1899, 1900, 1999, 2000],
      ((station .feeder).measuring (faulted 500 v)).cme.record = some (faulted 500 v) ∧
      (faulted 500 v).warmup = false ∧ (faulted 500 v).quantity .e4 = some (v : Int)) ∧
    d.holds 2000 = true ∧ d.holds 1999 = false ∧ d.drops 1899 = true ∧ d.drops 1900 = false := by decide

/-- R27: element 4 with delay 5 operates at the sixth cycle of its pickup. -/
theorem test_element_4_operates_at_the_sixth_cycle :
    ∃ t, exec .pesCycleEvaluation (withElement .e4 .pickedUp 5 ((station .feeder).measuring (faulted 500 2000))) = .next t ∧
      (t.pes.el .e4).state = .operated ∧ (t.pes.el .e4).counter = 6 ∧ .tripClaim .e4 0 ∈ t.due := ⟨_, rfl, by decide⟩

theorem witness_HeldBlockedAndInverseTimeElements :
    (sett .generator).inService .e7 = true ∧ 6 ≤ elementNumber .e7 ∧ (sett .generator).pes.action .e7 = .trip ∧
    (sett .feeder).inService .e6 = false ∧ (sett .feeder).inService .e5 = true ∧
    (station .generator).bkc.state ≠ .closed ∧ (station .generator).ssc.station.protects = true ∧
    ((station .feeder).measuring { record with warmup := true }).cme.record = some { record with warmup := true } ∧
    ({ record with fLine := none } : Record).quantity .e9 = none ∧ record.ms[4] = some 250000 ∧
    (faulted 1000 0).ms[4] = some 1000000 ∧ (faulted 1001 0).ms[4] = some 1002001 ∧
    ({ record with ms := Vector.replicate 8 none } : Record).ms[4] = none := by decide

/-- R30 and R31, case 1 and case 2: 27000000 plus 3000000 operates, and 18000000 decays by 500000. -/
theorem test_inverse_time_cases :
    Phase.step (sett .feeder).pes 4000000 { acc := 27000000, state := .timing } =
      { acc := 30000000, state := .operated } ∧
    Phase.step (sett .feeder).pes 250000 { acc := 18000000, state := .timing } =
      { acc := 17500000, state := .decaying } ∧
    Phase.step (sett .feeder).pes 900000000 { acc := 0, state := .idle } = { acc := 30000000, state := .operated } := by
  decide

/-- R30, case 5: the decay step is at least 1. -/
theorem test_smallest_decay_step :
    Phase.step { (sett .feeder).pes with pu5 := 50, td := 1, rt := 65535 } 0 { acc := 2500, state := .operated } =
      { acc := 2499, state := .decaying } := by decide

/-- Elements 3, 4 and 5 about to operate at one evaluation. -/
def operating (x : StationState) : State :=
  withElement .e4 .pickedUp 5 (((station .feeder).atService x).measuring (faulted 20000 2000))

theorem witness_OperationsClaimTrips :
    (operating .auto).cme.record = some (faulted 20000 2000) ∧ (operating .auto).ssc.station.protects = true ∧
    (operating .auto).ssc.station ≠ .test ∧
    newlyOperated (sett .feeder) (operating .auto).pes
      ((operating .auto).pes.evaluate (sett .feeder) (operating .auto).bkc.state (faulted 20000 2000)) = [.e3, .e4, .e5] ∧
    (let s := (station .feeder).bouncing .extTrip
     s.ssc.station.protects = true ∧ (sett .feeder).inService .e1 = true ∧
      s.ssc.debounceTimers[inputIdx .extTrip] = some 5004 ∧ s.pins.raw[inputIdx .extTrip] = true ∧
      s.input .extTrip = false ∧ (s.pes.el .e1).state = .dropped) ∧
    (let s := ((station .feeder).active [.extTrip]).bouncing .extTrip
     s.pins.raw[inputIdx .extTrip] = false ∧ s.input .extTrip = true) := by decide

theorem test_lowest_element_claims_with_its_phases :
    ∃ t, exec .pesCycleEvaluation (operating .auto) = .next t ∧ .tripClaim .e3 7 ∈ t.due ∧
      t.sli.noticeSlot = some { element := .e3, detail := 7 } := ⟨_, rfl, by decide⟩

/-- R42: element 4 is about to be picked up and none to operate. -/
def pickingUp : State := (station .feeder).measuring (faulted 500 2000)

theorem witness_OperationsClaimTrips_pickup :
    (pickingUp.settings = some (sett .feeder) ∧ pickingUp.cme.record = some (faulted 500 2000) ∧
      pickingUp.ssc.station.protects = true ∧ settledNow pickingUp = true ∧
      newlyOperated (sett .feeder) pickingUp.pes
        (pickingUp.pes.evaluate (sett .feeder) pickingUp.bkc.state (faulted 500 2000)) = [] ∧
      (pickingUp.pes.el .e4).state = .dropped) ∧
    (∃ t, exec .pesCycleEvaluation pickingUp = .next t ∧ (t.pes.el .e4).state = .pickedUp ∧
      .drcTrigger .pickup .e4 ∈ t.due) ∧
    -- a feeder's running sequence, before its trip
    (∀ q ∈ [CsqState.feederNormal, .shed, .restoring, .openManual, .tripped],
      let s := (operating .auto).withCsq { (operating .auto).csq with state := q }
      s.ssc.station = .auto ∧ s.csq.state = q ∧ q ≠ .inactive) := ⟨by decide, ⟨_, rfl, by decide⟩, by decide⟩

/-- R172: a protection trip takes a feeder's sequence from SHED to TRIPPED and forgets the cause. -/
theorem test_a_trip_takes_a_feeder_to_tripped :
    ∃ t, exec .pesCycleEvaluation ((operating .auto).withCsq
        { (operating .auto).csq with state := .shed, shedCause := some .overload }) = .next t ∧
      t.csq.state = .tripped ∧ t.csq.shedCause = none := ⟨_, rfl, by decide⟩

theorem witness_TestOperationsClaimNothing :
    (operating .test).ssc.station = .test ∧ settledNow (operating .test) = true ∧
    newlyOperated (sett .feeder) (operating .test).pes
      ((operating .test).pes.evaluate (sett .feeder) (operating .test).bkc.state (faulted 20000 2000)) = [.e3, .e4, .e5] ∧
    StationState.protects .test = true ∧ (operating .test).input .extTrip = false := by decide

/-- The station with EXT_TRIP active and element 1 in a state. -/
def tripped (role : Role) (x : ElState) : State := withElement .e1 x 0 ((station role).active [.extTrip])

theorem witness_TestOperationsClaimNothing_passages :
    -- into an inactive state, between active states, into and out of TEST, and from an inactive state to an active one
    (∀ p ∈ [(StationState.auto, StationState.settingsFault), (.auto, .addressConflict), (.manual, .test), (.test, .auto),
        (.presence, .warmup)],
      p.1 ≠ p.2 ∧ p.1.protects = (p.1 != .presence) ∧ p.2.protects = (p.2 != .settingsFault)) ∧
    (∀ x ∈ [ElState.dropped, .operated],
      let s := tripped .feeder x
      s.settings = some (sett .feeder) ∧ settledNow s = true ∧ (sett .feeder).inService .e1 = true ∧
        s.input .extTrip = true ∧ (s.pes.el .e1).state = x ∧ s.ssc.station = .auto ∧ s.sli.conflict = none) ∧
    ((station .feeder).input .extTrip = false ∧
      { sett .feeder with pes := { (sett .feeder).pes with enables := 0 } }.inService .e1 = false) ∧
    (let s := (tripped .feeder .dropped).withSli { (tripped .feeder .dropped).sli with conflict := some 7 }
     s.sli.conflict.isSome ∧ settledNow s = true) ∧
    (let s := (tripped .feeder .dropped).withCsq { (tripped .feeder .dropped).csq with state := .shed }
     s.csq.state ≠ .inactive ∧ settledNow s = true) := by decide

/-- R41: EXT_TRIP still active as TEST is left claims a trip, and as TEST is entered only triggers the recorder. -/
theorem test_ext_trip_at_a_passage :
    (∃ t, exec (.pesStationStateChange .test .auto) (tripped .feeder .operated) = .next t ∧
      .tripClaim .e1 0 ∈ t.due ∧ t.sli.noticeSlot = some { element := .e1, detail := 0 }) ∧
    (∃ t, exec (.pesStationStateChange .auto .test) (tripped .feeder .operated) = .next t ∧
      .tripClaim .e1 0 ∉ t.due ∧ .drcTrigger .trip .e1 ∈ t.due ∧ (t.pes.el .e1).state = .operated) :=
  ⟨⟨_, rfl, by decide⟩, _, rfl, by decide⟩

/-- The station with a transfer origin and element 2 operated. -/
def transferring : State :=
  let s := withElement .e2 .operated 0 (station .tie)
  s.withPes { s.pes with transfers := [{ station := 3, sections := { a := true, b := false }, confirmed := 4500 }] }

theorem witness_TransferOriginsComeAndGo :
    (∀ role ∈ [Role.tie, .feeder, .incomer], (station role).ssc.station.protects = true ∧
      (sett role).inService .e2 = true ∧ (station role).sli.conflict = none ∧ (3 : StationNo) ≠ (station role).sli.ownNumber ∧
      (station role).sli.watching = true) ∧
    (sett .incomer).station.sections.overlaps (sectionsOfByte 1) = true ∧
    (sett .incomer).station.sections.overlaps (sectionsOfByte 2) = false ∧
    ((station .tie).pes.el .e2).state = .dropped ∧ (transferring.pes.el .e2).state = .operated ∧
    transferring.pes.origin 3 = some { station := 3, sections := { a := true, b := false }, confirmed := 4500 } ∧
    settledNow transferring = true := by decide

/-- A set of 30 origins, one of which bears the own number 7. -/
def fullTransfers : State :=
  transferring.withPes { transferring.pes with
    transfers := ((List.finRange 32).filter fun n => n != 0 && n != 3).map fun n =>
      { station := n, sections := { a := true, b := false }, confirmed := 4500 } }

theorem witness_TransferOriginsComeAndGo_bound :
    (fullTransfers.pes.transfers.length = 30 ∧ (¬ ∃ o ∈ fullTransfers.pes.transfers, o.station = 3) ∧
      (fullTransfers.pes.transfers.filter fun o => o.station != fullTransfers.sli.ownNumber).length = 29 ∧
      (sett .tie).inService .e2 = true ∧ fullTransfers.sli.conflict = none) ∧
    (∃ t, exec (.bfTransferReceived 3 1) fullTransfers = .next t ∧ t.pes.transfers.length = 30 ∧
      t.pes.hasOrigin 3 = true ∧ t.pes.hasOrigin 7 = false) := ⟨by decide +kernel, _, rfl, by decide +kernel⟩

/-- A report with its BF flag as given. -/
def bfReport (bf : Bool) : Vector Byte 58 :=
  let l := encodeReport { service := .auto, body := some { peerBody .feeder with bf := bf } }
  Vector.ofFn fun k => l.getD k.val 0

theorem witness_TransferOriginsComeAndGo_reports :
    (∀ bf ∈ [true, false],
      (decodeReport (bfReport bf).toList).body = some { peerBody .feeder with bf := bf }) ∧
    (decodeReport (1 :: List.replicate 57 0)).body = none ∧
    (∀ s ∈ [transferring, station .incomer, station .feeder],
      s.ssc.station.protects = true ∧ s.ssc.station ≠ .test ∧ s.sli.conflict = none ∧ s.sli.ownNumber = 7 ∧
        s.sli.watching = true ∧ s.ptb.entries[(3 : StationNo)].state = .empty ∧ (s.pes.hasOrigin 3 = true ↔ s = transferring)) ∧
    (sett .incomer).station.sections.overlaps (peerBody .feeder).sections = true := by decide +kernel

/-- R35: a report with the flag set adds its station, and one with the flag clear removes the confirmed origin. -/
theorem test_a_report_adds_and_removes_an_origin :
    (∃ t, exec (.reportReceived 3 (bfReport true)) (station .incomer) = .next t ∧
      (t.pes.transfers.map fun o => o.station) = [3] ∧ (t.pes.el .e2).state = .operated) ∧
    (∃ t, exec (.reportReceived 3 (bfReport false)) transferring = .next t ∧ t.pes.transfers = [] ∧
      (t.pes.el .e2).state = .dropped) := ⟨⟨_, rfl, by decide +kernel⟩, _, rfl, by decide +kernel⟩

/-! ### Breaker and coils -/

theorem witness_TripAndOpenClaimsAreTaken :
    (∀ b ∈ [BreakerState.closed, .closing, .discrepant, .opening, .opened, .withdrawn, .stuckClosed],
      ((station .feeder).atBreaker b).settings = some (sett .feeder) ∧
      ((station .feeder).atBreaker b).ssc.station.atWork = true ∧ ((station .feeder).atBreaker b).bkc.state = b) ∧
    (station .feeder).bkc.tripPulse = none ∧
    ((station .feeder).withBkc { (station .feeder).bkc with state := .stuckClosed, tripPulse := some 5200 }).bkc.tripPulse.isSome
      = true := by decide

theorem witness_CloseClaimIsChecked :
    (let s := (station .feeder).active [.springOk]
     s.bkc.state = .opened ∧ s.ssc.station = .auto ∧ s.bkc.lockout = false ∧ s.input .springOk = true ∧
      s.bkc.closeCircuitFault = false ∧ s.cds.tripOut = false ∧ s.ssc.station.atWork = true) ∧
    (let r := { record with line := .dead }
     ((station .feeder).measuring r).cme.record = some r ∧ r.warmup = false ∧ r.bus = .live ∧ r.line ≠ .live) ∧
    (let r := { record with bus := .dead }
     ((station .generator).measuring r).cme.record = some r ∧ r.bus = .dead) ∧
    (station .feeder).input .springOk = false := by decide

theorem witness_BreakerPulsesAndTimersEnd :
    (let s := { station .feeder with
        bkc := { (station .feeder).bkc with closePulse := some 5100, tripPulse := some 5200,
                                            lockoutPulse := some { onSet := true, due := 5050 } }
        cds := { (station .feeder).cds with closeOut := true, tripOut := true } }
     settledNow s = true ∧ s.bkc.closePulse = some 5100 ∧ s.cds.closeOut = true ∧ s.bkc.tripPulse = some 5200 ∧
      s.cds.tripOut = true ∧ s.bkc.lockoutPulse = some { onSet := true, due := 5050 }) ∧
    (∀ b ∈ [BreakerState.closing, .opening, .opened, .closed],
      let s := (station .feeder).withBkc { (station .feeder).bkc with
        state := b, closingTimer := some 5250, stuckTimer := some 5250, discrepancyTimer := some 5250 }
      s.bkc.state = b ∧ s.bkc.closingTimer = some 5250 ∧ s.bkc.stuckTimer = some 5250 ∧
        s.bkc.discrepancyTimer = some 5250) := by decide

theorem witness_BreakerFailureIsDecided :
    (let s := (station .feeder).withBkc { (station .feeder).bkc with
        bfTimer := some { start := 5000, due := 5150 }, recheckTimer := some 5020, bfFlag := true }
     settledNow s = true ∧ s.bkc.bfTimer = some { start := 5000, due := 5150 } ∧ s.bkc.recheckTimer = some 5020 ∧
      s.bkc.state = .opened ∧ s.input .bkrClosed = false) ∧
    ((station .feeder).active [.bkrClosed]).input .bkrClosed = true ∧
    -- 400 counts are the BF pickup: 160000 does not exceed it, 160001 does
    (sett .feeder).brk.bfpu * (sett .feeder).brk.bfpu = 160000 ∧ (faulted 400 0).ms[4] = some 160000 ∧
    (faulted 401 0).ms[4] = some 160801 ∧ record.ms[5] = some 250000 := by decide

/-- Contacts, as the debounced inputs give them, and the input about to change. -/
def contactsMove (b : BreakerState) (on : List Input) (i : Input) : State :=
  (((station .feeder).atBreaker b).active on).bouncing i

theorem witness_BreakerFollowsItsContacts :
    (∀ b ∈ [BreakerState.opened, .closed, .discrepant, .closing, .opening, .stuckClosed, .withdrawn],
      -- to closed, to open, to transit and to contradictory
      ∀ x ∈ [([Input.rackedIn], Input.bkrClosed), ([.rackedIn], .bkrOpen), ([.rackedIn, .bkrOpen], .bkrOpen),
          ([.rackedIn, .bkrOpen], .bkrClosed)],
        (contactsMove b x.1 x.2).bkc.state = b ∧ (contactsMove b x.1 x.2).ssc.station.atWork = true ∧
        (contactsMove b x.1 x.2).ssc.debounceTimers[inputIdx x.2] = some 5004 ∧
        (contactsMove b x.1 x.2).pins.raw[inputIdx x.2] ≠ (contactsMove b x.1 x.2).input x.2) ∧
    (let s := contactsMove .opened [] .rackedIn
     s.ssc.debounceTimers[inputIdx .rackedIn] = some 5004 ∧ s.pins.raw[inputIdx .rackedIn] = true ∧
      s.input .rackedIn = false) ∧
    (let s := contactsMove .opened [.rackedIn] .rackedIn
     s.pins.raw[inputIdx .rackedIn] = false ∧ s.input .rackedIn = true) := by decide

theorem test_close_contact_ends_closing :
    ∃ t, exec (.debounceExpiry .bkrClosed) (contactsMove .closing [.rackedIn] .bkrClosed) = .next t ∧
      t.bkc.state = .closed := ⟨_, rfl, by decide⟩

/-- The station with its close coil energized, in CLOSING. -/
def closing : State :=
  { station .feeder with
    bkc := { (station .feeder).bkc with state := .closing, closePulse := some 5120, closingTimer := some 5250 }
    cds := { (station .feeder).cds with closeOut := true }
    pending := [.tripClaim .e3 7] }

/-- OPENING with its stuck timer about to expire, the contacts where the inputs put them. -/
def stuck (on : List Input) : State :=
  ((station .feeder).active on).withBkc
    { (station .feeder).bkc with state := .opening, tripPulse := some 5200, stuckTimer := some 5300 }

theorem witness_BreakerPulsesAndTimersEnd_contacts :
    (stuck [.rackedIn, .bkrClosed]).contacts = .closed ∧ (stuck [.rackedIn, .bkrOpen]).contacts = .opened ∧
    (∀ on ∈ [[Input.rackedIn, .bkrClosed], [.rackedIn, .bkrOpen]],
      (stuck on).bkc.stuckTimer = some 5300 ∧ (stuck on).bkc.state = .opening ∧ settledNow (stuck on) = true) := by decide

theorem test_stuck_closed_needs_contacts_not_open :
    (∃ t, exec .stuckTimerExpiry (stuck [.rackedIn, .bkrClosed]) = .next t ∧ t.bkc.state = .stuckClosed ∧
      t.bkc.stuckAlarm = true) ∧
    (∃ t, exec .stuckTimerExpiry (stuck [.rackedIn, .bkrOpen]) = .next t ∧ t.bkc.state = .opened ∧
      t.bkc.stuckAlarm = false) := ⟨⟨_, rfl, by decide⟩, _, rfl, by decide⟩

theorem witness_EveryStepKeepsTheCoilLaw :
    CoilsKept closing ∧ closing.cds.closeOut = true ∧
      ∃ t, step closing = .next t ∧ t.cds.closeOut = false ∧ t.cds.tripOut = true := by
  refine ⟨⟨by decide, by decide, by decide, by decide, by decide, nofun, ?_⟩, by decide, _, rfl, by decide⟩
  intro i f h; revert h; revert i; cases f <;> decide

theorem witness_DriveLevelAndDiagnosticsStart :
    (∀ l ∈ [DriveLevel.low, .normal, .high],
      let s := { station .feeder with cds := { (station .feeder).cds with tripOut := true, level := l } }
      settledNow s = true ∧ s.cds.tripOut = true ∧ s.cds.level = l) ∧
    (let s := (station .feeder).atBreaker .closed
     s.bkc.state = .closed ∧ s.cds.tripOut = false ∧ s.cds.closeOut = false ∧ s.ssc.station.atWork = true) ∧
    (let s := { station .feeder with cds := { (station .feeder).cds with periodTimer := some 6000, retryTimer := some 6000 } }
     s.cds.periodTimer = some 6000 ∧ s.cds.retryTimer = some 6000 ∧ settledNow s = true) ∧
    (let r : DiagRun := { circuit := .close, startState := .opened, step := 3, due := 5040 }
     let s := { station .feeder with cds := { (station .feeder).cds with run := some r } }
     s.cds.run = some r ∧ r.startState = s.bkc.state ∧ r.startState ≠ (s.atBreaker .closing).bkc.state) ∧
    (station .feeder).cds.periodStarted = false ∧
    { station .feeder with cds := { (station .feeder).cds with periodStarted := true } }.cds.periodStarted = true := by decide

/-- A station in TEST whose CDS has still to take the passages into AUTO and into TEST. -/
def passedOn : State := ((station .feeder).atService .test).withDue [.cdsStation .auto, .cdsStation .test]

theorem witness_DriveLevelAndDiagnosticsStart_passages :
    passedOn.due = [] ++ .cdsStation .auto :: [.cdsStation .test] ∧ passedOn.cds.periodStarted = false ∧
      settledNow passedOn = true ∧ (station .feeder).due = [] ∧ (station .feeder).ssc.station = .auto := by decide

/-- R76: the first passage into AUTO starts the period timer, also where the CDS takes it in TEST; the next one does not. -/
theorem test_first_passage_into_auto_starts_the_period :
    ∃ t, exec .cdsStationStateChange passedOn = .next t ∧ t.cds.periodTimer = some 65000 ∧ t.due = [.cdsStation .test] ∧
      ∃ u, exec .cdsStationStateChange { t with localTime := 9000 } = .next u ∧ u.cds.periodTimer = some 65000 :=
  ⟨_, rfl, by decide, by decide, _, rfl, by decide⟩

/-- The station in a step of a diagnostic run of its close circuit. -/
def testing (c : Coil) (k : Nat) : State :=
  { station .feeder with
    cds := { (station .feeder).cds with run := some { circuit := c, startState := .opened, step := k, due := 5010 } } }

theorem witness_DiagnosticStepsAreJudged :
    (∀ c ∈ [Coil.trip, .close], ∀ k ∈ [1, 2, 3, 4],
      settledNow (testing c k) = true ∧ (testing c k).settings = some (sett .feeder) ∧
      (testing c k).cds.run = some { circuit := c, startState := .opened, step := k, due := 5010 }) ∧
    DiagnosticsKept (testing .close 4) := by
  refine ⟨by decide, ?_, ?_⟩
  · intro r h; cases h; decide
  · intro i f h; revert h; revert i; cases f <;> decide

/-- R73 and R78: a coil of 20 ohms passes step 3 at its limits, and one of 19 is a short. -/
theorem test_resistance_limits :
    (∃ t, exec (.diagnosticStepEnd { heldAtSupply := false, pullDown := .followsCoil, ohms := 20, senseFault := false })
        (testing .trip 3) = .next t ∧ t.cds.steps[2] = .pass) ∧
    (∃ t, exec (.diagnosticStepEnd { heldAtSupply := false, pullDown := .followsCoil, ohms := 19, senseFault := false })
        (testing .trip 3) = .next t ∧ t.cds.steps[2] = .fail .short) := ⟨⟨_, rfl, by decide⟩, _, rfl, by decide⟩

/-! ### Synchronizer -/

/-- A generator with a held request, in a SYN state. -/
def synchronizing (x : SynState) : State :=
  (station .generator).withSyn
    { Syn.reset with state := x, request := some { requester := .operator, mode := .auto }, syncTimer := some 65000 }

/-- The completions k, k+1 and k+2 of the manual's synchronizing case. -/
def completion (theta : Int) (count : Nat) : State :=
  let s := (synchronizing .synchronizing).measuring { record with theta := some theta }
  s.withSyn { s.syn with permitCount := count }

theorem witness_SynchronizerTakesCycleCompletions :
    (∀ x ∈ [((-1335 : Int), 0), (-1277, 0), (-1218, 1)],
      let s := completion x.1 x.2
      s.cme.record = some { record with theta := some x.1 } ∧ s.syn.state = .synchronizing ∧ s.syn.closeInFlight = false ∧
        s.syn.closeTaken = false ∧ s.syn.refusalTimer = none ∧ s.syn.permitCount = x.2 ∧ x.2 ≤ 1) ∧
    (∀ k ∈ [0, 2, 3], ∀ b ∈ [LiveState.dead, .live], ∀ p ∈ [ClaimPhase.pending, .holding, .won],
      let s := (synchronizing .claiming).measuring { record with bus := b }
      let s := s.withSyn { s.syn with claim := some { sections := { a := true, b := false }, phase := p }, deadCount := k }
      s.syn.claim = some { sections := { a := true, b := false }, phase := p } ∧ s.syn.state = .claiming ∧ s.syn.deadCount = k) ∧
    ((synchronizing .yielded).syn.state = .yielded ∧ record.bus = .live ∧ record.warmup = false) := by decide

/-- The claimant of a CLOSE_CLAIM: a held request, a WON claim, a restoration. -/
theorem witness_CloseClaimIsChecked_claimants :
    (∀ on ∈ [[Input.springOk], []],
      let s := ((synchronizing .synchronizing).active on)
      s.syn.request.isSome ∧ s.bkc.state = .opened ∧ s.ssc.station = .auto ∧ s.bkc.lockout = false ∧
        s.cds.tripOut = false ∧ (s.input .springOk = true ↔ on ≠ [])) ∧
    (∀ on ∈ [[Input.springOk], []],
      let s := ((synchronizing .claiming).measuring { record with bus := .dead }).active on
      let s := s.withSyn { s.syn with claim := some { sections := { a := true, b := false }, phase := .won } }
      s.syn.claim = some { sections := { a := true, b := false }, phase := .won } ∧ s.sli.claimSlot = none ∧
        s.sli.conflict = none ∧ s.bkc.state = .opened ∧ (s.input .springOk = true ↔ on ≠ [])) ∧
    (∀ on ∈ [[Input.springOk], []],
      let s := ((station .feeder).measuring { record with line := .dead }).active on
      let s := s.withCsq { s.csq with state := .restoring }
      s.csq.state = .restoring ∧ s.bkc.state = .opened ∧ (s.input .springOk = true ↔ on ≠ [])) ∧
    (station .feeder).csq.state ≠ .restoring := by decide

/-- The SYN in its refusal wait at a completion with a permit. -/
def refused (theta : Int) (count : Nat) : State :=
  (completion theta count).withSyn { (completion theta count).syn with refusalTimer := some 6000 }

theorem witness_SynchronizerTakesCycleCompletions_refusal_wait :
    let s := refused (-1277) 0
    s.syn.state = .synchronizing ∧ s.syn.refusalTimer.isSome ∧ s.syn.closeInFlight = false ∧ s.syn.closeTaken = false ∧
      s.cme.record = some { record with theta := some (-1277) } ∧ permit (sett .generator) { record with theta := some (-1277) } ∧
      s.settings = some (sett .generator) ∧ settledNow s = true := by decide

/-- The claimant of a refused SYNC claim with a permit counted since the claim, and without one. -/
theorem witness_CloseClaimIsChecked_counted :
    ∀ k ∈ [0, 1], (completion (-1277) k).syn.permitCount = k ∧ (completion (-1277) k).syn.request.isSome ∧
      (completion (-1277) k).input .springOk = false ∧ (completion (-1277) k).ssc.station.atWork = true := by decide

/-- Answers to claims whose request, claim or restoration has ended: no request, no WON claim, no RESTORING. -/
theorem witness_CloseClaimIsChecked_ended :
    (∀ on ∈ [[Input.springOk], []],
      let s := ((station .generator).measuring { record with bus := .dead }).active on
      s.syn.request = none ∧ s.syn.claim = none ∧ s.ssc.station.atWork = true ∧ s.bkc.state = .opened ∧
        s.settings = some (sett .generator) ∧ (s.input .springOk = true ↔ on ≠ [])) ∧
    (station .feeder).csq.state ≠ .restoring := by decide

/-- R128: a permit counted before the refusal does not outlast the wait, so that the first one after it makes no claim. -/
theorem test_a_refused_sync_claim_needs_two_new_permits :
    ∃ t, exec (.closeClaim .sync) (completion (-1277) 1) = .next t ∧ t.syn.refusalTimer = some 6000 ∧
      t.syn.permitCount = 0 ∧
      ∃ u, exec .refusalWaitExpiry t = .next u ∧ u.syn.refusalTimer = none ∧
        ∃ v, exec .synCycleCompletion u = .next v ∧ v.syn.permitCount = 1 ∧ .closeClaim .sync ∉ v.due :=
  ⟨_, rfl, by decide, by decide, _, rfl, by decide, _, rfl, by decide, by decide⟩

/-- R126 to R128, worked case: θp is -1056 with no permit at k, -998 at k+1, and -939 with the SYNC claim at k+2. -/
theorem test_synchronizing_case :
    (∃ t, exec .synCycleCompletion (completion (-1335) 0) = .next t ∧ t.syn.permitCount = 0) ∧
    (∃ t, exec .synCycleCompletion (completion (-1277) 0) = .next t ∧ t.syn.permitCount = 1) ∧
    (∃ t, exec .synCycleCompletion (completion (-1218) 1) = .next t ∧ t.syn.permitCount = 0 ∧
      .closeClaim .sync ∈ t.due) := ⟨⟨_, rfl, by decide⟩, ⟨_, rfl, by decide⟩, _, rfl, by decide⟩

/-- R127: 17900 with an advance of 279 gives -17821. -/
theorem test_angle_is_reduced : reduceAngle (17900 + 279) = -17821 ∧ reduceAngle 18000 = 18000 ∧
    reduceAngle (-18000) = 18000 := by decide

theorem witness_VoltageRegulatorPulses :
    -- ΔV is -20, -25 and -26 permille of 20000: the window's half is 25
    (∀ v ∈ [19600, 19500, 19480],
      let s := (synchronizing .synchronizing).measuring { record with rms := record.rms.set 0 (some v) }
      s.syn.avrPulse = none ∧ s.syn.avrSpacing = none ∧ s.syn.request = some { requester := .operator, mode := .auto } ∧
        s.syn.closeInFlight = false ∧ s.syn.state = .synchronizing) ∧
    (let s := (synchronizing .synchronizing).withSyn
        { (synchronizing .synchronizing).syn with avrPulse := some 5200, avrSpacing := some 6000 }
     settledNow s = true ∧ s.syn.avrPulse = some 5200 ∧ s.syn.avrSpacing = some 6000) := by decide

/-- A generator ready to claim a dead bus, with its line live near nominal. -/
def eligible : State :=
  let s := (synchronizing .synchronizing).measuring { record with bus := .dead }
  (s.withSyn { s.syn with deadCount := 3 }).active [.genReady]

/-- The same with its claim made. -/
def claimingAt (p : ClaimPhase) : State :=
  eligible.withSyn { eligible.syn with
    state := .claiming, claim := some { sections := { a := true, b := false }, phase := p }, holdTimer := some 5060 }

/-- A lower-numbered station that claims section A. -/
def rival : Entry := { freshEntry (peerBody .generator) with claim := .claiming { a := true, b := false } }

theorem witness_ClaimsAreMadeAndYielded :
    (eligible.syn.state = .synchronizing ∧ eligible.syn.deadCount = 3 ∧ eligible.input .genReady = true ∧
      eligible.cme.record = some { record with bus := .dead } ∧ record.line = .live ∧ record.fLine = some 60097 ∧
      ((60097 : Int) - 60 * 1000).natAbs ≤ 500 ∧ eligible.syn.refusalTimer = none ∧ eligible.syn.closeInFlight = false ∧
      eligible.closedSources eligible.groupSections = [] ∧ eligible.claimsActive eligible.groupSections = []) ∧
    (let s := eligible.withSyn { eligible.syn with deadCount := 2 }
     s.syn.state = .synchronizing ∧ s.syn.deadCount ≠ 3) ∧
    (∀ p ∈ [ClaimPhase.pending, .holding, .won],
      let s := (claimingAt p).knowing 2 rival
      s.syn.state = .claiming ∧ s.syn.claim = some { sections := { a := true, b := false }, phase := p } ∧
        ((((s.claimsActive s.groupSections).filter fun m =>
          m.entry.claim.activeOn { a := true, b := false }).map fun m => m.number).filter fun n =>
          decide (n < s.sli.ownNumber)) = [2]) := by
  decide

/-- The same after a trip during CLOSING: the close was taken, is no longer in flight, and no record shows OPEN yet. -/
theorem witness_ClaimsAreMadeAndYielded_close_taken :
    let s := (eligible.withSyn { eligible.syn with closeTaken := true }).atBreaker .opening
    s.syn.closeTaken = true ∧ s.syn.closeInFlight = false ∧ s.syn.refusalTimer = none ∧ s.bkc.state = .opening ∧
      s.syn.state = .synchronizing ∧ s.syn.deadCount = 3 ∧ s.cme.record = some { record with bus := .dead } ∧
      s.closedSources s.groupSections = [] ∧ s.claimsActive s.groupSections = [] ∧ settledNow s = true := by decide

/-- The claim with its CLAIM waiting, with its source closed at a peer, and with a set that is not the claim sections. -/
theorem witness_ClaimsAreMadeAndYielded_withdrawal :
    (∀ p ∈ [ClaimPhase.pending, .holding],
      let s := (claimingAt p).knowing 3 (freshEntry { peerBody .generator with csq := some .online })
      s.syn.state = .claiming ∧ s.closedSources s.groupSections ≠ [] ∧ s.claimsActive s.groupSections = [] ∧
        settledNow s = true) ∧
    (let s := claimingAt .holding
     s.closedSources s.groupSections = [] ∧ s.groupSections = { a := true, b := false } ∧
      s.claimsActive s.groupSections = []) ∧
    (let s := (claimingAt .pending).withSyn { (claimingAt .pending).syn with
        claim := some { sections := { a := true, b := true }, phase := .pending } }
     s.groupSections ≠ { a := true, b := true } ∧ s.closedSources s.groupSections = []) ∧
    (let s := ((claimingAt .pending).withSli { (claimingAt .pending).sli with
        claimSlot := some (.claim { a := true, b := false }) }).knowing 2 rival
     s.sli.claimSlot = some (.claim { a := true, b := false }) ∧ s.sli.flight = none ∧ s.sli.conflict = none ∧
      settledNow s = true) := by decide

theorem witness_SynchronizerTimersEnd :
    (∀ k ∈ [3, 2], let s := (claimingAt .holding).withSyn { (claimingAt .holding).syn with deadCount := k }
      s.syn.holdTimer = some 5060 ∧ s.syn.claim.isSome = true ∧ s.syn.deadCount = k) ∧
    (∀ k ∈ [1, 2], let s := (synchronizing .synchronizing).withSyn { (synchronizing .synchronizing).syn with attempt := k }
      s.syn.syncTimer = some 65000 ∧ s.syn.request.isSome = true ∧ s.syn.attempt = k) ∧
    (let s := (synchronizing .idle).withSyn { (synchronizing .idle).syn with retryTimer := some 15000, syncTimer := none }
     s.syn.retryTimer = some 15000 ∧ s.syn.request.isSome = true ∧ s.settings.isSome = true) ∧
    (let s := (synchronizing .yielded).withSyn { (synchronizing .yielded).syn with yieldTimer := some 7000 }
     s.syn.yieldTimer = some 7000 ∧ s.syn.deadCount < 3) ∧
    (let s := (synchronizing .synchronizing).withSyn { (synchronizing .synchronizing).syn with refusalTimer := some 5500 }
     s.syn.refusalTimer = some 5500 ∧ s.syn.deadCount < 3) := by decide

theorem witness_CloseRequestsEnd :
    (∀ b ∈ [BreakerState.closed, .opened, .closing],
      ((synchronizing .synchronizing).atBreaker b).syn.request = some { requester := .operator, mode := .auto } ∧
      ((synchronizing .synchronizing).atBreaker b).bkc.state = b) ∧
    (let s := (synchronizing .synchronizing).withSyn { (synchronizing .synchronizing).syn with closeTaken := true }
     s.bkc.state = .opened ∧ s.syn.closeTaken = true) ∧
    (let s := (synchronizing .synchronizing).withBkc { (synchronizing .synchronizing).bkc with lockout := true }
     s.bkc.lockout = true ∧ s.syn.lockoutSeen = false ∧ s.syn.closeTaken = false) := by decide

theorem witness_CloseRequestsEnd_earlier_close :
    (let s := (synchronizing .synchronizing).withSyn { (synchronizing .synchronizing).syn with closeInFlight := true }
     s.syn.request.isSome ∧ s.bkc.state = .opened ∧ s.syn.closeInFlight = true ∧ s.syn.closeTaken = false ∧
      settledNow s = true) ∧
    (∃ t, exec .synBreakerRecord ((synchronizing .synchronizing).withSyn
        { (synchronizing .synchronizing).syn with closeInFlight := true }) = .next t ∧ t.syn.request = none ∧
      .csqSyn (some .closeFailed) ∈ t.due) := ⟨by decide, _, rfl, by decide⟩

/-- A generator whose WON claim the BKC has taken, its breaker CLOSING. -/
def closingOnClaim : State :=
  let s := claimingAt .won
  (s.withSyn { s.syn with closeTaken := true, holdTimer := none, syncTimer := none }).atBreaker .closing

theorem witness_CloseRequestsEnd_claims :
    (closingOnClaim.syn.request.isSome ∧ closingOnClaim.settings = some (sett .generator) ∧
      closingOnClaim.ssc.station.atWork = true ∧ closingOnClaim.bkc.state = .closing ∧
      closingOnClaim.syn.closeTaken = true ∧ closingOnClaim.syn.claim.isSome ∧ closingOnClaim.sli.claimSlot = none ∧
      closingOnClaim.sli.conflict = none ∧ settledNow closingOnClaim = true) ∧
    (∀ b ∈ [BreakerState.opened, .opening],
      ((synchronizing .synchronizing).atBreaker b).bkc.state ≠ .closing ∧
        settledNow ((synchronizing .synchronizing).atBreaker b) = true) := by decide

/-- R138: a trip during CLOSING leaves the request to the record that shows OPEN, which ends it as CLOSE_FAILED with a
CLAIM_WITHDRAW; the record of OPENING, with the lockout newly set, does not end it. -/
theorem test_trip_during_closing_is_a_failed_close :
    ∃ t, exec (.tripClaim .e3 1) closingOnClaim = .next t ∧ t.bkc.state = .opening ∧ t.bkc.lockout = true ∧
      ∃ u, exec .synBreakerRecord t = .next u ∧ u.syn.request.isSome ∧ u.syn.claim.isSome ∧
        ∃ v, exec .synBreakerRecord (u.atBreaker .opened) = .next v ∧ v.syn.request = none ∧
          v.sli.claimSlot = some .withdraw ∧ .csqSyn (some .closeFailed) ∈ v.due :=
  ⟨_, rfl, by decide, by decide, _, rfl, by decide, by decide, _, rfl, by decide, by decide, by decide⟩

/-- R124: an open claim taken during CLOSING cancels the request. -/
theorem test_open_during_closing_cancels :
    ∃ t, exec (.openClaim .localButton) closingOnClaim = .next t ∧ t.syn.request = none ∧
      .csqSyn (some .cancelled) ∈ t.due := ⟨_, rfl, by decide, by decide⟩

theorem witness_EveryStepKeepsTheSynchronizer :
    (let s := (claimingAt .holding).withPending [.holdTimerExpiry]
     SynKept s ∧ ∃ t, step s = .next t ∧ t.syn.claim = some { sections := { a := true, b := false }, phase := .won }) := by
  refine ⟨⟨by decide, by decide, by decide, by decide, by decide, by decide, by decide, by decide, ?_, by decide,
    by decide, by decide⟩, _, rfl, by decide⟩
  intro _; exact ⟨_, rfl, rfl⟩

/-! ### Load share -/

/-- A generator in AUTO with its breaker closed, in a mode. -/
def sharing (m : LscMode) : State :=
  { (station .generator).atBreaker .closed with
    lsc := { Lsc.reset with mode := m, bias := 120, shareTimer := some 5020, ramp := some 450,
                            unloadTimer := if m = .unload then some 35000 else none } }

theorem witness_BiasIsCorrectedHeldAndPutOut :
    (let s := synchronizing .synchronizing
     s.zeroHolds = false ∧ s.syn.correction = true ∧ s.lsc.mode = .zero ∧ s.cme.record = some record ∧
      record.fLine = some 60097 ∧ record.fBus = some 60000 ∧
      (s.withLsc { s.lsc with mode := .syncCorrect }).lsc.mode = .syncCorrect ∧ (sharing .share).syn.correction = false ∧
      (sharing .share).lsc.mode ≠ .zero) ∧
    (∀ m ∈ [LscMode.softLoad, .share, .unload, .hold],
      let o : OverlapDeadline := { due := 5100, running := true, claimed := false }
      let s := (sharing m).withLsc { (sharing m).lsc with overlap := some o, resume := if m = .hold then some .share else none }
      (s.atService .addressConflict).zeroHolds = false ∧ s.zeroHolds = false ∧ s.bkc.state = .closed ∧
        s.lsc.overlap.isSome = true ∧ (s.atService .addressConflict).ssc.station = .addressConflict ∧
        (m = .hold → s.lsc.resume = some .share ∧ s.ssc.station = .auto)) ∧
    settledNow (sharing .share) = true ∧ Instr.lineFree ≠ .govBiasPeriodStart := by decide

/-- The passage into ADDRESS_CONFLICT and back without an overlap deadline and without a closed incomer. -/
theorem witness_BiasIsCorrectedHeldAndPutOut_passage :
    (∀ m ∈ [LscMode.softLoad, .share, .unload, .hold, .zero],
      let s := (sharing m).atService .addressConflict
      s.zeroHolds = false ∧ settledNow s = true ∧ s.lsc.mode = m ∧ s.lsc.overlap = none ∧
        s.incomers s.groupSections = [] ∧ s.ssc.station = .addressConflict) ∧
    (∀ m ∈ [LscMode.softLoad, .share, .unload],
      let s := (sharing .hold).withLsc { (sharing .hold).lsc with resume := some m }
      s.zeroHolds = false ∧ settledNow s = true ∧ s.lsc.mode = .hold ∧ s.lsc.resume = some m ∧ s.ssc.station = .auto) ∧
    ((sharing .unload).lsc.mode = .unload ∧ (sharing .unload).zeroHolds = false) := by decide

/-- R155: an unload held through an address conflict has its timer again after the return. -/
theorem test_unload_timer_starts_again :
    ∃ t, exec (.lscStationStateChange .addressConflict .auto) (sharing .unload) = .next t ∧
      t.lsc.unloadTimer = some 35000 := ⟨_, rfl, by decide⟩

theorem test_bias_is_put_out :
    ∃ t, exec .govBiasPeriodStart (sharing .share) = .next t ∧ t.lsc.duty = 620 := ⟨_, rfl, by decide⟩

theorem witness_ShareIntervalWithoutLoadAndFrequencyError :
    (∀ m ∈ [LscMode.softLoad, .share, .unload, .hold, .syncCorrect],
      let s := (sharing m).measuring { record with load := none }
      s.zeroHolds = false ∧ s.ssc.station = .auto ∧ s.lsc.shareTimer = some 5020 ∧
        s.cme.record = some { record with load := none }) ∧
    (let s := (sharing .share).knowing 1 (freshEntry { peerBody .incomer with breaker := some .closed })
     (s.incomers s.groupSections).any (fun m => m.closed) = true) ∧
    (let s := (sharing .share).knowing 1 (freshEntry { peerBody .incomer with
        breaker := some .opened, csq := some .retransfer, roleDetail := .incomer (some .healthy) false false true, slip := some 30 })
     (s.incomers s.groupSections).any (fun m => m.closed) = false ∧ s.frequencyError (sett .generator) = 80) ∧
    (let s := (sharing .share).knowing 1 (freshEntry { peerBody .incomer with
        breaker := some .opened, csq := some .retransfer, roleDetail := .incomer (some .healthy) false false true, slip := none })
     (s.incomers s.groupSections).any (fun m => m.closed) = false ∧ s.frequencyError (sett .generator) = -97) := by decide

theorem witness_ShareIntervalIntegratesTheBias :
    (∀ m ∈ [LscMode.softLoad, .share, .unload], ∀ p ∈ [(50 : Int), 51, 750],
      let r := { record with load := some p }
      let s := (sharing m).measuring r
      s.zeroHolds = false ∧ s.ssc.station = .auto ∧ s.lsc.shareTimer = some 5020 ∧ s.cme.record = some r ∧
        r.warmup = false ∧ r.load = some p ∧ s.lsc.mode = m ∧ s.lsc.resume = none ∧ s.lsc.openClaimed = false ∧
        (((p, (sett .generator).station.ratedKw) :: s.freshLoads).map fun x => x.2).sum ≠ 0) ∧
    (let s := (sharing .hold).withLsc { (sharing .hold).lsc with resume := some .unload, openClaimed := true }
     s.lsc.mode = .hold ∧ s.lsc.resume = some .unload ∧ s.lsc.openClaimed = true) := by decide

/-- R148 and R151, worked case: G3 at p 600 with G5 at 400 has target 488 and bias 100. -/
theorem test_share_case :
    (let s := ((sharing .share).measuring { record with load := some 600, fLine := some 60000 }).knowing 5
        (freshEntry { peerBody .generator with csq := some .online })
     s.shareTarget (sett .generator) 600 = 488 ∧
      ∃ t, exec .shareIntervalExpiry s = .next t ∧ t.lsc.bias = 100) := ⟨by decide, _, rfl, by decide⟩

theorem witness_UnloadsEndAndOverlapsAreTimed :
    (let o : OverlapDeadline := { due := 5100, running := true, claimed := false }
     let s := (sharing .unload).withLsc { (sharing .unload).lsc with overlap := some o }
     s.zeroHolds = false ∧ s.lsc.unloadTimer = some 35000 ∧ s.lsc.unloading = true ∧ s.lsc.openClaimed = false ∧
      s.lsc.overlap = some o ∧ o.running = true ∧ o.claimed = false ∧ s.bkc.state ≠ .opened ∧ s.bkc.state ≠ .withdrawn ∧
      (let u := (synchronizing .synchronizing).withLsc { Lsc.reset with mode := .syncCorrect, overlap := some o }
       u.zeroHolds = false ∧ u.bkc.state = .opened ∧ u.lsc.overlap = some o)) ∧
    (∀ m ∈ [LscMode.softLoad, .share, .unload],
      let s := (sharing m).knowing 1 (freshEntry { peerBody .incomer with breaker := some .closed })
      (((s.incomers s.groupSections).filter fun m => m.entry.breaker == some .closed).filterMap fun m =>
        m.entry.closedTime) = [4950] ∧ s.lsc.overlap = none ∧ s.zeroHolds = false ∧
        ((5000 : Time) - 4950).toNat < (sett .generator).lsc.overlapLimitMs ∧ s.bkc.state = .closed) := by decide

/-- A generator at which two incomers of the group show their breakers closed since two times. -/
def overlapping (m : LscMode) (x y : Time) : State :=
  ((sharing m).knowing 1 { freshEntry (peerBody .incomer) with closedTime := some x }).knowing 3
    { freshEntry (peerBody .incomer) with closedTime := some y }

theorem witness_UnloadsEndAndOverlapsAreTimed_deadline :
    -- the time 99 ms past leaves one millisecond of the limit of 100, the time 100 ms past none
    (∀ x ∈ [(4901 : Time), 4900],
      let s := overlapping .share 4950 x
      (((s.incomers s.groupSections).filter fun m => m.entry.breaker == some .closed).filterMap fun m =>
        m.entry.closedTime) = [4950, x]) ∧
    ((5000 : Time) - 4950).toNat = 50 ∧ ((5000 : Time) - 4901).toNat = 99 ∧ ((5000 : Time) - 4900).toNat = 100 ∧
    (sett .generator).lsc.overlapLimitMs = 100 := by
  refine ⟨?_, rfl, rfl, rfl, rfl⟩
  intro x h
  simp only [List.mem_cons, List.not_mem_nil, or_false] at h
  rcases h with rfl | rfl <;> decide

theorem witness_UnloadsEndAndOverlapsAreTimed_modes :
    ∀ m ∈ [LscMode.share, .unload, .hold, .zero],
      let s := (overlapping m 4950 4900).withLsc
        { (overlapping m 4950 4900).lsc with resume := if m = .hold then some .share else none }
      s.ssc.station = .auto ∧ s.bkc.state = .closed ∧ s.lsc.overlap = none ∧ s.lsc.mode = m ∧
        s.sli.lineFree = false ∧ (m = .hold → s.lsc.resume = some .share) := by decide

/-- A generator in ADDRESS_CONFLICT, held from SHARE, with a deadline to set and a millisecond of it left. -/
def heldInConflict : State :=
  let s := (overlapping .hold 4950 4901).atService .addressConflict
  s.withLsc { s.lsc with resume := some .share, unloadTimer := none }

theorem witness_UnloadsEndAndOverlapsAreTimed_conflict :
    heldInConflict.ssc.station = .addressConflict ∧ heldInConflict.bkc.state = .closed ∧
      heldInConflict.lsc.overlap = none ∧ heldInConflict.lsc.mode = .hold ∧ heldInConflict.lsc.resume = some .share ∧
      heldInConflict.zeroHolds = false ∧ heldInConflict.lsc.unloadTimer = none ∧ settledNow heldInConflict = true ∧
      (((heldInConflict.incomers heldInConflict.groupSections).filter fun m =>
        m.entry.breaker == some .closed).filterMap fun m => m.entry.closedTime) = [4950, 4901] := by decide

/-- R153, R154: in ADDRESS_CONFLICT the deadline turns the held SHARE to an unload with its timer started, whose expiry
claims the open with HOLD standing. -/
theorem test_overlap_in_conflict_starts_the_unload_timer :
    ∃ t, exec .lscViewEvent heldInConflict = .next t ∧ t.lsc.mode = .hold ∧ t.lsc.resume = some .unload ∧
      t.lsc.unloadTimer = some 35000 ∧
      ∃ u, exec .unloadTimerExpiry t = .next u ∧ u.lsc.mode = .hold ∧ u.lsc.openClaimed = true ∧
        .openClaim .unload ∈ u.due :=
  ⟨_, rfl, by decide, by decide, by decide, _, rfl, by decide, by decide, by decide⟩

theorem witness_UnloadsEndAndOverlapsAreTimed_none :
    -- no deadline is possible with the breaker open; and with none closed there is none to set
    ((station .generator).bkc.state = .opened ∧ settledNow (station .generator) = true) ∧
    ((sharing .share).incomers (sharing .share).groupSections = [] ∧ settledNow (sharing .share) = true) ∧
    -- an unload that finds its timer, one that has claimed, and a timer that finds no unload
    (let s := (sharing .unload).withLsc { (sharing .unload).lsc with openClaimed := true }
     s.lsc.unloading = true ∧ s.lsc.openClaimed = true ∧ s.lsc.unloadTimer = some 35000 ∧ s.zeroHolds = false) ∧
    (let s := (sharing .share).withLsc { (sharing .share).lsc with unloadTimer := some 35000 }
     s.lsc.unloading = false ∧ s.lsc.unloadTimer = some 35000 ∧ s.zeroHolds = false) ∧
    (∀ c ∈ [true, false],
      let s := (sharing .share).withLsc { (sharing .share).lsc with
        overlap := some { due := 5100, running := false, claimed := c } }
      s.lsc.overlap = some { due := 5100, running := false, claimed := c } ∧ s.zeroHolds = false) := by decide

theorem test_overlap_without_time_left :
    ∃ t, exec .lscBreakerRecord (overlapping .share 4950 4900) = .next t ∧ .openClaim .unload ∈ t.due ∧
      t.lsc.overlap = some { due := 5000, running := false, claimed := true } := ⟨_, rfl, by decide⟩

/-- R154, worked case: the view that shows the closed incomer takes SHARE at p 450 to UNLOAD with the ramp at p. -/
theorem test_overlap_case :
    ∃ t, exec .lscViewEvent (((sharing .share).measuring { record with load := some 450 }).knowing 1
        { freshEntry { peerBody .incomer with breaker := some .closed } with closedTime := some 5000 }) = .next t ∧
      t.lsc.mode = .unload ∧ t.lsc.reason = some .overlap ∧ t.lsc.ramp = some 450 ∧
      t.lsc.overlap = some { due := 5100, running := true, claimed := false } ∧ t.lsc.unloadTimer = some 35000 :=
  ⟨_, rfl, by decide⟩

theorem witness_EveryStepKeepsTheBias :
    (let s := (sharing .share).withPending [.shareIntervalExpiry]
     BiasKept s ∧ ∃ t, step s = .next t ∧ t.lsc.bias ≠ s.lsc.bias) := by
  refine ⟨⟨by decide, by decide, by decide, by decide, ?_⟩, _, rfl, by decide⟩
  unfold ZeroSettled; decide

/-! ### Changeover -/

/-- A station in AUTO in a sequence state. -/
def inSequence (role : Role) (q : CsqState) : State :=
  let s := station role
  s.withCsq { s.csq with state := q }

theorem witness_SequenceIsSuspendedAndDerived :
    (∀ r ∈ [Requester.sequence, .operator],
      let s := (synchronizing .synchronizing).withSyn
        { (synchronizing .synchronizing).syn with request := some { requester := r, mode := .auto } }
      s.syn.request = some { requester := r, mode := .auto }) ∧
    (∀ role ∈ [Role.incomer, .generator, .tie, .feeder], ∀ b ∈ [BreakerState.closed, .stuckClosed, .opened],
      let s := (station role).atBreaker b
      s.settings = some (sett role) ∧ (sett role).station.role = role ∧ s.ssc.station = .auto ∧
        s.bkc.state.countsClosed = (b != .opened) ∧ s.csq.blocked = false ∧ s.csq.monitor = .healthy ∧
        s.csq.startFailed = false) ∧
    (∀ m ∈ [Monitor.healthy, .suspect, .failed],
      ((station .incomer).withCsq { (station .incomer).csq with monitor := m, blocked := true }).csq.monitor = m) ∧
    (station .generator).startCondition = true ∧ (station .generator).readiness (sett .generator) = false ∧
    ((station .generator).active [.genReady]).readiness (sett .generator) = true ∧
    ((station .generator).withBkc { (station .generator).bkc with lockout := true }).startCondition = false ∧
    (sharing .unload).lsc.unloading = true ∧ (sharing .share).lsc.unloading = false ∧
    (sett .tie).csq.tieAuto = true ∧
    (let s := (station .feeder).withBkc { (station .feeder).bkc with lockout := true, lastPurpose := some .protection }
     s.bkc.lockout = true ∧ s.bkc.lastPurpose = some .protection ∧ s.bkc.state.countsClosed = false) := by decide

/-- An incomer whose source elements stand in a state, at a monitor state. -/
def monitoring (m : Monitor) (x : ElState) (held : Bool) : State :=
  let s := inSequence .incomer .incNormal
  (s.withCsq { s.csq with monitor := m, confirmTimer := if m = .suspect then some 6000 else none }).withPes
    (s.pes.set .e7 { state := x, counter := 0, held := held })

theorem witness_SourceMonitorFollowsItsElements :
    (sett .incomer).sourceElements = [.e7] ∧
    (∀ m ∈ [Monitor.healthy, .suspect, .failed], ∀ x ∈ [ElState.dropped, .pickedUp, .operated], ∀ h ∈ [true, false],
      let s := monitoring m x h
      s.settings = some (sett .incomer) ∧ s.ssc.station.protects = true ∧ s.csq.monitor = m ∧
        (s.pes.el .e7).state = x ∧ (s.pes.el .e7).held = h ∧ s.csq.transferTest = false ∧
        s.csq.confirmTimer = if m = .suspect then some 6000 else none) ∧
    (let s := (monitoring .suspect .pickedUp false).withCsq
        { (monitoring .suspect .pickedUp false).csq with confirmTimer := none, confirmLeft := some 800 }
     s.csq.confirmLeft = some 800 ∧ s.csq.monitor = .suspect) ∧
    ((6000 : Time) - 5000).toNat < 2147483648 ∧ (monitoring .suspect .pickedUp false).csq.state = .incNormal := by decide

/-- The kinds of a PES publication that wait. -/
theorem witness_SourceMonitorFollowsItsElements_kinds :
    (∀ m ∈ [Monitor.healthy, .failed], ∀ q ∈ [CsqState.incNormal, .sourceLost],
      let s := { inSequence .incomer q with due := [.csqPes false] }
      let s := s.withCsq { s.csq with monitor := m }
      .csqPes false ∈ s.due ∧ .csqPes true ∉ s.due ∧ s.csq.monitor = m ∧ s.csq.state = q ∧ s.ssc.station = .auto) ∧
    (∀ d ∈ [[], [Delivery.csqPes true], [.csqPes false, .csqPes true]],
      let s := { monitoring .healthy .pickedUp false with due := d }
      ¬ (.csqPes false ∈ s.due ∧ .csqPes true ∉ s.due) ∧ s.ssc.station.protects = true) := by decide

/-- R157: an event of the PES other than an evaluation has the sequence act on the monitor as it stands. -/
theorem test_another_publication_leaves_the_monitor :
    ∃ t, exec .csqPesPublication { monitoring .failed .dropped false with due := [.csqPes false] } = .next t ∧
      t.csq.monitor = .failed ∧ t.csq.state = .sourceLost := ⟨_, rfl, by decide⟩

/-- An incomer in RETURNING whose delay expires. -/
def returning : State :=
  let s := inSequence .incomer .returning
  s.withCsq { s.csq with retransferDelay := some 5000 }

theorem witness_RetransferIsEnteredAndEnds :
    (returning.csq.state = .returning ∧ returning.csq.monitor = .healthy ∧ returning.csq.retransferDelay = some 5000 ∧
      returning.csq.inhibit = false ∧ returning.bkc.lockout = false ∧ returning.ssc.station = .auto ∧
      returning.syn.state ≠ .syncFailed) ∧
    (let s := returning.knowing 3 (freshEntry { peerBody .generator with csq := some .online })
     (s.closedSources s.groupSections).any (fun m => m.hasRole .generator) = true ∧
      (s.closedSources s.groupSections).all (fun m => !m.hasRole .incomer) = true ∧
      (sett .incomer).csq.retransferClosed = true) ∧
    (let s := returning.withCsq { returning.csq with inhibit := true }
     s.csq.inhibit = true) ∧
    (∀ q ∈ [CsqState.retransfer, .overlap],
      let s := inSequence .incomer q
      let t := s.knowing 3 (freshEntry (peerBody .generator))
      s.csq.state = q ∧ s.csq.monitor = .healthy ∧
        (s.closedSources s.groupSections).any (fun m => m.hasRole .generator) = false ∧
        (t.closedSources t.groupSections).any (fun m => m.hasRole .generator) = true) ∧
    (let s := inSequence .incomer .overlap
     (s.withCsq { s.csq with overlapBackup := some 5160 }).csq.overlapBackup = some 5160) := by decide

/-- RETURNING with the delay run out, held by the inhibit or the lockout. -/
def waiting (inhibit lockout : Bool) : State :=
  let s := (inSequence .incomer .returning).active [.remotePermit]
  { s with
    csq := { s.csq with delayRunOut := true, inhibit := inhibit, seenBreaker := .opened }
    bkc := { s.bkc with lockout := lockout } }

theorem witness_RetransferIsEnteredAndEnds_waits :
    (∀ i ∈ [true, false], ∀ l ∈ [true, false],
      let s := waiting i l
      s.csq.delayRunOut = true ∧ s.csq.inhibit = i ∧ s.bkc.lockout = l ∧ s.csq.seenBreaker = s.bkc.state ∧
        s.csq.state = .returning ∧ s.csq.monitor = .healthy ∧ s.sli.ownNumber = 7 ∧ s.ssc.station = .auto ∧
        s.input .remotePermit = true ∧ s.input .extTrip = false ∧ settledNow s = true) ∧
    (∀ e ∈ allElements, ((waiting false true).pes.el e).state = .dropped) ∧
    (ask 6 [0]).args = [0] ∧ (ask 2 []).args = [] ∧
    (let s := inSequence .incomer .retransfer
     (s.withCsq { s.csq with withdrawn := 1 }).csq.withdrawn = 1 ∧ s.csq.withdrawn = 0) := by decide

/-- An incomer in RETRANSFER or RETURNING whose source element is picked up, publications of the PES waiting or not. -/
def judged (q : CsqState) (test : Bool) (d : List Delivery) : State :=
  let s := inSequence .incomer q
  { s with
    due := d
    csq := { s.csq with transferTest := test }
    pes := s.pes.set .e7 { state := .pickedUp, counter := 1, held := false } }

theorem witness_RetransferIsEnteredAndEnds_monitor :
    (∀ q ∈ [CsqState.retransfer, .returning], ∀ k ∈ [true, false], ∀ d ∈ [[], [Delivery.csqPes false, .csqPes true]],
      let s := judged q k d
      s.csq.state = q ∧ (.csqPes false ∉ s.due ∨ .csqPes true ∈ s.due) ∧ s.csq.transferTest = k ∧
        (sett .incomer).sourceElements = [.e7] ∧ (s.pes.el .e7).held = false ∧ (s.pes.el .e7).state ≠ .dropped ∧
        s.cme.record = some record ∧ record.warmup = false ∧ s.syn.request = none) ∧
    (∀ q ∈ [CsqState.retransfer, .returning],
      let s := judged q true [.csqPes false]
      .csqPes false ∈ s.due ∧ .csqPes true ∉ s.due ∧ s.csq.state = q ∧ s.csq.delayRunOut = false) := by decide

/-- The same with a record in WARMUP, by which the evaluation is held, and a monitor that is not HEALTHY. -/
def heldAt (q : CsqState) (m : Monitor) : State :=
  let s := (judged q false []).measuring { record with warmup := true }
  s.withCsq { s.csq with monitor := m }

theorem witness_RetransferIsEnteredAndEnds_held :
    ∀ q ∈ [CsqState.retransfer, .returning], ∀ m ∈ [Monitor.suspect, .failed],
      (heldAt q m).csq.state = q ∧ (heldAt q m).csq.monitor = m ∧ (heldAt q m).csq.transferTest = false ∧
        (heldAt q m).cme.record = some { record with warmup := true } ∧ (heldAt q m).due = [] ∧
        (heldAt q m).settings = some (sett .incomer) ∧ (heldAt q m).ssc.station = .auto := by decide

/-- R160, R162, R164: a held evaluation leaves the monitor as it stands, and one that finds it FAILED ends both states. -/
theorem test_held_evaluation_ends_retransfer_and_returning :
    (∃ t, exec .csqPesPublication (heldAt .retransfer .failed) = .next t ∧ t.csq.state = .sourceLost ∧
      t.csq.monitor = .failed) ∧
    (∃ t, exec .csqPesPublication (heldAt .returning .failed) = .next t ∧ t.csq.state = .sourceLost) :=
  ⟨⟨_, rfl, by decide, by decide⟩, _, rfl, by decide⟩

/-- R161, R162, R164: the START of a transfer test leaves RETRANSFER as it is, with the monitor FAILED, and the next
evaluation ends it. -/
theorem test_transfer_test_in_retransfer_waits_for_the_evaluation :
    (∃ t, exec (.transferTest (ask 5 [0])) ((inSequence .incomer .retransfer).active [.remotePermit]) = .next t ∧
      t.csq.monitor = .failed ∧ t.csq.state = .retransfer) ∧
    (∃ t, exec .csqPesPublication (judged .retransfer true []) = .next t ∧ t.csq.state = .sourceLost) :=
  ⟨⟨_, rfl, by decide +kernel, by decide +kernel⟩, _, rfl, by decide⟩

/-- R162: the RETRANSFER_INHIBIT OFF that takes the last hold away enters RETRANSFER. -/
theorem test_inhibit_off_enters_retransfer :
    ∃ t, exec (.retransferInhibit (ask 6 [0])) (waiting true false) = .next t ∧ t.csq.state = .retransfer :=
  ⟨_, rfl, by decide +kernel⟩

theorem witness_GeneratorSequenceMoves :
    (let s := inSequence .generator .stopped
     let s := s.withCsq { s.csq with startDelay := some 5000 }
     s.csq.startDelay = some 5000 ∧ s.csq.state = .stopped ∧ s.startCondition = true ∧
      s.readiness (sett .generator) = false ∧ (s.active [.genReady]).readiness (sett .generator) = true) ∧
    (let s := inSequence .generator .starting
     (s.withCsq { s.csq with startTimer := some 5000 }).csq.startTimer = some 5000 ∧ s.csq.state = .starting) ∧
    (let s := inSequence .generator .cooldown
     (s.withCsq { s.csq with cooldown := some 5000 }).csq.cooldown = some 5000 ∧ s.csq.state = .cooldown) ∧
    (∀ q ∈ [CsqState.online, .unloading, .ready, .claiming, .synchronizing, .stopped, .starting, .cooldown, .startFailed],
      let s := inSequence .generator q
      s.csq.state = q ∧ s.lsc.unloading = false ∧ s.lsc.carrying = false ∧ s.bkc.state = .opened ∧
        (s.atBreaker .closed).bkc.state = .closed ∧ s.csq.seenBreaker ≠ .closed) ∧
    (sharing .unload).lsc.unloading = true ∧ (sharing .share).lsc.carrying = true := by decide

/-- R157, R167: while the latest record is WARMUP the readiness test fails, as without a record. -/
theorem test_warmup_record_is_not_ready :
    ((station .generator).active [.genReady]).readiness (sett .generator) = true ∧
    (((station .generator).active [.genReady]).measuring { record with warmup := true }).readiness (sett .generator) =
      false := by decide

theorem witness_GeneratorSequenceMoves_events :
    -- GEN_READY becomes active in STARTING, with the start condition and without it
    (∀ l ∈ [true, false],
      let s := (inSequence .generator .starting).bouncing .genReady
      let s := s.withBkc { s.bkc with lockout := l }
      s.csq.state = .starting ∧ s.ssc.debounceTimers[inputIdx .genReady] = some 5004 ∧
        s.pins.raw[inputIdx .genReady] = true ∧ s.input .genReady = false ∧ s.startCondition = !l) ∧
    (let s := (inSequence .generator .starting).active [.genReady]
     s.readiness (sett .generator) = true) ∧
    (let s := (inSequence .generator .starting).active [.genReady]
     (s.bouncing .genReady).pins.raw[inputIdx .genReady] = false ∧ s.readiness (sett .generator) = true ∧
      (inSequence .generator .starting).readiness (sett .generator) = false) ∧
    -- ONLINE with an incomer in RETRANSFER, mode OPEN and mode CLOSED
    (∀ k ∈ [true, false], ∀ m ∈ [LscMode.share, .unload, .zero],
      let s := (sharing m).withCsq { (sharing m).csq with state := .online }
      let s := s.knowing 1 (freshEntry { peerBody .incomer with
        breaker := some .opened, csq := some .retransfer, roleDetail := .incomer (some .healthy) false false k })
      s.csq.state = .online ∧ s.zeroHolds = false ∧ s.bkc.state = .closed ∧
        ((s.incomers s.groupSections).any fun m => m.csq == some .retransfer &&
          !(m.entry.body.any fun b => b.roleDetail.modeClosed)) = !k) ∧
    -- an outcome other than CLOSED, with the start condition and without it
    (∀ q ∈ [CsqState.ready, .claiming, .synchronizing],
      let s := inSequence .generator q
      s.csq.withdrawn = 0 ∧ s.startCondition = true ∧
        (s.withBkc { s.bkc with lockout := true }).startCondition = false) := by decide

/-- R169: an incomer in RETRANSFER with mode OPEN has an online generator unload. -/
theorem test_unload_order :
    ∃ t, exec .csqViewEvent (((sharing .share).withCsq { (sharing .share).csq with state := .online }).knowing 1
        (freshEntry { peerBody .incomer with
          breaker := some .opened, csq := some .retransfer, roleDetail := .incomer (some .healthy) false false false })) =
        .next t ∧ t.lsc.mode = .unload ∧ t.lsc.reason = some .retransferOpen ∧ t.csq.state = .unloading :=
  ⟨_, rfl, by decide⟩

/-- READY and its neighbours: the SYN free to take the request or held by the operator, with the start condition and
without it; and the peers that end the condition. -/
theorem witness_GeneratorSequenceMoves_handing :
    (∀ q ∈ [CsqState.ready, .claiming, .synchronizing],
      let s := inSequence .generator q
      s.csq.state = q ∧ s.startCondition = true ∧ s.syn.state = .idle ∧ s.syn.request = none ∧ s.csq.holding = false ∧
        s.bkc.lockout = false ∧ s.bkc.failedToClose = false ∧ s.ssc.station = .auto) ∧
    (∀ r ∈ [Requester.sequence, .operator], ∀ l ∈ [true, false],
      let s := (inSequence .generator .ready).withSyn
        { (synchronizing .synchronizing).syn with request := some { requester := r, mode := .auto } }
      let s := s.withBkc { s.bkc with lockout := l }
      s.startCondition = !l ∧ s.syn.state ≠ .idle ∧ s.syn.request = some { requester := r, mode := .auto }) ∧
    (∀ b ∈ [{ peerBody .incomer with breaker := some .closed },
        { peerBody .incomer with breaker := some .opened, csq := some .retransfer }],
      ((station .generator).knowing 1 (freshEntry b)).startCondition = false) ∧
    ((station .generator).knowing 1 (freshEntry { peerBody .incomer with
      breaker := some .opened, csq := some .sourceLost })).startCondition = true ∧
    -- 500 mHz from nominal is within the readiness, 501 is not
    ((station .generator).active [.genReady] |>.measuring { record with fLine := some 60500 }).readiness (sett .generator)
      = true ∧
    ((station .generator).active [.genReady] |>.measuring { record with fLine := some 60501 }).readiness (sett .generator)
      = false := by decide

/-- R168: READY hands its request to the SYN. -/
theorem test_ready_hands_the_request :
    ∃ t, exec .csqViewEvent (inSequence .generator .ready) = .next t ∧ t.csq.holding = true ∧
      (t.syn.request.map fun q => q.requester) = some .sequence ∧ t.syn.syncTimer = some 65000 := ⟨_, rfl, by decide⟩

/-- A tie with a dead section B whose incomer has lost its source, and an incomer in NORMAL on section A. -/
def tied (q : CsqState) : State :=
  (((inSequence .tie q).measuring { record with bus := .dead }).knowing 3 (freshEntry { peerBody .incomer with
      sections := { a := false, b := true }, breaker := some .opened, csq := some .sourceLost })).knowing 5
    (freshEntry { peerBody .incomer with csq := some .incNormal })

theorem witness_TieFeedsADeadSection :
    ((tied .openNormal).csq.state = .openNormal ∧ (tied .openNormal).cme.record = some { record with bus := .dead } ∧
      record.line = .live ∧
      ((tied .openNormal).incomers { a := false, b := true }).any
        (fun m => m.entry.state == .fresh && m.csq == some .sourceLost) = true ∧
      (tied .openNormal).onlineGenerators { a := false, b := true } = [] ∧
      (tied .openNormal).closedNormalIncomers { a := true, b := false } ≠ [] ∧ (tied .openNormal).bkc.lockout = false ∧
      (tied .openNormal).bkc.failedToClose = false ∧ (tied .openNormal).syn.failedAlarm = false ∧
      (tied .openNormal).syn.state = .idle ∧ (sett .tie).csq.tieAuto = true) ∧
    (let s := (inSequence .tie .closedAuto).knowing 3 (freshEntry { peerBody .incomer with
        sections := { a := false, b := true }, csq := some .retransfer })
     (s.incomers { a := false, b := true }).any (fun m => m.csq == some .retransfer) = true ∧
      ((inSequence .tie .closedAuto).incomers { a := false, b := true }) = []) ∧
    (inSequence .tie .closingAuto).csq.state = .closingAuto ∧
    ((inSequence .tie .closedManual).csq.state = .closedManual ∧ (inSequence .tie .closedManual).bkc.state = .opened ∧
      { (sett .tie).csq with tieAuto := false }.tieAuto = false) := by decide

theorem witness_TieFeedsADeadSection_again :
    (∀ q ∈ [CsqState.closingAuto, .closedAuto, .closedManual],
      let s := tied q
      s.csq.state = q ∧ s.bkc.state = .opened ∧ (sett .tie).csq.tieAuto = true ∧ s.csq.withdrawn = 0 ∧
        s.syn.state = .idle ∧ s.onlineGenerators { a := false, b := true } = [] ∧
        s.closedNormalIncomers { a := true, b := false } ≠ [] ∧ s.cme.record = some { record with bus := .dead }) ∧
    ((tied .closingAuto).atBreaker .closed).bkc.state = .closed ∧
    (let s := (tied .closingAuto).withSyn { (tied .closingAuto).syn with failedAlarm := true }
     s.syn.failedAlarm = true ∧ s.csq.state = .closingAuto) := by decide

/-- CLOSING_AUTO with its conditions kept, with one ceased, and with its claim WON. -/
theorem witness_TieFeedsADeadSection_withdrawal :
    (let s := tied .closingAuto
     s.csq.state = .closingAuto ∧ s.bkc.state = .opened ∧ s.syn.claim = none ∧
      ((s.incomers { a := false, b := true }).any fun m => m.entry.state == .fresh && m.csq == some .sourceLost) = true ∧
      s.bkc.lockout = false ∧ s.bkc.failedToClose = false ∧ s.syn.failedAlarm = false) ∧
    (∀ r ∈ [Requester.sequence, .operator],
      let s := inSequence .tie .closingAuto
      let s := s.withSyn { s.syn with state := .synchronizing, request := some { requester := r, mode := .auto } }
      s.csq.state = .closingAuto ∧ s.bkc.state = .opened ∧ s.incomers { a := false, b := true } = [] ∧
        s.syn.request = some { requester := r, mode := .auto }) ∧
    (let s := inSequence .tie .closingAuto
     let s := s.withSyn { s.syn with claim := some { sections := { a := true, b := false }, phase := .won } }
     s.syn.claim = some { sections := { a := true, b := false }, phase := .won } ∧
      s.incomers { a := false, b := true } = []) := by decide

/-- R170: with no incomer in SOURCE_LOST on section B, the tie withdraws the request it handed over. -/
theorem test_closing_auto_is_withdrawn :
    ∃ t, exec .csqViewEvent
        (let s := inSequence .tie .closingAuto
         (s.withCsq { s.csq with fedB := true, holding := true }).withSyn { s.syn with
           state := .synchronizing, request := some { requester := .sequence, mode := .auto }, syncTimer := some 65000 }) =
        .next t ∧ t.csq.state = .openNormal ∧ t.csq.fedB = false ∧ t.syn.request = none := ⟨_, rfl, by decide⟩

/-- A feeder with an overloaded group. -/
def shedding (q : CsqState) : State :=
  (inSequence .feeder q).knowing 3 (freshEntry { peerBody .generator with csq := some .online, load := some 951 })

theorem witness_FeedersShedAndRestore :
    (∀ k ∈ [true, false],
      let s := shedding .feederNormal
      let s := s.withCsq { s.csq with
        shedDelay := some 5000, overloadTimer := some 5000, overloadExpired := k, shedSettle := if k then some 5000 else none }
      s.csq.shedDelay = some 5000 ∧ s.csq.state = .feederNormal ∧ s.csq.overloadTimer = some 5000 ∧
        s.csq.shedSettle = (if k then some 5000 else none) ∧ s.csq.overloadExpired = k ∧
        s.overloaded (sett .feeder) = true) ∧
    -- at 950 the group is not overloaded
    ((inSequence .feeder .feederNormal).knowing 3 (freshEntry { peerBody .generator with
      csq := some .online, load := some 950 })).overloaded (sett .feeder) = false ∧
    -- a feeder of priority 9 in NORMAL is less important than this one of priority 8
    (let s := (shedding .feederNormal).knowing 4 (freshEntry { peerBody .feeder with
        csq := some .feederNormal, feeder := some (9, 100) })
     (s.feedersByPriority s.groupSections).any (fun m => m.priority == some 9 && m.csq == some .feederNormal) = true) ∧
    (let s := inSequence .feeder .shed
     (s.withCsq { s.csq with restoreWait := some 5000 }).csq.restoreWait = some 5000 ∧ s.csq.state = .shed) ∧
    -- the six conditions, with headroom 2500 kW × 600 permille
    (let s := (inSequence .feeder .shed).knowing 3 (freshEntry { peerBody .generator with csq := some .online })
     s.csq.state = .shed ∧ s.cme.record = some record ∧ record.bus = .live ∧ record.warmup = false ∧
      s.feedersByPriority s.groupSections = [] ∧ s.freshLoads = [(400, 2500)] ∧ s.csq.shedCause = none ∧
      s.ptb.addMark = none ∧ (s.onlineGenerators s.groupSections).all (fun m => decide (2 ≤ m.entry.refresh)) = true ∧
      s.bkc.lockout = false ∧ s.bkc.failedToClose = false ∧ s.csq.restoreWait = none) := by decide

theorem witness_FeedersShedAndRestore_records :
    (∀ q ∈ [CsqState.shed, .restoring, .openManual],
      let s := (inSequence .feeder q).atBreaker .closed
      s.csq.state = q ∧ s.bkc.state = .closed ∧ .openClaim .sequence ∉ s.due ∧
        .openClaim .sequence ∈ ({ s with due := [.openClaim .sequence] } : State).due) ∧
    (∀ p ∈ [Purpose.localButton, .uncommanded], ∀ q ∈ [CsqState.feederNormal, .shed, .restoring, .openManual],
      ∀ b ∈ [BreakerState.opened, .withdrawn],
      let s := inSequence .feeder q
      let s := s.withBkc { s.bkc with state := b, lastPurpose := some p }
      s.csq.state = q ∧ s.bkc.state = b ∧ s.bkc.lastPurpose = some p) ∧
    (∀ l ∈ [[], [(4 : StationNo)]],
      let s := (inSequence .feeder .feederNormal).knowing 4 (freshEntry { peerBody .feeder with csq := some .shed })
      let s := s.withCsq { s.csq with seenShed := l }
      s.csq.seenShed = l ∧ (((s.members s.groupSections).filter fun m =>
        m.hasRole .feeder && m.csq == some .shed).map fun m => m.number) = [4]) := by decide

/-- R175: a view taken outside AUTO is seen too, so that an old shed is none made anew after the entry into AUTO. -/
theorem test_an_old_shed_starts_no_settle_timer :
    ∃ t, exec .csqViewEvent ((station .feeder).knowing 4 (freshEntry { peerBody .feeder with csq := some .shed })) =
        .next t ∧ t.csq.seenShed = [4] ∧ t.csq.shedSettle = none := ⟨_, rfl, by decide⟩

/-- A restoration that was taken and failed, and TRIPPED with nothing that stands. -/
theorem witness_FeedersShedAndRestore_back :
    (∀ f ∈ [true, false],
      let s := inSequence .feeder .restoring
      let s := (s.withCsq { s.csq with restoreTaken := true }).withBkc
        { s.bkc with failedToClose := f, lastPurpose := some .feeder }
      s.csq.state = .restoring ∧ s.csq.restoreTaken = true ∧ s.bkc.state = .opened ∧
        s.bkc.lastPurpose ≠ some .localButton ∧ s.bkc.lastPurpose ≠ some .uncommanded ∧ s.bkc.failedToClose = f) ∧
    (∀ b ∈ [BreakerState.opened, .closed],
      let s := ((inSequence .feeder .tripped).active [.remotePermit]).atBreaker b
      s.csq.state = .tripped ∧ s.input .remotePermit = true ∧ s.input .extTrip = false ∧ s.bkc.state = b ∧
        (∀ e ∈ allElements, (s.pes.el e).state = .dropped) ∧ (ask 2 []).args = [] ∧ s.sli.ownNumber = 7) := by decide

/-- The shed delay and the overload timer: a dead bus or none, an overload or none, each timer running or not. -/
theorem witness_FeedersShedAndRestore_timers :
    (∀ b ∈ [LiveState.dead, .live], ∀ runs ∈ [true, false],
      let d : Timer := if runs then some 5400 else none
      let s := (inSequence .feeder .feederNormal).measuring { record with bus := b }
      let s := s.withCsq { s.csq with shedDelay := d }
      s.csq.shedDelay = d ∧ s.cme.record = some { record with bus := b } ∧ s.csq.state = .feederNormal) ∧
    (sett .feeder).csq.shedOnDeadBus = true ∧ { (sett .feeder).csq with shedOnDeadBus := false }.shedOnDeadBus = false ∧
    (∀ runs ∈ [true, false], ∀ k ∈ [true, false],
      let d : Timer := if runs then some 5400 else none
      let s := shedding .feederNormal
      let s := s.withCsq { s.csq with overloadTimer := d, overloadExpired := k }
      s.overloaded (sett .feeder) = true ∧ s.csq.overloadTimer = d ∧ s.csq.overloadExpired = k) ∧
    -- the group's mean is 951 permille with a threshold of 950; a closed incomer ends the overload
    (shedding .feederNormal).freshLoads = [(951, 2500)] ∧
    ((shedding .feederNormal).knowing 1 (freshEntry (peerBody .incomer))).overloaded (sett .feeder) = false ∧
    (inSequence .feeder .feederNormal).freshLoads = [] := by decide

/-- R172: a restoration taken before the CSQ took the record of its own OPEN reads NORMAL at the CLOSED record. -/
theorem test_a_restored_feeder_reads_normal :
    ∃ t, exec .csqBreakerRecord
        (let s := (inSequence .feeder .restoring).atBreaker .closed
         s.withCsq { s.csq with ownOpen := true, restoreTaken := true, shedCause := some .deadBus }) = .next t ∧
      t.csq.state = .feederNormal ∧ t.csq.shedCause = none := ⟨_, rfl, by decide⟩

/-! ### Recorder -/

/-- The station with a buffer handed on and a recorder state. -/
def recordingWith (d : Drc) : State := { handed .ok [flatSet 0 5] with drc := d }

/-- A COMPLETE record, and a FILLING one. -/
def descriptor (seq : BitVec 16) (filling : Bool) (chain : List BlockNo) : Descriptor :=
  { seq := seq, filling := filling, kind := .trip, detail := 3, start := 4000, preCount := 1, trigPos := 0,
    shortPre := true, extended := false, truncated := false, chain := chain }

theorem witness_EveryStepKeepsTheCaptureBlocks :
    (let s := (recordingWith Drc.reset).withPending [.drcBufferStore]
     RecorderKept s ∧ ∃ t, step s = .next t ∧ t.drc.ring = [0]) := by
  refine ⟨⟨by decide, by decide, by decide, by decide, by decide, ?_, ?_⟩, _, rfl, by decide⟩
  · intro r h; cases h
  · intro st h; cases h; decide

theorem witness_CyclesAreStored :
    (∀ d ∈ [Drc.reset, { Drc.reset with free := [9], ring := [0, 1, 2] }, { Drc.reset with ring := [0, 1, 2, 3] },
        { Drc.reset with free := [], ring := [0] }, { Drc.reset with free := [], ring := [] },
        { Drc.reset with free := [], ring := [0], records := [descriptor 0 false [5, 6]] }],
      (recordingWith d).drc = d ∧ (recordingWith d).siu.handed.isSome = true ∧ (recordingWith d).ssc.station.atWork = true ∧
        settledNow (recordingWith d) = true ∧ (∀ r ∈ d.records, r.filling = false) ∧ (∀ g : Fin 4, d.gin[g] = false)) ∧
    (∀ k ∈ [1, 2], ∀ f ∈ [[(7 : BlockNo)], []],
      let d : Drc := { Drc.reset with free := f, postCount := k, records := [descriptor 0 false [5], descriptor 1 true [6]] }
      d.records = [descriptor 0 false [5]] ++ descriptor 1 true [6] :: [] ∧ 1 ≤ d.postCount ∧
        (∀ x ∈ [descriptor 0 false [5]] ++ [], x.filling = false)) ∧
    (sett .feeder).drc.pre = 4 ∧ (sett .feeder).drc.keep = false := by decide

theorem witness_TriggersMakeOneRecord :
    (∀ d ∈ [Drc.reset, { Drc.reset with ring := [0, 1], free := [2] },
        { Drc.reset with records := (List.range 8).map fun k => descriptor (BitVec.ofNat 16 k) false [] }],
      (∀ r ∈ d.records, r.filling = false) ∧ (recordingWith d).ssc.station.atWork = true) ∧
    ((sett .feeder).drc.enablePickup = true ∧ (sett .feeder).drc.enableTrip = true ∧ (sett .feeder).drc.crossOut = true) ∧
    (∀ k ∈ [74, 75, 20, 19],
      let d : Drc := { Drc.reset with postCount := k, records := [descriptor 1 true [1, 2, 3, 4, 5]] }
      d.records = [] ++ descriptor 1 true [1, 2, 3, 4, 5] :: [] ∧ (d.postCount + 5 < 80 ↔ k ≠ 75)) ∧
    (let s := (recordingWith Drc.reset).knowing 3 (freshEntry (peerBody .feeder))
     s.inGroup 3 = true ∧ s.inGroup 4 = false ∧ (3 : StationNo) ≠ s.sli.ownNumber ∧ s.sli.watching = true ∧ s.drc.free ≠ [] ∧
      (sett .feeder).drc.enablePeer = true) := by decide

/-- The recording station with LEVEL inputs enabled and active. -/
def levelled (enabled : BitVec 4) (d : Drc) : State :=
  { recordingWith { d with gin := Vector.replicate 4 true } with
    settings := some { sett .feeder with drc := { (sett .feeder).drc with enableGin := enabled, levelGin := 15 } } }

theorem witness_CyclesAreStored_level :
    (∀ g : Fin 4, ∀ h : Fin 4,
      ((BitVec.twoPow 4 g.val).getLsbD h = true ∧ (15 : BitVec 4).getLsbD h = true ∧
        (levelled (BitVec.twoPow 4 g.val) Drc.reset).drc.gin[h] = true) ↔ h = g) ∧
    (let d : Drc := { Drc.reset with free := [9, 10], ring := [0, 1] }
     (levelled 2 d).ssc.station.atWork = true ∧ settledNow (levelled 2 d) = true ∧ (levelled 2 d).drc.free = [9, 10] ∧
      (levelled 2 d).drc.ring.length < 4 ∧ (levelled 2 d).drc.records = [] ∧ (levelled 2 d).drc.full = false ∧
      (levelled 2 d).siu.handed.isSome) ∧
    (let d : Drc := { Drc.reset with free := [9], postCount := 2, records := [descriptor 1 true [5]] }
     d.records = [] ++ descriptor 1 true [5] :: [] ∧ 2 ≤ d.postCount ∧
      (descriptor 1 true [5]).chain.length + d.postCount < 80) := by decide

/-- R182: a LEVEL input's record ends with the block just stored and names the input. -/
theorem test_level_trigger_creates_a_record :
    ∃ t, exec .drcBufferStore (levelled 2 { Drc.reset with free := [9, 10], ring := [0, 1] }) = .next t ∧
      (t.drc.records.map fun r => (r.kind, r.detail, r.chain)) = [(.input, 2, [0, 1, 9])] := ⟨_, rfl, by decide⟩

theorem witness_TriggersMakeOneRecord_inputs :
    (∀ x ∈ [(Input.gin1, (0 : Fin 4)), (.gin2, 1), (.gin3, 2), (.gin4, 3)], ∀ e ∈ [(0 : BitVec 4), 15],
      let s := (levelled e Drc.reset).bouncing x.1
      s.ssc.debounceTimers[inputIdx x.1] = some 5004 ∧ s.pins.raw[inputIdx x.1] = true ∧ s.input x.1 = false ∧
        settledNow s = true ∧ s.ssc.station.atWork = true ∧ s.drc.records = [] ∧ s.drc.full = false ∧
        s.drc.free ≠ [] ∧ (e.getLsbD x.2.val = true ↔ e = 15)) ∧
    (let s := ((levelled 15 Drc.reset).active [.gin1]).bouncing .gin1
     s.pins.raw[inputIdx .gin1] = false ∧ s.input .gin1 = true) ∧
    (let d : Drc := { Drc.reset with postCount := 2, records := [descriptor 1 true [5]] }
     (levelled 15 d).drc.records = [] ++ descriptor 1 true [5] :: [] ∧
      (descriptor 1 true [5]).chain.length + d.postCount < 80) := by decide

/-! ### Station link -/

theorem witness_EveryStepKeepsTheElements :
    (let s := (operating .auto).withPending [.pesCycleEvaluation]
     ProtectionKept s ∧ ∃ t, step s = .next t ∧ (t.pes.el .e4).state = .operated) := by
  refine ⟨⟨by decide, by decide, by decide, by decide, ?_⟩, _, rfl, by decide⟩
  intro st h
  cases h
  refine ⟨by decide, ?_⟩
  intro e d h
  cases e <;> cases h <;> decide

/-- The station with items waiting and a frame in flight. -/
def linked (f : Sli → Sli) : State := (station .feeder).withSli (f (station .feeder).sli)

/-- A frame in flight. -/
def flying (slot : Slot) : Flight := { slot := slot, replaced := false, carriesLost := false, frame := [] }

/-- Own and received report of a station in AUTO. -/
def report : Report := { service := .auto, body := some (peerBody .feeder) }

theorem witness_FramesTakeTheLineAndLeave :
    (∀ f ∈ [(fun l : Sli => { l with bfSlot := some { a := true, b := false } }),
        (fun l => { l with noticeSlot := some { element := .e3, detail := 7 } }),
        (fun l => { l with claimSlot := some (.claim { a := true, b := false }) }),
        (fun l => { l with claimSlot := some .withdraw }), (fun l => { l with reportSlot := some report }),
        (fun l => { l with events := [.inputChange .gin1 true 5000] }),
        (fun l => { l with data := [{ block := false, payload := [] }] }),
        (fun l => { l with presenceSlot := some .presence }), (fun l => l)],
      let s := linked f
      s.ssc.station ≠ .start ∧ s.sli.flight = none ∧ s.sli.conflict = none ∧ settledNow s = true) ∧
    (let s := linked fun l => { l with conflict := some 7, presenceSlot := some (.conflict 7) }
     s.sli.presenceSlot = some (.conflict 7) ∧ s.sli.conflict.isSome ∧ settledNow s = true) ∧
    (∀ k ∈ [Slot.bf, .notice, .claim, .report, .events, .data, .presence], ∀ r ∈ [true, false],
      let f : Flight := { flying k with replaced := r }
      (linked fun l => { l with flight := some f }).sli.flight = some f ∧ f.slot = k) ∧
    (let s := (claimingAt .pending).withSli { (claimingAt .pending).sli with
        claimSlot := some (.claim { a := true, b := false }), flight := some (flying .claim) }
     s.syn.claim = some { sections := { a := true, b := false }, phase := .pending } ∧ settledNow s = true) := by decide

/-- A station on a line that stands free, its report timer about to expire. -/
def onFreeLine : State :=
  let s := linked fun l => { l with lineFree := true }
  s.withPtb { s.ptb with reportTimer := some 5010 }

theorem witness_FramesTakeTheLineAndLeave_free_line :
    onFreeLine.ssc.station ≠ .start ∧ onFreeLine.sli.flight = none ∧ onFreeLine.sli.lineFree = true ∧
      onFreeLine.sli.conflict = none ∧ settledNow onFreeLine = true ∧ onFreeLine.ptb.reportTimer = some 5010 := by decide

/-- R83: a report placed on a free line is in flight at once. -/
theorem test_report_takes_the_free_line :
    ∃ t, exec .reportTimerExpiry onFreeLine = .next t ∧ t.sli.lineFree = false ∧
      (t.sli.flight.map fun f => f.slot) = some .report := ⟨_, rfl, by decide +kernel⟩

theorem witness_FramesTakeTheLineAndLeave_hearing :
    (let s := linked fun l => { l with reportSlot := some report, flight := some { flying .report with replaced := true } }
     s.ssc.station ≠ .start ∧ s.sli.watching = true ∧ s.sli.conflict = none ∧ (3 : StationNo) ≠ s.sli.ownNumber ∧
      settledNow s = true ∧ (afterHearing s.sli).choice = some .report) ∧
    (let s := linked fun l => { l with claimSlot := some .withdraw, flight := some { flying .claim with replaced := true } }
     (afterHearing s.sli).choice = none ∧ settledNow s = true) ∧
    ((afterHearing (station .feeder).sli).choice = none ∧ settledNow (station .feeder) = true) := by decide +kernel

/-- R83: a frame that is heard takes back the report begun before it; the next LINE_FREE begins that report again, and
the report it had replaced by then counts an overrun (R91). -/
theorem test_a_frame_heard_takes_back_the_own_frame :
    ∃ t, exec (.presenceReceived 3 1) (linked fun l =>
        { l with reportSlot := some report, flight := some { flying .report with replaced := true } }) = .next t ∧
      t.sli.flight = none ∧ t.sli.reportSlot.isSome ∧ t.sli.counters.overruns = 1 ∧
      ∃ u, exec .lineFree t = .next u ∧ (u.sli.flight.map fun f => (f.slot, f.replaced)) = some (.report, false) :=
  ⟨_, rfl, by decide +kernel, by decide +kernel, by decide +kernel, _, rfl, by decide +kernel⟩

/-- A report that shows no overrun and took the place of the one in flight, or that of one which did, with so many
overruns counted. -/
def overtaken (k : BitVec 16) : State :=
  linked fun l =>
    { l with
      reportSlot := some report, flight := some { flying .report with replaced := true }
      counters := { l.counters with overruns := k } }

/-- The overrun count that the waiting report shows. -/
def shownOverruns (s : State) : Option (Option (BitVec 16)) :=
  s.sli.reportSlot.map fun r => r.body.map fun b => b.counters.overruns

/-- R100, R105: the first report that took the place of a frame taken back shows the count as it stood; one placed over
that was built after it had counted, and shows one more. -/
theorem test_a_frame_heard_raises_the_count_shown :
    (∃ t, exec (.presenceReceived 3 1) (overtaken 0) = .next t ∧
      t.sli.counters.overruns = 1 ∧ shownOverruns t = some (some 0)) ∧
    (∃ t, exec (.presenceReceived 3 1) (overtaken 1) = .next t ∧
      t.sli.counters.overruns = 2 ∧ shownOverruns t = some (some 1)) :=
  ⟨⟨_, rfl, by decide +kernel, by decide +kernel⟩, _, rfl, by decide +kernel, by decide +kernel⟩

/-- R83, R135: a CLAIM given up while its frame had been begun is answered with CLAIM_WITHDRAW; where a frame that is heard
shows that the line was busy, the CLAIM had not begun, and the slot is left empty. -/
theorem test_a_frame_heard_takes_back_the_withdrawal :
    ∃ t, exec .syncTimerExpiry ((claimingAt .pending).withSli { (claimingAt .pending).sli with
        claimSlot := some (.claim { a := true, b := false }), flight := some (flying .claim) }) = .next t ∧
      t.sli.claimSlot = some .withdraw ∧
      ∃ u, exec (.presenceReceived 3 1) t = .next u ∧ u.sli.claimSlot = none ∧ u.sli.flight = none :=
  ⟨_, rfl, by decide, _, rfl, by decide, by decide⟩

/-- A station that has not seen the line free since the end of START. -/
def unwatching : State := linked fun l => { l with watching := false }

theorem witness_DiscardedFramesAreCounted_silent :
    (State.reset.ssc.station = .start ∧ settledNow State.reset = true) ∧
      (unwatching.sli.watching = false ∧ unwatching.ssc.station ≠ .start ∧ settledNow unwatching = true) := by decide

/-- R83: of a frame that began before the line was first free, even one with the own number, no part is taken. -/
theorem test_a_frame_before_the_first_free_line :
    exec (.claimReceived 7 1) unwatching = .next unwatching ∧
      ∃ t, exec .lineFree unwatching = .next t ∧ t.sli.watching = true ∧ t.sli.lineFree = true := by
  refine ⟨rfl, _, rfl, by decide, by decide⟩

theorem witness_DiscardedFramesAreCounted :
    (station .feeder).sli.watching = true ∧
    (discardFault ((frameBytes 1 3 [] 1 []).take 4 ++ [0, 0]) = some .crc ∧
      discardFault (frameBytes 1 3 [] 2 []) = some .format ∧ settledNow (station .feeder) = true) ∧
    (kindLengths 7 0 = some [1] ∧ (be48 5).length = 6 ∧ kindLengths 5 1 = some [104] ∧
      (List.replicate 104 (0 : Byte)).length = 104) := by decide +kernel

/-- The two checks over the digits 1 to 9, calculated outside the model by the words of R87 and R93. -/
theorem test_checks_of_the_digits :
    crc16 [0x31, 0x32, 0x33, 0x34, 0x35, 0x36, 0x37, 0x38, 0x39] = 0xD7D7#16 ∧
    crc8 [0x31, 0x32, 0x33, 0x34, 0x35, 0x36, 0x37, 0x38, 0x39] = 0x06#8 := by decide +kernel

theorem witness_ConflictsAreEnteredAndRepeated :
    ((station .feeder).sli.conflict = none ∧ (station .feeder).sli.ownNumber = 7 ∧
      (station .feeder).sli.watching = true ∧ (station .feeder).pins.identity ≠ 1 ∧ ((station .feeder).atService .settingsFault).ssc.station ≠ .start ∧
      (linked fun l => { l with flight := some (flying .presence) }).sli.flight = some (flying .presence)) ∧
    (let s := linked fun l => { l with conflict := some 7, conflictTimer := some 5900 }
     s.sli.conflict = some 7 ∧ s.sli.conflictTimer = some 5900 ∧ settledNow s = true) ∧
    (∀ k ∈ [1, 2], let s := linked fun l => { l with presenceTimer := some 5010, presenceLeft := k }
     s.sli.presenceTimer = some 5010 ∧ (2 ≤ s.sli.presenceLeft ↔ k = 2)) := by decide

theorem witness_ConflictsAreEnteredAndRepeated_line :
    (let l : Sli := { (station .feeder).sli with presenceSlot := some .presence, lineFree := true }
     l.flight = none ∧ l.choice = some .presence) ∧
    (let s := linked fun l => { l with presenceTimer := some 5010, presenceLeft := 1, lineFree := true }
     s.sli.presenceTimer = some 5010 ∧ s.sli.lineFree = true ∧ settledNow s = true) ∧
    (let s := linked fun l => { l with presenceTimer := some 5010, presenceLeft := 1, flight := some (flying .report) }
     s.sli.flight.isSome ∧ settledNow s = true) := by decide

theorem witness_EveryStepKeepsTheLink :
    (let s := (station .feeder).withPending [.presenceReceived 7 1]
     LinkKept s ∧ ∃ t, step s = .next t ∧ t.sli.conflict = some 7) := by
  refine ⟨?_, _, rfl, by decide⟩
  exact ⟨by decide, by decide, by decide, by decide, by decide, nofun, fun _ h => absurd h (by decide)⟩

/-! ### Peer table -/

/-- An entry that is CONFLICTED. -/
def conflictedEntry (cleared : Bool) : Entry :=
  { Entry.empty with
    state := .conflicted, conflict := some { time := 4900, cleared := cleared, clearTimer := if cleared then none else some 9900 } }

/-- The payload of a report of a feeder that shows a breaker state. -/
def payloadOf (b : BreakerState) : List Byte :=
  encodeReport { report with body := some { peerBody .feeder with breaker := some b } }

theorem witness_EntriesFollowTheirReports :
    (∀ e ∈ [Entry.empty, conflictedEntry false, conflictedEntry true, freshEntry (peerBody .feeder),
        { freshEntry (peerBody .feeder) with state := .stale, freshTimer := none },
        freshEntry { peerBody .feeder with breaker := some .opened }],
      let s := (station .feeder).knowing 3 e
      s.ssc.station ≠ .start ∧ s.sli.watching = true ∧ (3 : StationNo) ≠ s.sli.ownNumber ∧
        s.ptb.entries[(3 : StationNo)] = e ∧
        settledNow s = true) ∧
    (∀ b ∈ [BreakerState.closed, .opened], (payloadOf b).length = 58 ∧
      decodeReport (payloadOf b) = { report with body := some { peerBody .feeder with breaker := some b } }) ∧
    (decodeReport (1 :: List.replicate 57 0)).body = none ∧
    ((freshEntry (peerBody .feeder)).freshTimer = some 5050 ∧ (freshEntry (peerBody .feeder)).lossTimer = some 5990) ∧
    (conflictedEntry false).conflict = some { time := 4900, cleared := false, clearTimer := some 9900 } := by decide

/-- The view of station 7 on section A: an incomer, a generator and two feeders of it, one station on section B, one
STALE entry, one LOST, and section B joined by a closed tie. -/
def viewing (tie : BreakerState) : State :=
  let on : StationNo → Entry → State → State := fun n e s => s.knowing n e
  let other : SectionSet := { a := false, b := true }
  (station .generator)
    |> on 1 (freshEntry { peerBody .incomer with csq := some .incNormal })
    |> on 2 { freshEntry { peerBody .generator with csq := some .online } with state := .stale }
    |> on 3 (freshEntry { peerBody .feeder with feeder := some (9, 100) })
    |> on 4 (freshEntry { peerBody .feeder with feeder := some (2, 100) })
    |> on 5 (freshEntry { peerBody .generator with csq := some .online, sections := other })
    |> on 6 { freshEntry { peerBody .generator with csq := some .online } with state := .lost }
    |> on 8 (freshEntry { peerBody .tie with breaker := some tie })
    |> on 9 { freshEntry (peerBody .feeder) with claim := .claiming { a := true, b := false } }

/-- R115 to R118: what that view shows with the tie open, and with it closed. -/
theorem test_view_case :
    (let s := viewing .opened
     let x := s.groupSections
     s.joined = false ∧ x = { a := true, b := false } ∧ ((s.members x).map fun m => m.number) = [1, 2, 3, 4, 8, 9] ∧
      ((s.closedSources x).map fun m => m.number) = [1, 2] ∧ ((s.onlineGenerators x).map fun m => m.number) = [2] ∧
      ((s.feedersByPriority x).map fun m => m.number) = [4, 3] ∧ ((s.claimsActive x).map fun m => m.number) = [9] ∧
      s.freshLoads = []) ∧
    (let s := viewing .discrepant
     let x := s.groupSections
     s.joined = true ∧ x = { a := true, b := true } ∧ ((s.onlineGenerators x).map fun m => m.number) = [2, 5] ∧
      s.freshLoads = [(400, 2500)]) := by decide

theorem witness_ClaimFramesAreEnteredAndYieldedTo :
    (∀ p ∈ [ClaimPhase.pending, .holding, .won],
      (claimingAt p).syn.claim = some { sections := { a := true, b := false }, phase := p } ∧
      (claimingAt p).syn.state = .claiming ∧ (3 : StationNo) < (claimingAt p).sli.ownNumber ∧
      (claimingAt p).sli.ownNumber < (9 : StationNo) ∧ (claimingAt p).sli.watching = true ∧
      (claimingAt p).settings.isSome) ∧
    (sectionsOfByte 1).overlaps { a := true, b := false } = true ∧
    (sectionsOfByte 2).overlaps { a := true, b := false } = false ∧
    (station .feeder).syn.state = .idle ∧
    (let s := (claimingAt .pending).withSyn { (claimingAt .pending).syn with
        state := .yielded, claim := none, winner := some 3, yieldTimer := some 6000 }
     s.syn.state = .yielded ∧ s.syn.winner = some 3 ∧ s.syn.winner ≠ some 4) := by decide

/-- A station whose sources have each published once. -/
def published (f : State → State) : State :=
  f { station .feeder with ptb :=
    { (station .feeder).ptb with
      reportTimer := some 5015, ownBreaker := some (station .feeder).breakerReport,
      ownSequence := some (station .feeder).sequence, ownClaim := some .none, ownService := some .auto } }

theorem witness_ReportsArePlacedAtTimerAndChange :
    (let s := published id
     s.ssc.station ≠ .start ∧ settledNow s = true ∧ s.sli.conflict = none ∧ s.ptb.reportTimer = some 5015 ∧
       s.ptb.ownBreaker = some s.breakerReport ∧ s.ptb.ownSequence = some s.sequence ∧
       s.ptb.ownClaim = some s.syn.claimField ∧ s.ptb.ownService = some s.ssc.station ∧
       s.cme.record = some record ∧ s.settings.isSome) ∧
    (let s := published (·.atBreaker .closed)
     s.breakerReport.state = .closed ∧ (s.ptb.ownBreaker.map fun b => b.state) = some .opened) ∧
    (let s := published fun s => s.withCsq { s.csq with state := .feederNormal }
     (s.ptb.ownSequence.map fun q => q.state) ≠ some s.csq.state) ∧
    (published (·.atService .manual)).ptb.ownService ≠ some .manual ∧
    (let s := published fun s => s.withSyn (claimingAt .holding).syn
     s.ptb.ownClaim ≠ some s.syn.claimField) := by decide

/-- Measured values of the own record. -/
def measured : OwnMeasured :=
  { line := .live, bus := .live, fLine := some 60097, fBus := some 60000, load := some 750, theta := some (-1277) }

/-- A station in RETRANSFER with all the sources of its report known. -/
def reporting (role : Role) : State :=
  let s := inSequence role .retransfer
  s.withPtb { s.ptb with
    ownBreaker := some s.breakerReport, ownSequence := some s.sequence, ownClaim := some .none,
    ownService := some .auto, ownMeasured := some measured, reportTimer := some 5015 }

/-- The report of an incomer in RETRANSFER, and those of a generator and a feeder. -/
theorem witness_ReportsArePlacedAtTimerAndChange_built :
    (∀ role ∈ [Role.incomer, .generator, .feeder],
      (reporting role).ptb.ownMeasured = some measured ∧ (reporting role).settings = some (sett role) ∧
        ((reporting role).ptb.ownSequence.map fun q => q.state) = some .retransfer ∧
        settledNow (reporting role) = true ∧ (reporting role).sli.conflict = none) ∧
    ((reporting .incomer).report.body.map fun b => (b.load, b.ratedKw, b.theta, b.slip)) =
      some (some 750, none, some (-1277), some 97) ∧
    ((reporting .generator).report.body.map fun b => (b.load, b.ratedKw, b.theta, b.slip)) =
      some (some 750, some 2000, none, none) ∧
    ((reporting .feeder).report.body.map fun b => (b.load, b.feeder, b.theta, b.slip)) =
      some (none, some (8, 500), none, none) :=
  ⟨by decide +kernel, by decide +kernel, by decide +kernel, by decide +kernel⟩

theorem witness_EveryStepKeepsThePeers :
    (let s := (station .feeder).withPending [.claimReceived 3 1]
     PeersKept s ∧ ∃ t, step s = .next t ∧ t.ptb.entries[(3 : StationNo)] ≠ s.ptb.entries[(3 : StationNo)]) :=
  ⟨by unfold PeersKept; decide, _, rfl, by decide⟩

theorem witness_ReportsAreReadBackAsSent :
    ReportFits report ∧ ReportFits { service := .settingsFault, body := none } := by
  refine ⟨⟨by decide, ?_⟩, ⟨by decide, ?_⟩⟩
  · intro b h
    cases h
    refine ⟨by decide, ?_, ?_, ?_, ?_, ?_, ?_, ?_, ⟨_, rfl, by decide⟩, rfl, nofun, ⟨_, rfl, by decide⟩, by decide,
      by decide, ?_, by decide, ?_⟩ <;> intro x h <;> cases h <;> decide
  · intro b h
    cases h

theorem test_report_places :
    -- role and service state, breaker with line and bus, f_line, load, rated kW
    ((encodeReport report).take 3 = [0xD4, 0x00, 0x20]) ∧
    ((encodeReport report).drop 7).take 4 = [0x00, 0x00, 0xEA, 0x60] ∧
    ((encodeReport report).drop 15).take 4 = [0x01, 0x90, 0x09, 0xC4] := by decide +kernel

/-- R208: f_line, in bytes 7 to 10, is not signed. -/
theorem test_a_frequency_is_not_signed :
    let sent := encodeReport { service := .auto, body := some { peerBody .feeder with fLine := some 2147483648 } }
    (sent.drop 7).take 4 = [0x80, 0, 0, 0] ∧ ((decodeReport sent).body.map fun b => b.fLine) = some (some 2147483648) := by
  decide +kernel

/-! ### Requests and service -/

theorem witness_RequestsAreJudgedInOrder :
    (∀ c ∈ [(0 : Byte), 1, 2, 3, 4, 5, 6, 7, 8, 9, 10, 11, 12, 13, 77],
      let r := ask c []
      r.header ≠ (station .feeder).sli.ownNumber ∧ r.target.toNat = (station .feeder).sli.ownNumber.val ∧
        crc8 (r.target :: r.origin :: c :: r.args) = r.check ∧ r.origin ≠ 0 ∧ r.origin.toNat = r.header.val ∧
        crc8 (r.target :: r.origin :: (c + 1) :: r.args) ≠ r.check) ∧
    (∀ x ∈ [StationState.auto, .settingsFault, .addressConflict],
      ((station .feeder).atService x).ssc.station ≠ .start ∧ ((station .feeder).atService x).sli.watching = true ∧
        settledNow ((station .feeder).atService x) = true) := by
  decide +kernel

theorem test_remote_open_is_refused_without_permit :
    ∃ t, exec (.openRequest (ask 0 [0])) ((station .feeder).atBreaker .closed) = .next t ∧
      t.sli.echo.body = some { origin := 3, kind := some 0, result := some .refusedRemote } := ⟨_, rfl, by decide +kernel⟩

/-- A request of station 3 is handed on by station 7. -/
theorem handed_ask (s : State) (code : Byte) (args : List Byte) (broadcastable : Bool) (hn : s.sli.ownNumber = 7)
    (hw : s.sli.watching = true) (hs : s.ssc.station ∉ ([.start, .settingsFault, .addressConflict] : List StationState)) :
    Handed s (ask code args) code broadcastable := by
  refine ⟨hs, hw, hn ▸ (by decide : (3 : StationNo) ≠ 7), .inl ⟨(by decide : (7 : Byte) ≠ 0), ?_⟩, rfl,
    (by decide : (3 : Byte) ≠ 0), rfl⟩
  rw [hn]
  rfl

theorem witness_BreakerRequestsAreAnswered :
    (∀ s : State, ∀ c a b, s.sli.ownNumber = 7 → s.sli.watching = true → s.ssc.station = .auto →
      Handed s (ask c a) c b) ∧
    (let s := ((sharing .share).withCsq { (sharing .share).csq with state := .online }).active [.remotePermit]
     s.sli.ownNumber = 7 ∧ s.sli.watching = true ∧ s.ssc.station = .auto ∧ s.csq.state = .online ∧ s.lsc.mode = .share ∧
       s.zeroHolds = false ∧ s.input .remotePermit = true) ∧
    (∀ b ∈ [BreakerState.closed, .closing, .discrepant, .opening, .opened],
      let s := ((station .feeder).active [.remotePermit]).atBreaker b
      s.input .remotePermit = true ∧ s.bkc.state = b ∧ settledNow s = true) ∧
    (let s := (station .feeder).active [.remotePermit, .springOk]
     s.bkc.state = .opened ∧ s.input .springOk = true ∧ s.bkc.lockout = false ∧ s.cds.tripOut = false ∧
       s.cme.record = some record ∧ record.bus = .live ∧ record.line = .live ∧ settledNow s = true ∧
       (s.measuring { record with line := .dead }).cme.record = some { record with line := .dead }) ∧
    (∀ y ∈ [Syn.reset, { Syn.reset with state := .syncFailed }, (synchronizing .synchronizing).syn],
      let s := ((station .generator).active [.remotePermit, .springOk]).withSyn y
      s.syn = y ∧ settledNow s = true ∧ (y.state = .synchronizing ↔ y.request.isSome)) ∧
    (let s := (station .feeder).active [.remotePermit]
     let s := (s.withBkc { s.bkc with lockout := true }).withCsq { s.csq with state := .tripped }
     s.input .extTrip = false ∧ (∀ e ∈ allElements, (s.pes.el e).state = .dropped) ∧ s.bkc.lockout = true ∧
       settledNow s = true) ∧
    (station .feeder).csq.state = .inactive :=
  ⟨fun s c a b hn hw hs => handed_ask s c a b hn hw (by rw [hs]; decide), by decide⟩

/-- A pushbutton about to be debounced. -/
def pushed (role : Role) (on : List Input) (i : Input) : State := ((station role).active on).bouncing i

theorem witness_BreakerRequestsAreAnswered_arguments_and_buttons :
    ((ask 1 [0]).args ≠ [] ∧ (ask 2 [0]).args ≠ [] ∧ (ask 1 []).args = [] ∧
      (station .feeder).input .remotePermit = false ∧ settledNow (station .feeder) = true) ∧
    (∀ i ∈ [Input.localOpen, .localClose, .lockoutReset], ∀ role ∈ [Role.feeder, .generator],
      let s := pushed role [.springOk] i
      s.ssc.debounceTimers[inputIdx i] = some 5004 ∧ s.pins.raw[inputIdx i] = true ∧ s.input i = false ∧
        s.ssc.station.atWork = true ∧ s.input .remotePermit = false ∧ s.bkc.state = .opened ∧ s.bkc.lockout = false ∧
        s.input .springOk = true ∧ s.bkc.closeCircuitFault = false ∧ s.cds.tripOut = false ∧ s.syn.request = none ∧
        s.syn.state = .idle ∧ s.input .extTrip = false ∧ (∀ e ∈ allElements, (s.pes.el e).state = .dropped)) ∧
    (pushed .feeder [.localOpen] .localOpen).pins.raw[inputIdx .localOpen] = false ∧
    (pushed .feeder [.springOk, .remotePermit] .localClose).input .remotePermit = true ∧
    (∀ b ∈ [BreakerState.closed, .closing, .discrepant, .opening, .withdrawn],
      ((pushed .feeder [] .localOpen).atBreaker b).bkc.state = b) ∧
    (let s := (pushed .feeder [.springOk] .localClose).measuring { record with line := .dead }
     s.cme.record = some { record with line := .dead } ∧ record.bus = .live ∧ record.warmup = false) ∧
    (let s := pushed .feeder [] .lockoutReset
     let s := (s.withBkc { s.bkc with lockout := true }).withCsq { s.csq with state := .tripped }
     s.bkc.lockout = true ∧ s.csq.state = .tripped ∧ s.ssc.station = .auto) ∧
    (pushed .feeder [.extTrip] .lockoutReset).input .extTrip = true := by decide

/-- R63: LOCAL_CLOSE of a feeder with its line dead and its bus live closes; with REMOTE_PERMIT it does nothing. -/
theorem test_local_close_button :
    (∃ t, exec (.debounceExpiry .localClose)
        ((pushed .feeder [.springOk] .localClose).measuring { record with line := .dead }) = .next t ∧
      t.bkc.state = .closing) ∧
    (∃ t, exec (.debounceExpiry .localClose)
        ((pushed .feeder [.springOk, .remotePermit] .localClose).measuring { record with line := .dead }) = .next t ∧
      t.bkc.state = .opened) := ⟨⟨_, rfl, by decide⟩, _, rfl, by decide⟩

theorem witness_ServiceStateIsSetByTheTable :
    (∀ x ∈ [StationState.presence, .warmup, .auto, .manual, .test],
      let s := (station .feeder).atService x
      s.sli.ownNumber = 7 ∧ s.sli.watching = true ∧ settledNow s = true ∧
        s.ssc.station ∉ ([.start, .settingsFault, .addressConflict] : List StationState)) ∧
    ((station .feeder).atBreaker .closed).bkc.state ≠ .opened := by decide

theorem witness_SequenceAndDiagnosticsRequestsAreAnswered :
    (let s := returning.active [.remotePermit]
     s.ssc.station = .auto ∧ s.sli.ownNumber = 7 ∧ s.sli.watching = true ∧ s.csq.state = .returning ∧
       s.input .remotePermit = true ∧
       s.csq.inhibit = false ∧ s.bkc.lockout = false ∧ s.csq.monitor = .healthy ∧ settledNow s = true ∧
       s.settings = some (sett .incomer)) ∧
    (∀ k ∈ [true, false], let s := (inSequence .incomer .incNormal).active [.remotePermit]
     (s.withCsq { s.csq with transferTest := k }).csq.transferTest = k) ∧
    (∀ q ∈ [CsqState.incNormal, .sourceLost, .returning, .retransfer],
      let s := (inSequence .incomer q).active [.remotePermit]
      s.csq.state = q ∧ s.csq.transferTest = false ∧ s.sli.ownNumber = 7 ∧ s.sli.watching = true ∧
        settledNow s = true ∧ ∀ e ∈ (sett .incomer).sourceElements, (s.pes.el e).state = .dropped) ∧
    (∀ b ∈ [BreakerState.closed, .opened, .discrepant],
      let s := (station .feeder).atBreaker b
      s.cds.run = none ∧ s.cds.tripOut = false ∧ s.cds.closeOut = false ∧ s.bkc.state = b ∧ settledNow s = true) ∧
    (testing .trip 1).cds.run.isSome ∧ (ask 7 [0]).args ≠ [] ∧ (ask 7 []).args = [] := by decide

theorem witness_CaptureRequestsAreAnswered :
    (let s := recordingWith { Drc.reset with records := [descriptor 1 false [5, 6], descriptor 258 true [7]], postCount := 3 }
     s.settings.isSome ∧ settledNow s = true ∧ s.sli.conflict = none ∧ s.sli.ownNumber = 7 ∧ s.sli.watching = true ∧
       s.ssc.station = .auto ∧ (s.drc.records.map fun x => x.seq) = [1, 258] ∧ ((1 : Byte) ++ (2 : Byte)) = (258 : BitVec 16) ∧
       (descriptor 1 false [5, 6]).chain[1]? = some 6 ∧ (descriptor 1 false [5, 6]).chain[2]? = none ∧
       s.sli.data.length < 2) ∧
    (∀ d ∈ [Drc.reset, { Drc.reset with full := true }], (recordingWith d).drc = d ∧
      (∀ x ∈ d.records, x.filling = false) ∧ d.records.length < 8) ∧
    (sett .feeder).drc.enableRequest = true := by decide

/-- Triggers that are missed, that create and that find a FILLING record; and arguments of another length. -/
theorem witness_CaptureRequestsAreAnswered_triggers_and_arguments :
    (∀ full ∈ [true, false],
      let d : Drc := { Drc.reset with
        full := full, records := (List.range 8).map fun k => descriptor (BitVec.ofNat 16 k) false [] }
      (∀ x ∈ d.records, x.filling = false) ∧ 8 ≤ d.records.length) ∧
    { (sett .feeder).drc with keep := true }.keep = true ∧ (sett .feeder).drc.keep = false ∧
    (sett .feeder).drc.post = 20 ∧
    -- at a planned length of 80, extended to 20 blocks more, and absorbed
    (∀ k ∈ [75, 19, 20],
      let d : Drc := { Drc.reset with postCount := k, records := [descriptor 1 true [1, 2, 3, 4, 5]] }
      d.records = [] ++ descriptor 1 true [1, 2, 3, 4, 5] :: [] ∧ (descriptor 1 true [1, 2, 3, 4, 5]).filling = true ∧
        settledNow (recordingWith d) = true ∧ (d.postCount + 5 < 80 ↔ k ≠ 75) ∧
        (d.postCount < min 20 (80 - 5) ↔ k = 19)) ∧
    (∀ x ∈ [ask 9 [1], ask 10 [1], ask 11 [0, 1, 2], ask 11 [0, 1, 2, 3, 4], ask 12 [0]],
      x.args ≠ [] ∧ x.args.length ≠ 4 ∧ x.args.length ≠ 2) := by decide

/-- R190: a request that extends the FILLING record is TAKEN, and one at a planned length of 80 is BUSY. -/
theorem test_a_capture_trigger_on_a_filling_record :
    (∃ t, exec (.captureTrigger (ask 9 [])) (recordingWith { Drc.reset with
        postCount := 19, records := [descriptor 1 true [1, 2, 3, 4, 5]] }) = .next t ∧
      (t.sli.echo.body.map fun b => b.result) = some (some .taken) ∧ t.drc.postCount = 20) ∧
    (∃ t, exec (.captureTrigger (ask 9 [])) (recordingWith { Drc.reset with
        postCount := 75, records := [descriptor 1 true [1, 2, 3, 4, 5]] }) = .next t ∧
      (t.sli.echo.body.map fun b => b.result) = some (some .busy) ∧ t.drc.missed = 1) :=
  ⟨⟨_, rfl, by decide +kernel⟩, _, rfl, by decide +kernel⟩

/-- A directory of one record, and a block of 48 equal sets. -/
theorem witness_CaptureRequestsAreAnswered_payloads :
    (let d : Drc := { Drc.reset with records := [descriptor 258 false [5, 6]] }
     d.records.length ≤ 8 ∧ d.records[0]? = some (descriptor 258 false [5, 6]) ∧ d.records.length ≤ 7 ∧
      (descriptor 258 false [5, 6]).preCount < 256 ∧ (descriptor 258 false [5, 6]).trigPos < 256 ∧
      (d.directory true 3).take 19 = [3, 1, 1, 0, 0, 0, 0, 1, 2, 0xC1, 3, 0, 0, 0x0F, 0xA0, 1, 2, 0, 1]) ∧
    (let b : Block :=
      { sets := List.replicate 48 (Vector.replicate 8 (-2)), cycle := 300, gap := false, clipped := true, trigger := true }
     b.sets.length = 48 ∧ b.sets[47]? = some (Vector.replicate 8 (-2)) ∧
      (blockBytes b 3 258 9 4).take 12 = [0x83, 1, 2, 9, 0xC0, 0, 0x01, 0x2C, 0xFF, 0xFE, 0xFF, 0xFE]) := by
  decide +kernel

theorem witness_NumbersAreAssignedByIdentity :
    (let r := ask 13 (be48 0 ++ [9])
     let s := (station .feeder).knowing 9 (conflictedEntry false)
     r.args = be48 0 ++ [9] ∧ r.header ≠ s.sli.ownNumber ∧ r.target.toNat = s.sli.ownNumber.val ∧
       s.pins.identity = 0 ∧ (1 : BitVec 48) ≠ s.pins.identity ∧ crc8 (r.target :: r.origin :: 13 :: r.args) = r.check ∧
       r.origin.toNat = r.header.val ∧ settledNow s = true ∧ s.sli.watching = true ∧ s.settings.isSome ∧
       s.ptb.entries[(9 : StationNo)].state = .conflicted) ∧
    (∀ x ∈ [StationState.warmup, .manual],
      let s := (station .feeder).atService .addressConflict
      let s := (s.withSsc { s.ssc with returnState := some x }).withSli { s.sli with conflict := some 7 }
      s.ssc.returnState = some x ∧ s.sli.conflict.isSome ∧ settledNow s = true) := by decide +kernel

/-- A station in SETTINGS_FAULT whose link is in conflict. -/
def unsettled : State :=
  { (station .feeder).atService .settingsFault with
    settings := none
    sli := { (station .feeder).sli with conflict := some 7, conflictTimer := some 5900 } }

theorem witness_NumbersAreAssignedByIdentity_without_settings :
    unsettled.settings = none ∧ unsettled.ssc.station ≠ .start ∧ unsettled.ssc.returnState = none ∧
      unsettled.sli.conflict.isSome ∧ unsettled.sli.watching = true ∧ unsettled.sli.ownNumber = 7 ∧
      settledNow unsettled = true := by decide

/-- R197: in SETTINGS_FAULT the assignment changes the number and not the station state. -/
theorem test_a_number_is_assigned_without_settings :
    ∃ t, exec (.assignNumber (ask 13 (be48 0 ++ [9]))) unsettled = .next t ∧ t.sli.ownNumber = 9 ∧
      t.sli.conflict = none ∧ t.ssc.station = .settingsFault := ⟨_, rfl, by decide +kernel⟩

/-- A settings image: a feeder on section B, with VNOM 20000, debounce 5 ms and AUTO in service. -/
def image : List Byte :=
  [0x46, 0x20, 0, 36, 1, 1, 0, 0, 0, 3, 2, 1, 0, 0, 0, 1, 4, 1, 0, 0, 78, 32, 7, 1, 0, 0, 0, 5, 8, 1, 0, 0, 0, 100]

/-- The role and section of a good image. -/
def judgedRole (bytes : List Byte) : Option (Role × Bool × Nat) :=
  match judgeImage bytes with
  | .good st _ => some (st.station.role, st.station.sectionB, st.station.vnom)
  | _ => none

theorem test_image_is_judged :
    judgedRole (image ++ be16 (crc16 image)) = some (.feeder, true, 20000) ∧
    judgeImage (image ++ [0, 0]) = .badCrc := by decide +kernel

theorem witness_StationStartsAndComesIntoService :
    (∀ k ∈ [1, 2, 3], let s := { State.reset with ssc := { State.reset.ssc with attempts := k } }
     s.ssc.station = .start ∧ s.ssc.reading = true ∧ settledNow s = true ∧ (s.ssc.attempts < 3 ↔ k ≠ 3)) ∧
    (let s := { State.reset with ssc := { State.reset.ssc with reading := false, readRetry := some 10 } }
     s.ssc.station = .start ∧ s.ssc.readRetry = some 10 ∧ settledNow s = true) ∧
    judgedRole (image ++ be16 (crc16 image)) ≠ none ∧
    judgeImage (image ++ [0, 0]) = .badCrc ∧
    (let x := [(0x46 : Byte), 0x21, 0, 6]
     judgeImage (x ++ be16 (crc16 x)) = .badImage) ∧
    (∀ x ∈ [StationState.presence, .auto],
      let s := (station .feeder).atService x
      (s.withSsc { s.ssc with presenceTimer := some 5100 }).ssc.presenceTimer = some 5100 ∧ s.ssc.station = x) ∧
    (((station .feeder).atService .warmup).ssc.station = .warmup ∧ (station .feeder).cme.warmCount = 2) ∧
    (∀ i ∈ [Input.springOk, .remotePermit, .lockoutIn],
      let s := (station .feeder).bouncing i
      s.ssc.debounceTimers[inputIdx i] = some 5004 ∧ s.pins.raw[inputIdx i] ≠ s.input i ∧
        s.ssc.station.atWork = true ∧ settledNow s = true ∧ (sett .feeder).station.changeMask.getLsbD (inputIdx i).val = true ∧
        (station .feeder).ssc.debounceTimers[inputIdx i] = none) := by decide +kernel

/-- R194 and R196: the GIN levels follow at the end of START, and VNOM 20000 of the image is in force. -/
theorem test_good_image_is_put_in_force :
    ∃ t, exec (.settingsImageRead (image ++ be16 (crc16 image))) (State.reset.active [.gin2]) = .next t ∧
      (t.settings.map fun st => (st.station.vnom, st.station.fnom, st.pes.pu7)) = some (20000, 50, 16000) ∧
      t.drc.gin[1] = true ∧ t.drc.gin[0] = false := ⟨_, rfl, by decide +kernel⟩

theorem witness_StationStartsAndComesIntoService_fields :
    imageField (image ++ be16 (crc16 image)) 1 = some 3 ∧ imageField (image ++ be16 (crc16 image)) 4 = some 20000 ∧
    imageField (image ++ be16 (crc16 image)) 3 = none ∧ headerLength (image ++ be16 (crc16 image)) = 36 ∧
    -- an image that names no role
    (let x := [(0x46 : Byte), 0x20, 0, 12, 4, 1, 0, 0, 78, 32]
     judgeImage (x ++ be16 (crc16 x)) = .badImage) ∧
    -- an event that takes a free line
    (let s := (linked fun l => { l with lineFree := true }).bouncing .springOk
     s.sli.lineFree = true ∧ s.sli.conflict = none ∧ s.sli.events.length < 8 ∧ settledNow s = true ∧
      s.ssc.debounceTimers[inputIdx .springOk] = some 5004) := by decide +kernel

/-- R203: ALARM is de-energized by each condition of its table. -/
theorem test_alarm_conditions :
    (station .feeder).alarm = true ∧
    (∀ s ∈ [(station .feeder).atBreaker .discrepant, (station .feeder).atService .addressConflict,
        (station .feeder).atService .start, (station .feeder).atService .settingsFault,
        (station .feeder).withBkc { (station .feeder).bkc with failedToClose := true },
        (station .feeder).withBkc { (station .feeder).bkc with stuckAlarm := true },
        { station .feeder with cds := { (station .feeder).cds with tripResult := .short } },
        { station .feeder with cds := { (station .feeder).cds with closeResult := .openCircuit } },
        (station .feeder).withCsq { (station .feeder).csq with startFailed := true },
        (station .feeder).withCsq { (station .feeder).csq with blocked := true },
        (station .feeder).withSyn { (station .feeder).syn with failedAlarm := true },
        (station .feeder).withSsc { (station .feeder).ssc with convertersLost := true }], s.alarm = false) ∧
    ({ station .feeder with cds := { (station .feeder).cds with tripResult := .unknown } } : State).alarm = true := by
  decide

end Sys2Proof
end

section
/-! PROOFS. What every command leaves as it stands: the frames of the owners of the requests, that of the commands, and
the statement about the queue, the straps, the identity and the settings. -/

namespace Sys2Proof.Machine

/-- The fields of the twelve blocks, with the local time, the ledger and the count of free values: the state without the
queue, the settings in force and the pins. -/
def blockFields : List Fld :=
  [.localTime, .siu, .cme, .pes, .bkc, .cds, .sli, .ptb, .syn, .lsc, .csq, .drc, .ssc, .due, .freeCount]

/-! ### The owners of the requests -/

section owners
variable {fs : List Fld} {s u : State}

theorem withForce_only {owner : Settings → State → Answer} (ha : ∀ st, Only fs s (owner st u).state)
    (k : Only fs s u) : Only fs s (withForce owner u).state := by
  unfold withForce
  split
  · exact k
  · exact ha _

theorem ownOpen_only (r : Request) (st : Settings) (k : Only blockFields s u) :
    Only blockFields s (ownOpen r st u).state := by
  have taken : Only blockFields s (Answer.take (tellOpenRequest (takeOpening .request u))).state :=
    Only.tellOpenRequest (by decide) (by decide) (by decide) (by decide)
      (Only.takeOpening _ (by decide) (by decide) (by decide) (by decide) (by decide) k)
  have unloads : Only blockFields s (Answer.take (tellOpenRequest (unloadOrder .request u))).state :=
    Only.tellOpenRequest (by decide) (by decide) (by decide) (by decide)
      (Only.unloadOrder _ (by decide) (by decide) (by decide) k)
  unfold ownOpen
  split_ifs <;> assumption

theorem ownClose_only (r : Request) (st : Settings) (k : Only blockFields s u) :
    Only blockFields s (ownClose r st u).state := by
  unfold ownClose
  split_ifs
  · exact k
  · exact k
  · exact Only.operatorClose st (by decide) (by decide) (by decide) (by decide) k

theorem ownResetLockout_only (r : Request) (st : Settings) (k : Only blockFields s u) :
    Only blockFields s (ownResetLockout r st u).state := by
  have clears : Only blockFields s (Answer.take (lockoutClear st u)).state :=
    Only.lockoutClear st (by decide) (by decide) (by decide) (by decide) (by decide) k
  unfold ownResetLockout
  split_ifs <;> assumption

theorem ownSetMode_only (r : Request) (k : Only blockFields s u) : Only blockFields s (ownSetMode r u).state := by
  have passes (m : StationState) : Only blockFields s (setMode m u).state := by
    unfold setMode
    split_ifs
    · exact k
    · exact k
    · exact k
    · exact Only.withSsc (by decide) k _
  unfold ownSetMode
  split
  · split
    · exact passes _
    · exact k
  · exact k

theorem ownResetAlarm_only (r : Request) (k : Only blockFields s u) :
    Only blockFields s (ownResetAlarm r u).state := by
  unfold ownResetAlarm
  split_ifs
  · exact k
  · exact Only.resetAlarms (by decide) (by decide) (by decide) (by decide) (by decide) (by decide) (by decide) k

theorem ownTransferTest_only (r : Request) (st : Settings) (k : Only blockFields s u) :
    Only blockFields s (ownTransferTest r st u).state := by
  have starts : Only blockFields s (transferTestStart u) :=
    Only.transferTestStart (by decide) (by decide) (by decide) (by decide) k
  have ends : Only blockFields s (transferTestEnd u) :=
    Only.transferTestEnd (by decide) (by decide) (by decide) (by decide) k
  unfold ownTransferTest
  split_ifs <;> assumption

theorem ownInhibit_only (r : Request) (st : Settings) (k : Only blockFields s u) :
    Only blockFields s (ownInhibit r st u).state := by
  unfold ownInhibit
  split_ifs
  · exact k
  · exact k
  · exact Only.setInhibit _ (by decide) (by decide) (by decide) (by decide) k

theorem ownRetransferNow_only (r : Request) (st : Settings) (k : Only blockFields s u) :
    Only blockFields s (ownRetransferNow r st u).state := by
  have moves : Only blockFields s (Answer.take (retransferAtOnce u)).state :=
    Only.retransferAtOnce (by decide) (by decide) (by decide) (by decide) k
  unfold ownRetransferNow
  split_ifs <;> assumption

theorem ownDiagnostics_only (r : Request) (k : Only blockFields s u) :
    Only blockFields s (ownDiagnostics r u).state := by
  have begins (coil : Coil) : Only blockFields s (Answer.take (beginRun coil u)).state :=
    Only.beginRun coil (by decide) k
  unfold ownDiagnostics
  cases testableCircuit u.bkc.state with
  | none =>
    have records (x) : Only blockFields s (Answer.refuse (u.withCds x) .notApplicable).state :=
      Only.withCds (by decide) k x
    split_ifs <;> first | exact k | exact records _
  | some coil => split_ifs <;> first | exact k | exact begins coil

theorem ownCaptureTrigger_only (r : Request) (st : Settings) (k : Only blockFields s u) :
    Only blockFields s (ownCaptureTrigger r st u).state := by
  unfold ownCaptureTrigger
  split
  · exact k
  · split
    · exact k
    · exact Only.takeTrigger _ _ _ (by decide) (by decide) k

theorem ownDirectory_only (r : Request) (st : Settings) (k : Only blockFields s u) :
    Only blockFields s (ownDirectory r st u).state := by
  unfold ownDirectory
  split_ifs
  · exact k
  · exact k
  · exact Only.withSli (by decide) k _

theorem readBlock_only (d : Descriptor) (position channel origin : Byte) (k : Only blockFields s u) :
    Only blockFields s (readBlock d position channel origin u).state := by
  unfold readBlock
  split
  · exact k
  · split
    · exact k
    · split
      · exact k
      · exact Only.withSli (by decide) k _

theorem ownRead_only (r : Request) (k : Only blockFields s u) : Only blockFields s (ownRead r u).state := by
  unfold ownRead
  split
  · split
    · exact k
    · exact readBlock_only _ _ _ _ k
  · exact k

theorem ownRelease_only (r : Request) (k : Only blockFields s u) : Only blockFields s (ownRelease r u).state := by
  unfold ownRelease
  split
  · split
    · exact k
    · split
      · exact k
      · exact Only.withDrc (by decide) k _
  · exact k

theorem ownAssign_only (r : Request) (k : Only blockFields s u) : Only blockFields s (ownAssign r u).state := by
  unfold ownAssign
  split
  · split
    · exact Only.assign _ (by decide) (by decide) (by decide) (by decide) (by decide) k
    · exact k
  · exact k

end owners

/-! ### The commands -/

/-- The fields outside the blocks that a command writes: the settings at the end of START, and the pins at a change of
their levels (R196, R201, R71). A reset writes all of them. -/
def outerFields : Instr → List Fld
  | .reset _ _ => [.settings, .pins]
  | .settingsImageRead _ => [.settings]
  | .rawInputChange _ _ | .overtempRise | .overtempFall => [.pins]
  | _ => []

/-- ASSIGN_NUMBER observes the assignment, whoever is assigned, and answers its own (R99, R113). -/
theorem assignNumber_only (r : Request) (s : State) :
    ∃ u, exec (.assignNumber r) s = done s u ∧ Only blockFields s u := by
  refine ⟨_, rfl, Only.hears _ _ (by decide) (fun u k => ?_) Only.refl⟩
  have observed : Only blockFields s (observeAssignment r u) := Only.observeAssignment _ (by decide) (by decide) k
  dsimp only
  split
  · refine Only.withSli (by decide) ?_ _
    unfold judge
    split_ifs <;> first | exact observed | exact ownAssign_only r observed
  · exact observed

/-- A command that writes nothing outside the blocks ends as every command ends, after an effect on the blocks alone:
its operations are peeled off from the outermost inwards, each by its own frame lemma. -/
theorem exec_only_blocks (c : Instr) (s : State) (h : outerFields c = []) :
    ∃ u, exec c s = done s u ∧ Only blockFields s u := by
  cases c
  case reset | settingsImageRead | rawInputChange | overtempRise | overtempFall => cases h
  case assignNumber r => exact assignNumber_only r s
  all_goals
    refine ⟨_, rfl, ?_⟩
    repeat' first
      | with_reducible exact Only.refl
      | assumption
      | decide
      | dsimp only
      | intro _
      | with_reducible first
        | apply Only.expire | apply Only.take | apply Only.inForce | apply Only.notifyAll
        -- settings, inputs and service
        | apply Only.failAttempt | apply Only.debounced | apply Only.withSsc
        -- measurement
        | apply Only.withSiu | apply Only.withCme
        -- protection
        | apply Only.publishPes | apply Only.pesFinish | apply Only.withPes | apply Only.takePassage
        | apply Only.removeOrigin
        -- recorder
        | apply Only.recording | apply Only.levelTriggers | apply Only.withDrc | apply Only.takeTrigger
        -- breaker
        | apply Only.atWork | apply Only.takeTrip | apply Only.takeOpening | apply Only.tellTaken
        | apply Only.takeClose | apply Only.tellRefused | apply Only.closeOff | apply Only.tripOff
        | apply Only.passTo | apply Only.tripDone | apply Only.failBreaker | apply Only.withBkc
        -- coils
        | apply Only.timerStart | apply Only.endStep | apply Only.reach | apply Only.abortRun
        | apply Only.withCds
        -- link
        | apply Only.onLine | apply Only.hearing | apply Only.leaveFlight | apply Only.enterConflict
        | apply Only.conflictHeard | apply Only.withSli
        -- frames of other stations
        | apply Only.filtered | apply Only.peerTrigger | apply Only.transferNotice | apply Only.synClaimFrame
        | apply Only.synWithdrawFrame | apply Only.claimFrame | apply Only.reportHeard
        -- requests
        | apply Only.intake | apply withForce_only | apply ownOpen_only | apply ownClose_only
        | apply ownResetLockout_only | apply ownSetMode_only | apply ownResetAlarm_only
        | apply ownTransferTest_only | apply ownInhibit_only | apply ownRetransferNow_only
        | apply ownDiagnostics_only | apply ownCaptureTrigger_only | apply ownDirectory_only
        | apply ownRead_only | apply ownRelease_only
        -- peer table
        | apply Only.placeReport | apply Only.takeBreaker | apply Only.takeSequence | apply Only.takeClaim
        | apply Only.takeService | apply Only.publishView | apply Only.setEntry | apply Only.clearConflict
        | apply Only.withPtb
        -- synchronizer
        | apply Only.judgeEligible | apply Only.avrCheck | apply Only.evaluatePermit | apply Only.claimingCycle
        | apply Only.claimingView | apply Only.yieldedView | apply Only.endTold | apply Only.synCancel
        | apply Only.giveUpClaim | apply Only.withdrawClaim | apply Only.leaveYielded | apply Only.send
        | apply Only.withSyn
        -- load share controller
        | apply Only.lscEvent | apply Only.shareInterval | apply Only.endUnload | apply Only.overlapExpires
        | apply Only.overlapTest | apply Only.leaveConflict | apply Only.withLsc
        -- changeover sequencer
        | apply Only.csqEvent | apply Only.whenRunning | apply Only.feederDeadBus | apply Only.incomerEvaluated
        | apply Only.evaluateMonitor | apply Only.keepSheds | apply Only.roleView | apply Only.roleRecord
        | apply Only.takeOutcome | apply Only.csqTick | apply Only.derive | apply Only.withdrawRequest
        | apply Only.setMonitor | apply Only.incomerDelayEnds | apply Only.toBlocked | apply Only.sequenceOpen
        | apply Only.run | apply Only.toReadyOrStarting | apply Only.toCsq | apply Only.enterShed
        | apply Only.judgeShed | apply Only.withCsq
      | split

/-- The end of a command writes only the load share controller, the link and the ledger besides its effect. -/
theorem done_only {fs : List Fld} {s u t : State} (hd : .due ∈ fs) (hl : .lsc ∈ fs) (hs : .sli ∈ fs)
    (k : Only fs s u) (h : done s u = .next t) : Only fs s t := by
  obtain rfl : publish s (settle u) = t := by simpa [done] using h
  exact Only.publish s hd (k.settle hl hs)

/-- An image read writes the settings and the blocks (R196). -/
theorem settingsImageRead_only (image : List Byte) (s : State) :
    ∃ u, exec (.settingsImageRead image) s = done s u ∧ Only (.settings :: blockFields) s u := by
  refine ⟨_, rfl, ?_⟩
  repeat' first
    | with_reducible exact Only.refl
    | decide
    | with_reducible first
      | apply Only.enterPresence | apply Only.failAttempt | apply Only.enterSettingsFault
    | split

/-- Outside START an image read finds no reading in progress and changes no settings. -/
theorem settingsImageRead_settings (image : List Byte) {s t : State} (hs : s.ssc.station ≠ .start)
    (h : exec (.settingsImageRead image) s = .next t) : t.settings = s.settings := by
  have idle : s.readingImage = false := by simp [State.readingImage, hs]
  have he : done s s = .next t := by simpa [exec, execSettingsImageRead, idle] using h
  exact (done_only (fs := blockFields) (by decide) (by decide) (by decide) Only.refl he).get .settings (by decide)

/-- The commands that change a level of a pin leave the straps and the identity, the settings and the queue. -/
theorem pinCommand_keeps {c : Instr} (hc : outerFields c = [.pins]) (s : State) :
    ∃ t, exec c s = .next t ∧ t.pending = s.pending ∧ t.pins.identity = s.pins.identity ∧
      t.pins.straps = s.pins.straps ∧ t.settings = s.settings := by
  cases c
  case rawInputChange i level => exact ⟨_, rfl, by simp⟩
  case overtempRise =>
    refine ⟨_, rfl, ?_⟩
    dsimp only
    split <;> simp
  case overtempFall => exact ⟨_, rfl, by simp⟩
  all_goals cases hc

/-- A command other than RESET leaves the queue, the straps, the identity and, outside START, the settings. -/
theorem exec_keeps_queue_pins_settings (c : Instr) (s : State) (hc : ∀ straps raw, c ≠ .reset straps raw) :
    ∃ t, exec c s = .next t ∧ t.pending = s.pending ∧ t.pins.identity = s.pins.identity ∧
      t.pins.straps = s.pins.straps ∧ (s.ssc.station ≠ .start → t.settings = s.settings) := by
  by_cases ho : outerFields c = []
  · obtain ⟨u, hu, k⟩ := exec_only_blocks c s ho
    have e : Only blockFields s (publish s (settle u)) := done_only (by decide) (by decide) (by decide) k rfl
    have hp : (publish s (settle u)).pins = s.pins := e.get .pins (by decide)
    exact ⟨_, hu, e.get .pending (by decide), by rw [hp], by rw [hp], fun _ => e.get .settings (by decide)⟩
  by_cases hp : outerFields c = [.pins]
  · obtain ⟨t, ht, hq, hi, hs, hf⟩ := pinCommand_keeps hp s
    exact ⟨t, ht, hq, hi, hs, fun _ => hf⟩
  · cases c
    case reset straps raw => exact absurd rfl (hc straps raw)
    case settingsImageRead image =>
      obtain ⟨u, hu, k⟩ := settingsImageRead_only image s
      have e : Only (.settings :: blockFields) s (publish s (settle u)) :=
        done_only (by decide) (by decide) (by decide) k rfl
      have hp : (publish s (settle u)).pins = s.pins := e.get .pins (by decide)
      exact ⟨_, hu, e.get .pending (by decide), by rw [hp], by rw [hp],
        fun hs => settingsImageRead_settings image hs hu⟩
    case rawInputChange | overtempRise | overtempFall => exact absurd rfl hp
    all_goals exact absurd rfl ho

end Sys2Proof.Machine

open Sys2Proof Sys2Proof.Machine

/-- Settles O2: RESET by what it writes, every other command by its frame. -/
theorem everyCommandRunsAndKeepsTheQueue : Obligations.EveryCommandRunsAndKeepsTheQueue := by
  unfold Obligations.EveryCommandRunsAndKeepsTheQueue
  refine ⟨fun c s => ?_, fun c s t hc hs ht => ?_⟩
  · by_cases hc : ∀ straps raw, c ≠ .reset straps raw
    · obtain ⟨t, ht, hq, hi, hs, -⟩ := exec_keeps_queue_pins_settings c s hc
      exact ⟨t, ht, hq, hi, fun _ => hs⟩
    · push Not at hc
      obtain ⟨straps, raw, rfl⟩ := hc
      exact ⟨_, rfl, rfl, rfl, fun h => absurd rfl (h straps raw)⟩
  · obtain ⟨t', ht', -, -, -, hf⟩ := exec_keeps_queue_pins_settings c s hc
    obtain rfl : t' = t := by simpa [ht'] using ht
    exact hf hs

end

section
/-! PROOFS. RESET and the state after power-on (R205): the reset values, and the invariants that hold from there. -/

namespace Sys2Proof.Machine

/-- The state after RESET: the reset state of the new pins, with the queue and the count of free values as they stood. -/
theorem exec_reset (straps : BitVec 5) (raw : Vector Bool 15) (s : State) :
    exec (.reset straps raw) s = .next { State.ofPins { s.pins with straps := straps, raw := raw } with
      freeCount := s.freeCount, pending := s.pending } := rfl

/-- A strap reading of 0 is taken as 31 (R101). -/
theorem strapNumber_val (straps : BitVec 5) :
    (strapNumber straps).val = if straps = 0 then 31 else straps.toNat := by
  unfold strapNumber
  split_ifs <;> rfl

/-! ### The invariants after reset -/

@[simp] theorem State.reset_settings : State.reset.settings = none := rfl

/-- No run is in progress and no step has failed. -/
theorem diagnosticsKept_reset : DiagnosticsKept State.reset := by
  have steps (i : Fin 4) : State.reset.cds.steps[i] = .notRun := Vector.getElem_replicate _
  refine ⟨nofun, fun i f hf => ?_⟩
  rw [steps] at hf
  cases hf

theorem coilsKept_reset : CoilsKept State.reset :=
  ⟨nofun, nofun, nofun, by decide, nofun, diagnosticsKept_reset⟩

theorem protectionKept_reset : ProtectionKept State.reset := by
  refine ⟨fun _ => ⟨rfl, rfl⟩, by decide, by decide, by decide, fun st hst => ?_⟩
  rw [State.reset_settings] at hst
  cases hst

theorem synKept_reset : SynKept State.reset := by
  unfold SynKept
  decide

theorem linkKept_reset : LinkKept State.reset :=
  ⟨by decide, by decide, fun _ => ⟨rfl, rfl⟩, by decide, by decide, nofun, fun h => absurd rfl h⟩

theorem peersKept_reset : PeersKept State.reset :=
  ⟨by decide, by decide, by decide, by decide⟩

theorem biasKept_reset : BiasKept State.reset :=
  ⟨by decide, by decide, by decide, by decide, fun _ => rfl⟩

theorem recorderKept_reset : RecorderKept State.reset := by
  have blocks : State.reset.drc.free ++ State.reset.drc.ring ++ State.reset.drc.records.flatMap (fun r => r.chain) =
      List.finRange 96 := by
    show (List.finRange 96 ++ []) ++ [] = List.finRange 96
    rw [List.append_nil, List.append_nil]
  refine ⟨.of_eq blocks, by decide, List.nodup_nil, by decide, by decide, fun r hr => ?_, fun st hst => ?_⟩
  · cases hr
  · rw [State.reset_settings] at hst
    cases hst

end Sys2Proof.Machine

open Sys2Proof Sys2Proof.Machine

/-- Settles O4: the fields stand as the reset state gives them, and each invariant holds of it. -/
theorem resetLeavesEveryBlockReset : Obligations.ResetLeavesEveryBlockReset := by
  unfold Obligations.ResetLeavesEveryBlockReset
  refine ⟨fun s straps raw => ⟨_, exec_reset straps raw s, rfl, rfl, rfl, rfl, rfl, rfl, rfl, rfl, rfl, rfl, rfl, rfl,
    strapNumber_val straps, rfl, rfl, rfl, rfl, rfl, rfl, rfl, rfl, rfl⟩, ⟨rfl, rfl⟩, coilsKept_reset,
    protectionKept_reset, synKept_reset, linkKept_reset, peersKept_reset, biasKept_reset, recorderKept_reset⟩

end

section
/-! PROOFS. The arithmetic of the measurement: the converter word, the integer root, crossings and histories. -/

namespace Sys2Proof.Machine

/-! ### The converter word (R2) -/

/-- A sample field is a signed 16-bit number. -/
theorem wordSample_bounds (w : BitVec 24) : -32768 ≤ wordSample w ∧ wordSample w ≤ 32767 := by
  have lower := BitVec.le_toInt (w.extractLsb' 8 16)
  have upper := BitVec.toInt_lt (x := w.extractLsb' 8 16)
  unfold wordSample
  omega

theorem wordValid_iff (channel : Nat) (w : BitVec 24) :
    wordValid channel w = true ↔ wordTag w = channel ∧ w.getLsbD 4 = true := by
  simp [wordValid]

/-- A word that is not valid in its slot stores 0, marked invalid, and clips nothing. -/
theorem storedSample_of_not_valid {channel : Nat} {w : BitVec 24} (h : wordValid channel w = false) :
    storedSample channel w = { value := 0, valid := false } ∧ wordClips channel w = false := by
  simp [storedSample, wordClips, h]

/-- A valid word by its OVERRANGE bit and its sample field. -/
theorem storedSample_of_valid {channel : Nat} {w : BitVec 24} (h : wordValid channel w = true) :
    (storedSample channel w).valid = true ∧
      (storedSample channel w).value =
        (if w.getLsbD 3 = true then if wordSample w ≥ 0 then 32767 else -32767
         else if wordSample w = -32768 then -32767 else wordSample w) ∧
      wordClips channel w = (w.getLsbD 3 || decide (wordSample w = -32768)) := by
  simp only [storedSample, wordClips, h]
  split_ifs <;> simp_all

/-- A stored sample lies within 32767 of zero. -/
theorem storedSample_bounds (channel : Nat) (w : BitVec 24) :
    -32767 ≤ (storedSample channel w).value ∧ (storedSample channel w).value ≤ 32767 := by
  have field := wordSample_bounds w
  cases h : wordValid channel w with
  | false => simp [(storedSample_of_not_valid h).1]
  | true =>
    rw [(storedSample_of_valid h).2.1]
    split_ifs <;> omega

/-! ### The integer root (R9) -/

/-- The digits below bit `k` bring the root from within `2 ^ k` of the square root to within 1. -/
theorem isqrtFrom_bounds (n k r : Nat) (lower : r * r ≤ n) (upper : n < (r + 2 ^ k) * (r + 2 ^ k)) :
    isqrtFrom n k r * isqrtFrom n k r ≤ n ∧ n < (isqrtFrom n k r + 1) * (isqrtFrom n k r + 1) := by
  induction k generalizing r with
  | zero => exact ⟨lower, upper⟩
  | succ k ih =>
    unfold isqrtFrom
    split
    · next digit => exact ih _ digit (by rwa [add_assoc, ← two_mul, ← pow_succ'])
    · next digit => exact ih _ lower (Nat.lt_of_not_le digit)

theorem isqrt_bounds {n : Nat} (h : n < 2 ^ 32) : isqrt n * isqrt n ≤ n ∧ n < (isqrt n + 1) * (isqrt n + 1) :=
  isqrtFrom_bounds n 16 0 (Nat.zero_le n) (by omega)

/-! ### Mean squares (R9) -/

/-- A sum of numbers of at most `m` each. -/
theorem sum_map_le_length_mul {α : Type} (f : α → Nat) (m : Nat) (xs : List α) (h : ∀ x ∈ xs, f x ≤ m) :
    (xs.map f).sum ≤ xs.length * m := by
  have := List.sum_le_card_nsmul (xs.map f) m (by simpa using h)
  simpa using this

/-- A channel is valid when every sample of it is. -/
theorem Buffer.channelValid_iff (b : Buffer) (c : Fin 8) :
    b.channelValid c = true ↔ ∀ x ∈ b.sets, x.samples[c].valid = true := by
  simp [Buffer.channelValid, Buffer.channel]

/-- The mean square of a channel. -/
theorem Buffer.meanSquare_eq (b : Buffer) (c : Fin 8) :
    b.meanSquare c = if b.channelValid c = true then
      some ((b.sets.map fun x => x.samples[c].value.natAbs * x.samples[c].value.natAbs).sum / 48) else none := by
  simp [Buffer.meanSquare, Buffer.channel, List.map_map, Function.comp_def]

/-- The mean square of 48 samples within 32767 of zero. -/
theorem Buffer.meanSquare_le {b : Buffer} {c : Fin 8} {ms : Nat} (full : b.sets.length ≤ 48)
    (bounds : ∀ x ∈ b.sets, -32767 ≤ x.samples[c].value ∧ x.samples[c].value ≤ 32767)
    (h : b.meanSquare c = some ms) : ms ≤ 1073676289 := by
  rw [Buffer.meanSquare_eq] at h
  split at h
  · cases h
    have square : ∀ x ∈ b.sets, x.samples[c].value.natAbs * x.samples[c].value.natAbs ≤ 32767 * 32767 := by
      intro x hx
      have := bounds x hx
      exact Nat.mul_le_mul (by omega) (by omega)
    have total := sum_map_le_length_mul _ _ _ square
    omega
  · cases h

/-! ### Crossings and histories (R12 to R14) -/

/-- A pair crosses when both samples are valid, the earlier below zero and the later not. -/
theorem crossing_eq (n : BitVec 32) (a b : Sample) :
    crossing n a b = if a.valid = true ∧ b.valid = true ∧ a.value < 0 ∧ 0 ≤ b.value then
      some (256#40 * n.zeroExtend 40 + BitVec.ofInt 40 (Int.tdiv (256 * -a.value) (b.value - a.value))) else none := by
  simp [crossing, and_assoc]

/-- The part of a sample interval, in 1/256, at which a rise from below zero crosses. -/
theorem crossing_fraction {a b : Int} (ha : a < 0) (hb : 0 ≤ b) :
    0 ≤ 256 * -a / (b - a) ∧ 256 * -a / (b - a) ≤ 256 ∧ (256 * -a / (b - a) = 256 ↔ b = 0) := by
  have rise : 0 < b - a := by omega
  have upper : 256 * -a / (b - a) ≤ 256 := Int.ediv_le_of_le_mul rise (by omega)
  refine ⟨Int.ediv_nonneg (by omega) rise.le, upper, fun h => ?_, fun h => ?_⟩
  · have := (Int.le_ediv_iff_mul_le rise).1 h.ge
    omega
  · subst h
    exact (Int.ediv_eq_iff_of_pos rise).2 (by omega)

/-- The crossing time is that of the earlier sample and the fraction. -/
theorem crossing_time {n : BitVec 32} {a b : Sample} {x : CrossTime} (h : crossing n a b = some x) :
    x = 256#40 * n.zeroExtend 40 + BitVec.ofNat 40 (256 * -a.value / (b.value - a.value)).toNat := by
  rw [crossing_eq] at h
  split at h
  · next c =>
    obtain ⟨-, -, ha, hb⟩ := c
    obtain ⟨fraction, -⟩ := crossing_fraction ha hb
    have cast : BitVec.ofNat 40 (256 * -a.value / (b.value - a.value)).toNat =
        BitVec.ofInt 40 (256 * -a.value / (b.value - a.value)) := by
      rw [← BitVec.ofInt_natCast, Int.toNat_of_nonneg fraction]
    cases h
    rw [cast, Int.tdiv_eq_ediv_of_nonneg (by omega)]
  · cases h

/-- The hold-off: less than 24 sample intervals after the last crossing. -/
theorem History.ignores_iff (h : History) (x : CrossTime) :
    h.ignores x = true ↔ ∃ t1, h.t1 = some t1 ∧ (x - t1).toNat < 6144 := by
  cases ht : h.t1 <;> simp [History.ignores, ht]

/-- A history without crossings does not age. -/
theorem History.grow_of_no_crossing {h : History} (ht : h.t1 = none) (got : Bool) : h.grow got = h := by
  simp [History.grow, ht]

/-- Ageing of a history with a crossing: the second buffer without one discards it. -/
theorem History.grow_false {h : History} {a : Nat} (ht : h.t1.isSome) (ha : h.age = some a) :
    h.grow false =
      if a + 1 = 2 then { h with t0 := none, t1 := none, age := none } else { h with age := some (a + 1) } := by
  obtain ⟨t, ht⟩ := Option.isSome_iff_exists.1 ht
  simp [History.grow, ht, ha]

end Sys2Proof.Machine

open Sys2Proof Sys2Proof.Machine

/-- Settles O5, by the validity of the word, its OVERRANGE bit and its sample field. -/
theorem converterWordIsStoredByTheTable : Obligations.ConverterWordIsStoredByTheTable := by
  unfold Obligations.ConverterWordIsStoredByTheTable
  intro channel w
  refine ⟨storedSample_bounds channel w, fun h => ?_, fun tag valid => ?_⟩
  · exact storedSample_of_not_valid (by rw [← Bool.not_eq_true, wordValid_iff]; exact h)
  · obtain ⟨hv, hs, hc⟩ := storedSample_of_valid ((wordValid_iff channel w).2 ⟨tag, valid⟩)
    rw [hs, hc]
    refine ⟨hv, fun range pos => ?_, fun range neg => ?_, fun range low => ?_, fun range high => ?_⟩ <;> rw [range]
    · simp [pos]
    · simp [neg]
    · simp [low]
    · simp [high]

/-- Settles O9: crossings and histories case by case, the root by its digits. -/
theorem crossingsAreFoundAndAccepted : Obligations.CrossingsAreFoundAndAccepted := by
  unfold Obligations.CrossingsAreFoundAndAccepted
  refine ⟨⟨fun n a b => ⟨?_, fun x hx => ?_⟩, fun h got x => ⟨fun hi => ?_, fun hi => ?_⟩, fun h => ?_⟩,
    fun n hn => isqrt_bounds hn, fun b c ms full bounds hm => ?_⟩
  · rw [crossing_eq]
    split_ifs with cross <;> simp [cross]
  · have cross : a.value < 0 ∧ 0 ≤ b.value := by
      rw [crossing_eq] at hx
      split_ifs at hx with cross
      exact cross.2.2
    obtain ⟨lower, upper, last⟩ := crossing_fraction cross.1 cross.2
    exact ⟨lower, upper, last, crossing_time hx⟩
  · simp [History.accept, (h.ignores_iff x).2 hi]
  · simp [History.accept, mt (h.ignores_iff x).1 hi]
  · exact ⟨rfl, fun ht => History.grow_of_no_crossing ht _, fun ht ha => History.grow_false ht ha,
      fun ht ha => History.grow_false ht ha⟩
  · have least := Buffer.meanSquare_le full bounds hm
    refine ⟨least, ?_⟩
    by_contra! above
    have root := (isqrt_bounds (n := ms) (by omega)).1
    have := Nat.mul_le_mul above above
    omega

end

section
/-! PROOFS. A command that changes nothing of what the end of a command looks at: between commands (R83, R144) nothing is
left to act on, so that the outcome is the effect itself. -/

namespace Sys2Proof.Machine

/-- The fields that the end of a command does not look at: neither the ZERO conditions nor the free line nor what the
blocks publish rests on them. -/
def quietFields : List Fld := [.localTime, .pins, .siu, .cme, .pes, .ptb, .drc, .due, .freeCount, .pending]

/-- Between commands no frame waits for a line that stands free. -/
theorem LineSettled.nextSlot {s : State} (h : LineSettled s) : s.nextSlot = none := by
  unfold State.nextSlot
  split
  · next free => exact h free.1 free.2.1 free.2.2
  · rfl

/-- Where neither a ZERO condition nor a waiting item is left to act on, the end of a command changes nothing. -/
theorem settle_of_settled {s : State} (h : Settled s) : settle s = s := by
  obtain ⟨zero, line⟩ := h
  have tested : testZero s = s := by
    unfold testZero
    split
    · next holds => rw [zero holds]; rfl
    · rfl
  rw [settle, tested, takeLine_of_none line.nextSlot]

/-- An effect that leaves what the blocks publish has nothing to publish. -/
theorem publish_of_quiet {s u : State} (k : Only quietFields s u) : publish s u = u := by
  have bkc : u.bkc = s.bkc := k.get .bkc (by decide)
  have cds : u.cds = s.cds := k.get .cds (by decide)
  have ssc : u.ssc = s.ssc := k.get .ssc (by decide)
  have syn : u.syn = s.syn := k.get .syn (by decide)
  have lsc : u.lsc = s.lsc := k.get .lsc (by decide)
  have csq : u.csq = s.csq := k.get .csq (by decide)
  have settings : u.settings = s.settings := k.get .settings (by decide)
  have sequence : s.sequence = u.sequence := by simp only [State.sequence, State.role, syn, csq, settings]
  simp [publish, publishBreaker, publishStation, publishSequence, publishSyn, publishLsc, bkc, cds, ssc, syn, lsc,
    sequence]

/-- What holds between commands rests on none of the quiet fields. -/
theorem Settled.of_quiet {s u : State} (h : Settled s) (k : Only quietFields s u) : Settled u := by
  have ssc : u.ssc = s.ssc := k.get .ssc (by decide)
  have sli : u.sli = s.sli := k.get .sli (by decide)
  have lsc : u.lsc = s.lsc := k.get .lsc (by decide)
  have zero : u.zeroHolds = s.zeroHolds :=
    zeroHolds_congr (k.get .settings (by decide)) (by rw [ssc]) (by rw [show u.bkc = s.bkc from k.get .bkc (by decide)])
      (by rw [show u.syn = s.syn from k.get .syn (by decide)])
  unfold Settled ZeroSettled LineSettled at *
  rwa [zero, lsc, ssc, sli]

/-- The outcome of a command with such an effect, from a state between commands. -/
theorem done_of_quiet {s u : State} (h : Settled s) (k : Only quietFields s u) : done s u = .next u := by
  rw [done, settle_of_settled (h.of_quiet k), publish_of_quiet k]

end Sys2Proof.Machine
end

section
/-! PROOFS. SAMPLE_STROBE (R1 to R5): the buffer that a sample set goes to, and what the 48th set hands on. -/

namespace Sys2Proof.Machine

/-! ### The buffer being filled -/

/-- The sample set that a strobe stores. -/
def strobed (count : BitVec 32) (words : Vector (BitVec 24) 8) : SampleSet :=
  { count := count, samples := Vector.ofFn fun c : Fin 8 => storedSample c.val words[c] }

/-- The buffer after a strobe. -/
def Siu.stored (u : Siu) (words : Vector (BitVec 24) 8) : Buffer := u.target.store u.count words

@[simp] theorem Buffer.store_cycle (b : Buffer) (n : BitVec 32) (words : Vector (BitVec 24) 8) :
    (b.store n words).cycle = b.cycle := rfl

@[simp] theorem Buffer.store_sets (b : Buffer) (n : BitVec 32) (words : Vector (BitVec 24) 8) :
    (b.store n words).sets = b.sets ++ [strobed n words] := rfl

theorem Buffer.store_clipped (b : Buffer) (n : BitVec 32) (words : Vector (BitVec 24) 8) (c : Fin 8) :
    (b.store n words).clipped[c] = (b.clipped[c] || wordClips c.val words[c]) := by
  simp [Buffer.store]

/-- An empty buffer, and one that was handed on, begin anew (R3). -/
theorem Siu.target_begins {u : Siu} (h : u.filling.sets.length = 0 ∨ u.filling.sets.length = 48) :
    u.target = Buffer.begin u.count := by
  simp only [Siu.target]
  exact if_pos (by omega)

/-- A buffer in the course of filling goes on. -/
theorem Siu.target_goes_on {u : Siu} (h0 : 0 < u.filling.sets.length) (h48 : u.filling.sets.length < 48) :
    u.target = u.filling := by
  simp only [Siu.target]
  exact if_neg (by omega)

/-- A strobe completes the buffer exactly when it stands at position 47. -/
theorem Siu.stored_length_eq {u : Siu} {words : Vector (BitVec 24) 8} (h : u.filling.sets.length ≤ 48) :
    (u.stored words).sets.length = 48 ↔ u.filling.sets.length = 47 := by
  by_cases begins : u.filling.sets.length = 0 ∨ u.filling.sets.length = 48
  · simp [Siu.stored, Siu.target_begins begins, Buffer.begin]
    omega
  · simp [Siu.stored, Siu.target_goes_on (u := u) (by omega) (by omega)]

/-- What a strobe leaves: the stored buffer in the place of the one being filled, and the count one higher. -/
theorem Siu.strobe_eq (u : Siu) (words : Vector (BitVec 24) 8) :
    u.strobe words =
      if (u.stored words).sets.length = 48 then
        { u.setFilling (u.stored words) with
          count := u.count + 1, fillB := !u.fillB, handedB := some u.fillB, status := some (u.stored words).status }
      else { u.setFilling (u.stored words) with count := u.count + 1 } := rfl

theorem Siu.completes_eq (u : Siu) (words : Vector (BitVec 24) 8) :
    u.completes words = decide ((u.stored words).sets.length = 48) := by
  simp [Siu.completes, Siu.stored, beq_eq_decide]

/-- The converter status of a buffer: LOST when no sample of it is valid (R5). -/
theorem Buffer.status_eq (b : Buffer) :
    b.status = if ∀ y ∈ b.sets, ∀ c : Fin 8, y.samples[c].valid = false then .lost else .ok := by
  have some_valid : b.anyValid = true ↔ ¬ ∀ y ∈ b.sets, ∀ c : Fin 8, y.samples[c].valid = false := by
    simp [Buffer.anyValid, Vector.any_eq_true, Fin.exists_iff]
  unfold Buffer.status
  rw [if_congr some_valid rfl rfl, ite_not]

/-! ### The strobe -/

section strobe
variable {s : State} {st : Settings} {words : Vector (BitVec 24) 8}

/-- SAMPLE_STROBE between commands: the SIU strobes, and a completed buffer is handed to the CME and the DRC. -/
theorem exec_sampleStrobe (hst : s.settings = some st) (h : Settled s) :
    exec (.sampleStrobe words) s = .next
      (if (s.siu.stored words).sets.length = 48 then
        (s.withSiu (s.siu.strobe words)).notifyAll [.cmeBuffer, .drcBuffer]
       else s.withSiu (s.siu.strobe words)) := by
  have effect : exec (.sampleStrobe words) s = done s (if (s.siu.stored words).sets.length = 48 then
      (s.withSiu (s.siu.strobe words)).notifyAll [.cmeBuffer, .drcBuffer]
     else s.withSiu (s.siu.strobe words)) := by
    simp [exec, execSampleStrobe, State.inForce_some hst, Siu.completes_eq]
  have strobes : Only quietFields s (s.withSiu (s.siu.strobe words)) := Only.withSiu (by decide) Only.refl _
  rw [effect]
  refine done_of_quiet h ?_
  split
  · exact Only.notifyAll _ (by decide) strobes
  · exact strobes

end strobe

section fields
variable {u : Siu} {words : Vector (BitVec 24) 8}

theorem Siu.strobe_count : (u.strobe words).count = u.count + 1 := by
  rw [Siu.strobe_eq]; split <;> rfl

theorem Siu.strobe_other :
    if u.fillB then (u.strobe words).bufA = u.bufA else (u.strobe words).bufB = u.bufB := by
  rw [Siu.strobe_eq]
  unfold Siu.setFilling
  cases u.fillB <;> simp only [Bool.false_eq_true, if_true, if_false] <;> split <;> rfl

/-- Before the 48th set the buffer stays the one being filled. -/
theorem Siu.strobe_fills (h : (u.stored words).sets.length ≠ 48) :
    (u.strobe words).filling = u.stored words ∧ (u.strobe words).fillB = u.fillB ∧
      (u.strobe words).handedB = u.handedB ∧ (u.strobe words).status = u.status := by
  rw [Siu.strobe_eq, if_neg h]
  unfold Siu.filling Siu.setFilling
  cases u.fillB <;> exact ⟨rfl, rfl, rfl, rfl⟩

/-- The 48th set hands the buffer on, and the next set goes to the other one. -/
theorem Siu.strobe_hands_on (h : (u.stored words).sets.length = 48) :
    (u.strobe words).handed = some (u.stored words) ∧ (u.strobe words).fillB = !u.fillB ∧
      (u.strobe words).handedB = some u.fillB ∧ (u.strobe words).status = some (u.stored words).status := by
  rw [Siu.strobe_eq, if_pos h]
  unfold Siu.handed Siu.setFilling
  cases u.fillB <;> exact ⟨rfl, rfl, rfl, rfl⟩

end fields

end Sys2Proof.Machine

open Sys2Proof Sys2Proof.Machine

/-- Settles O6: the target buffer by the position it stands at, then the strobe before and at the 48th set. -/
theorem sampleStrobeFillsOneBuffer : Obligations.SampleStrobeFillsOneBuffer := by
  unfold Obligations.SampleStrobeFillsOneBuffer
  intro s st words hst hs full
  have completes := Siu.stored_length_eq (words := words) full
  refine ⟨_, exec_sampleStrobe hst hs, ?_⟩
  by_cases last : s.siu.filling.sets.length = 47
  · have goes_on : s.siu.target = s.siu.filling := Siu.target_goes_on (by omega) (by omega)
    obtain ⟨handed, fillB, handedB, status⟩ := Siu.strobe_hands_on (completes.2 last)
    rw [if_pos (completes.2 last)]
    simp only [State.notifyAll_siu, State.withSiu_siu]
    refine ⟨by rw [State.notifyAll_eq]; rfl, Siu.strobe_count, Siu.strobe_other, fun h => by omega,
      fun _ h => by omega, fun h => absurd last h, fun _ => ⟨fillB, handedB, ⟨_, handed, ?_, ?_, ?_, ?_⟩, ?_, ?_⟩⟩
    · rw [Siu.stored, goes_on, Buffer.store_cycle]
    · rw [Siu.stored, goes_on]; rfl
    · rw [Siu.stored, goes_on]; exact Buffer.store_clipped _ _ _
    · rw [status, Buffer.status_eq]
    · exact State.mem_notifyAll_due.2 (.inr (by decide))
    · exact State.mem_notifyAll_due.2 (.inr (by decide))
  · obtain ⟨filled, fillB, handedB, status⟩ := Siu.strobe_fills (mt completes.1 last)
    rw [if_neg (mt completes.1 last)]
    refine ⟨rfl, Siu.strobe_count, Siu.strobe_other, fun begins => ?_, fun pos lt => ?_,
      fun _ => ⟨fillB, handedB, status, rfl⟩, fun h => absurd h last⟩
    · have new : s.siu.stored words = (Buffer.begin s.siu.count).store s.siu.count words := by
        rw [Siu.stored, Siu.target_begins begins]
      rw [State.withSiu_siu, filled, new]
      exact ⟨rfl, rfl, fun c => by rw [Buffer.store_clipped]; simp [Buffer.begin]⟩
    · have more : s.siu.stored words = s.siu.filling.store s.siu.count words := by
        rw [Siu.stored, Siu.target_goes_on pos (by omega)]
      rw [State.withSiu_siu, filled, more]
      exact ⟨rfl, rfl, Buffer.store_clipped _ _ _⟩

end

section
/-! PROOFS. CME_CYCLE_RECORD (R7 to R20): the histories after a buffer, the quantities of the record, the frequencies and
the angle. -/

namespace Sys2Proof.Machine

/-! ### Crossing histories (R13, R14) -/

/-- The crossings within a list of samples are those of its consecutive pairs. -/
theorem innerCrossings_eq (xs : List (BitVec 32 × Sample)) :
    innerCrossings xs = (xs.zip xs.tail).flatMap fun p => (crossing p.1.1 p.1.2 p.2.2).toList := by
  induction xs with
  | nil => rfl
  | cons a rest ih =>
    cases rest with
    | nil => rfl
    | cons b rest => simp only [innerCrossings, ih]; rfl

/-- A history after a buffer: the boundary pair, the pairs within the buffer, the ageing and the last sample. -/
def historyAfter (b : Buffer) (c : Fin 8) (h : History) : History :=
  let xs := b.sets.map fun x => (x.count, x.samples[c])
  let boundary := match h.last, xs.head? with
    | some e, some x => (crossing (x.1 - 1) e x.2).toList
    | _, _ => []
  let inner := (xs.zip xs.tail).flatMap fun p => (crossing p.1.1 p.1.2 p.2.2).toList
  let y := (boundary ++ inner).foldl History.accept (h, false)
  { y.1.grow y.2 with last := (xs.map fun x => x.2).getLast? }

theorem History.step_eq (h : History) (b : Buffer) (c : Fin 8) : h.step b c = historyAfter b c h := by
  have boundary (last : Option Sample) (xs : List (BitVec 32 × Sample)) : boundaryCrossing last xs =
      match last, xs.head? with
      | some e, some x => (crossing (x.1 - 1) e x.2).toList
      | _, _ => [] := by
    cases last <;> cases xs <;> rfl
  have lasts : b.channel c = (b.sets.map fun x => (x.count, x.samples[c])).map fun x => x.2 := by
    simp [Buffer.channel, Function.comp_def]
  simp only [History.step, historyAfter, Buffer.crossings, innerCrossings_eq, boundary, lasts]

/-! ### The quantities of the record (R9 to R11, R17) -/

section record
variable (st : StationSettings) (b : Buffer) (status : ConverterStatus) (warm : Nat) (line bus : History)

theorem makeRecord_ms (c : Fin 8) : (makeRecord st b status warm line bus).ms[c] = b.meanSquare c := by
  simp [makeRecord]

theorem makeRecord_rms (c : Fin 8) :
    (makeRecord st b status warm line bus).rms[c] = (b.meanSquare c).map isqrt := by
  simp [makeRecord]

end record

/-- The power sum of the three phases, each channel of them valid. -/
theorem Buffer.power_eq (b : Buffer) :
    b.power = if ∀ x ∈ b.sets, ∀ c ∈ ([0, 1, 2, 4, 5, 6] : List (Fin 8)), x.samples[c].valid = true then
      some (Int.tdiv (b.products 0 4 + b.products 1 5 + b.products 2 6) 48) else none := by
  have valid : [0, 1, 2, 4, 5, 6].all b.channelValid = true ↔
      ∀ x ∈ b.sets, ∀ c ∈ ([0, 1, 2, 4, 5, 6] : List (Fin 8)), x.samples[c].valid = true := by
    rw [List.all_eq_true]
    simp only [Buffer.channelValid_iff]
    exact ⟨fun h x hx c hc => h c hc x hx, fun h c hc x hx => h x hx c hc⟩
  unfold Buffer.power
  exact if_congr valid rfl rfl

/-! ### The command -/

/-- The six readers of a cycle record (R7). -/
def recordReaders : List Delivery := [.pesRecord, .synRecord, .lscRecord, .csqRecord, .ptbRecord, .sscRecord]

/-- The effect of CME_CYCLE_RECORD on a handed buffer. -/
def recorded (s : State) (st : Settings) (b : Buffer) (status : ConverterStatus) : State :=
  ((s.take .cmeBuffer).withCme (s.cme.complete st.station b status)).notifyAll recordReaders

section command
variable {s : State} {st : Settings} {b : Buffer} {status : ConverterStatus}

theorem exec_cmeCycleRecord (hst : s.settings = some st) (hb : s.siu.handed = some b)
    (hs : s.siu.status = some status) : exec .cmeCycleRecord s = done s (recorded s st b status) := by
  have force : (s.take .cmeBuffer).settings = some st := hst
  simp only [exec, execCmeCycleRecord, State.inForce_some force, State.take_siu, State.take_cme, hb, hs]
  rfl

@[simp] theorem recorded_cme : (recorded s st b status).cme = s.cme.complete st.station b status := by
  simp [recorded]

/-- The record is made by writing the CME and the ledger alone. -/
theorem recorded_eq : recorded s st b status =
    { s with cme := (recorded s st b status).cme, due := (recorded s st b status).due } := by
  unfold recorded
  rw [State.notifyAll_eq]
  rfl

theorem recorded_quiet : Only quietFields s (recorded s st b status) :=
  Only.notifyAll _ (by decide) (Only.withCme (by decide) (Only.take _ (by decide) Only.refl) _)

/-- Every reader of the record has its delivery. -/
theorem recorded_told {d : Delivery} (h : d ∈ recordReaders) : d ∈ (recorded s st b status).due :=
  State.mem_notifyAll_due.2 (.inr h)

end command

/-! ### A completion with status LOST (R19, R20) -/

section lost
variable {b : Buffer} (some_set : b.sets ≠ []) (invalid : ∀ x ∈ b.sets, ∀ c : Fin 8, x.samples[c].valid = false)
include some_set invalid

/-- A buffer of invalid samples has no valid channel. -/
theorem Buffer.channelValid_of_lost (c : Fin 8) : b.channelValid c = false := by
  obtain ⟨x, hx⟩ := List.exists_mem_of_ne_nil _ some_set
  rw [← Bool.not_eq_true, Buffer.channelValid_iff]
  exact fun valid => Bool.false_ne_true ((invalid x hx c).symm.trans (valid x hx))

theorem Buffer.meanSquare_of_lost (c : Fin 8) : b.meanSquare c = none := by
  simp [Buffer.meanSquare, Buffer.channelValid_of_lost some_set invalid]

theorem Buffer.power_of_lost : b.power = none := by
  simp [Buffer.power, Buffer.channelValid_of_lost some_set invalid]

end lost

end Sys2Proof.Machine

open Sys2Proof Sys2Proof.Machine

/-- Settles O7: the record of an OK completion field by field, and that of a LOST one with no valid channel. -/
theorem cycleRecordsAreMade : Obligations.CycleRecordsAreMade := by
  unfold Obligations.CycleRecordsAreMade
  refine ⟨fun s st b hst hb hok hs => ?_, fun s st b hst hb hlost some_set invalid hs => ?_⟩
  · refine ⟨recorded s st b .ok, (exec_cmeCycleRecord hst hb hok).trans (done_of_quiet hs recorded_quiet), recorded_eq,
      ?_⟩
    rw [recorded_cme]
    refine ⟨_, rfl, rfl, rfl, rfl, rfl, ⟨History.step_eq _ _ _, History.step_eq _ _ _⟩, fun c => ?_, ?_, rfl, rfl,
      fun d hd => recorded_told hd⟩
    · rw [makeRecord_ms, makeRecord_rms, Buffer.meanSquare_eq]
      simp only [Buffer.channelValid_iff]
      split_ifs
      · exact ⟨_, rfl, rfl, rfl⟩
      · exact ⟨rfl, rfl⟩
    · have power := b.power_eq
      split_ifs with valid
      · rw [if_pos valid] at power
        refine ⟨_, power, rfl, ?_⟩
        cases flp : st.station.flp <;> simp [makeRecord, loadOf, power, flp]
      · rw [if_neg valid] at power
        exact ⟨power, by simp [makeRecord, loadOf, power]⟩
  · refine ⟨recorded s st b .lost, (exec_cmeCycleRecord hst hb hlost).trans (done_of_quiet hs recorded_quiet),
      recorded_eq, ?_⟩
    rw [recorded_cme]
    have ms := Buffer.meanSquare_of_lost some_set invalid
    have power := Buffer.power_of_lost some_set invalid
    refine ⟨_, rfl, rfl, rfl, rfl, rfl, fun c => ?_, power, ?_, rfl, rfl, rfl, ?_, ?_⟩
    · rw [makeRecord_rms, makeRecord_ms, ms]
      exact ⟨rfl, rfl⟩
    · simp [makeRecord, loadOf, power]
    · simp [makeRecord, liveState, ms]
    · simp [makeRecord, liveState, ms]

end

section
/-! PROOFS. The frequencies and the angle of a cycle record (R15, R16). -/

namespace Sys2Proof.Machine

/-- The representative within half a period, from the remainder. -/
theorem reduceHalfOpen_cases (p x : Int) :
    reduceHalfOpen p x = if 2 * (x % p) ≥ p then x % p - p else x % p := rfl

/-- The reduction of R16: the whole periods are taken off that bring the difference to within half a period. -/
theorem reduceHalfOpen_eq {p : Int} (hp : 0 < p) (x : Int) :
    reduceHalfOpen p x = x - p * ((2 * x + p) / (2 * p)) := by
  have split := Int.mul_ediv_add_emod x p
  have low := Int.emod_nonneg x hp.ne'
  have high := Int.emod_lt_of_pos x hp
  rw [reduceHalfOpen_cases]
  split_ifs with upper
  · have quotient : (2 * x + p) / (2 * p) = x / p + 1 :=
      (Int.ediv_eq_iff_of_pos (by omega)).2 (by constructor <;> nlinarith)
    rw [quotient, mul_add, mul_one]
    omega
  · have quotient : (2 * x + p) / (2 * p) = x / p :=
      (Int.ediv_eq_iff_of_pos (by omega)).2 (by constructor <;> nlinarith)
    rw [quotient]
    omega

/-- The reduced difference lies within half a period, the lower half closed. -/
theorem reduceHalfOpen_bounds {p : Int} (hp : 0 < p) (x : Int) :
    0 ≤ 2 * reduceHalfOpen p x + p ∧ 2 * reduceHalfOpen p x < p := by
  have low := Int.emod_nonneg x hp.ne'
  have high := Int.emod_lt_of_pos x hp
  rw [reduceHalfOpen_cases]
  split_ifs <;> omega

/-- A difference within half a period is an angle of -179.99 to 180.00 degrees. -/
theorem angle_bounds {p d : Int} (hp : 0 < p) (low : 0 ≤ 2 * d + p) (high : 2 * d < p) :
    -17999 ≤ -(Int.tdiv (36000 * d) p) ∧ -(Int.tdiv (36000 * d) p) ≤ 18000 := by
  rcases le_or_gt 0 d with pos | neg
  · rw [Int.tdiv_eq_ediv_of_nonneg (by omega)]
    have upper : 36000 * d / p < 18000 := Int.ediv_lt_of_lt_mul hp (by omega)
    have lower : 0 ≤ 36000 * d / p := Int.ediv_nonneg (by omega) hp.le
    omega
  · rw [← Int.neg_tdiv, Int.tdiv_eq_ediv_of_nonneg (by omega)]
    have upper : -(36000 * d) / p ≤ 18000 := Int.ediv_le_of_le_mul hp (by omega)
    have lower : 0 ≤ -(36000 * d) / p := Int.ediv_nonneg (by omega) hp.le
    omega

/-! ### Frequencies (R15) -/

/-- A period is known when both crossings are. -/
theorem History.period_eq_some_iff (h : History) (p : Nat) :
    h.period = some p ↔ ∃ t0 t1, h.t0 = some t0 ∧ h.t1 = some t1 ∧ (t1 - t0).toNat = p := by
  cases h0 : h.t0 <;> cases h1 : h.t1 <;> simp [History.period, h0, h1]

/-- Without two crossings, and on a channel that is not valid, there is no frequency. -/
theorem frequency_eq_none {rate : Nat} {valid : Bool} {h : History}
    (absent : h.t0 = none ∨ h.t1 = none ∨ valid = false) : frequency rate valid h = none := by
  cases period : h.period with
  | none => simp [frequency, period]
  | some p =>
    obtain ⟨t0, t1, h0, h1, -⟩ := (h.period_eq_some_iff p).1 period
    have invalid : valid = false := by simpa [h0, h1] using absent
    simp [frequency, period, invalid]

/-- On a valid channel the frequency of two crossings is that of their period, within the window. -/
theorem frequency_eq_of_crossings {rate : Nat} {h : History} {t0 t1 : CrossTime} (h0 : h.t0 = some t0)
    (h1 : h.t1 = some t1) :
    frequency rate true h =
      if 40000 ≤ rate * 256 * 1000 / (t1 - t0).toNat ∧ rate * 256 * 1000 / (t1 - t0).toNat ≤ 70000 then
        some ((rate * 256 * 1000 / (t1 - t0).toNat : Nat) : Int) else none := by
  simp [frequency, (h.period_eq_some_iff _).2 ⟨t0, t1, h0, h1, rfl⟩]

/-- A frequency is computed from a period above 0. -/
theorem period_of_frequency {rate : Nat} {valid : Bool} {h : History} (f : (frequency rate valid h).isSome) :
    ∃ p, h.period = some p ∧ 0 < p := by
  cases period : h.period with
  | none => simp [frequency, period] at f
  | some p =>
    refine ⟨p, rfl, Nat.pos_of_ne_zero fun zero => ?_⟩
    simp [frequency, period, zero] at f

/-! ### The angle (R16) -/

/-- The angle is computed from the latest crossings and the bus period, when both frequencies are present. -/
theorem theta_eq_some_iff (fLine fBus : Option Int) (line bus : History) (a : Int) :
    theta fLine fBus line bus = some a ↔
      fLine.isSome ∧ fBus.isSome ∧ ∃ l, line.t1 = some l ∧ ∃ b, bus.t1 = some b ∧ ∃ p, bus.period = some p ∧
        phaseAngle l b p = a := by
  cases fLine <;> cases fBus <;> cases hl : line.t1 <;> cases hb : bus.t1 <;> cases hp : bus.period <;>
    simp [theta, hl, hb, hp]

section record
variable {st : StationSettings} {b : Buffer} {warm : Nat} {line bus : History}

/-- The line frequency and the bus frequency are those of channels 0 and 3. -/
theorem makeRecord_frequencies :
    (makeRecord st b .ok warm line bus).fLine = frequency (48 * st.fnom) (b.channelValid 0) line ∧
      (makeRecord st b .ok warm line bus).fBus = frequency (48 * st.fnom) (b.channelValid 3) bus := ⟨rfl, rfl⟩

/-- The angle is present when both frequencies are. -/
theorem makeRecord_theta_isSome :
    (makeRecord st b .ok warm line bus).theta.isSome ↔
      (makeRecord st b .ok warm line bus).fLine.isSome ∧ (makeRecord st b .ok warm line bus).fBus.isSome := by
  refine ⟨fun h => ?_, fun ⟨hl, hb⟩ => ?_⟩
  · obtain ⟨a, ha⟩ := Option.isSome_iff_exists.1 h
    obtain ⟨hl, hb, -⟩ := (theta_eq_some_iff _ _ _ _ a).1 ha
    exact ⟨hl, hb⟩
  · obtain ⟨lp, line_period, -⟩ := period_of_frequency hl
    obtain ⟨bp, bus_period, -⟩ := period_of_frequency hb
    obtain ⟨-, l, -, line_t1, -⟩ := (line.period_eq_some_iff lp).1 line_period
    obtain ⟨-, b1, -, bus_t1, -⟩ := (bus.period_eq_some_iff bp).1 bus_period
    exact Option.isSome_iff_exists.2
      ⟨_, (theta_eq_some_iff _ _ _ _ _).2 ⟨hl, hb, l, line_t1, b1, bus_t1, bp, bus_period, rfl⟩⟩

end record

end Sys2Proof.Machine

open Sys2Proof Sys2Proof.Machine

/-- Settles O8: the frequencies by their periods, the angle by the reduction to within half a bus period. -/
theorem cycleRecordFrequenciesAndAngle : Obligations.CycleRecordFrequenciesAndAngle := by
  unfold Obligations.CycleRecordFrequenciesAndAngle
  intro s st b hst hb hok frequencyOf
  have frequencies (c : Fin 8) (h : History) :
      frequencyOf c h (frequency (48 * st.station.fnom) (b.channelValid c) h) := by
    have channel_invalid : (∃ x ∈ b.sets, x.samples[c].valid = false) → b.channelValid c = false := by
      rintro ⟨x, hx, invalid⟩
      rw [← Bool.not_eq_true, Buffer.channelValid_iff]
      exact fun valid => Bool.false_ne_true (invalid.symm.trans (valid x hx))
    refine ⟨fun absent => frequency_eq_none (absent.imp_right (Or.imp_right channel_invalid)),
      fun t0 h0 t1 h1 valid => ?_⟩
    rw [(b.channelValid_iff c).2 valid]
    exact frequency_eq_of_crossings h0 h1
  refine ⟨_, exec_cmeCycleRecord hst hb hok, ?_⟩
  rw [publish_cme, settle_cme, recorded_cme]
  refine ⟨_, rfl, frequencies 0 _, frequencies 3 _, makeRecord_theta_isSome, fun a ha => ?_⟩
  obtain ⟨-, fBus, l, line_t1, b1, bus_t1, p, bus_period, rfl⟩ := (theta_eq_some_iff _ _ _ _ a).1 ha
  obtain ⟨q, hq, pos⟩ := period_of_frequency fBus
  obtain rfl : q = p := by simpa [hq] using bus_period
  obtain ⟨b0, b1', bus_t0, bus_t1', rfl⟩ := (History.period_eq_some_iff _ q).1 hq
  obtain rfl : b1' = b1 := by simpa [bus_t1'] using bus_t1
  have hp : (0 : Int) < (b1' - b0).toNat := by exact_mod_cast pos
  obtain ⟨low, high⟩ := reduceHalfOpen_bounds hp (l - b1').toInt
  obtain ⟨least, greatest⟩ := angle_bounds hp low high
  unfold phaseAngle
  rw [Int.zero_sub]
  refine ⟨least, greatest, l, line_t1, b1', bus_t1, b0, bus_t0, ?_⟩
  rw [reduceHalfOpen_eq hp] at *
  exact ⟨low, high, rfl⟩

end

section
/-! PROOFS. The protection element set (R22 to R35): what the evaluation and the updates of the set leave in each
element, in the phases and in the transfer set. -/

namespace Sys2Proof.Machine

/-! ### The element vector -/

/-- The element at a place of the vector is the one with the number one above. -/
theorem elementIdx_injective : Function.Injective elementIdx :=
  Function.LeftInverse.injective (g := fun i : Fin 10 => allElements[i.val]) fun e => by cases e <;> rfl

section set
variable (x : Pes) (e f : ElementNo) (v : Element)

@[simp] theorem Pes.set_phases : (x.set e v).phases = x.phases := rfl
@[simp] theorem Pes.set_transfers : (x.set e v).transfers = x.transfers := rfl

@[simp] theorem Pes.el_set_same : (x.set e v).el e = v := by
  simp [Pes.set, Pes.el]

theorem Pes.el_set_ne (h : f ≠ e) : (x.set e v).el f = x.el f := by
  have places : (elementIdx e).val ≠ (elementIdx f).val := fun k => h (elementIdx_injective (Fin.ext k.symm))
  simp [Pes.set, Pes.el, places]

end set

@[simp] theorem Pes.reset_el (e : ElementNo) : Pes.reset.el e = Element.reset := by
  simp [Pes.el, Pes.reset]

@[simp] theorem Pes.reset_phases (i : Fin 3) : Pes.reset.phases[i] = Phase.reset := by
  simp [Pes.reset]

/-! ### A cycle evaluation -/

section evaluate
variable {st : Settings} {b : BreakerState} {r : Record} {x : Pes}

@[simp] theorem Pes.evaluate_e1 : (x.evaluate st b r).el .e1 = x.el .e1 := rfl
@[simp] theorem Pes.evaluate_e2 : (x.evaluate st b r).el .e2 = x.el .e2 := rfl
@[simp] theorem Pes.evaluate_transfers : (x.evaluate st b r).transfers = x.transfers := rfl

theorem Pes.evaluate_phases :
    (x.evaluate st b r).phases = if st.inService .e5 then stepPhases st.pes r x.phases else x.phases := rfl

theorem Pes.evaluate_e5 :
    (x.evaluate st b r).el .e5 =
      if st.inService .e5 then element5 r (x.evaluate st b r).phases else x.el .e5 := rfl

/-- A definite-time element takes its own step. -/
theorem Pes.evaluate_definite {e : ElementNo} {d : Definite} (h : st.pes.definite e = some d) :
    (x.evaluate st b r).el e = stepDefinite st b r e (x.el e) := by
  cases e
  case e1 | e2 | e5 => cases h
  all_goals rfl

/-- Each phase takes its own step, on the MS of its channel. -/
theorem stepPhases_get (p : PesSettings) (ps : Vector Phase 3) (i : Fin 3) :
    (stepPhases p r ps)[i] = stepPhase p r r.ms[i.val + 4] ps[i] := by
  fin_cases i <;> rfl

end evaluate

end Sys2Proof.Machine
end

section
/-! PROOFS. The invariant of the protection elements (R25, R27, R30, R34): the counters and accumulators, the transfer
set, and what each command that writes them, the station state or the settings does to it. -/

namespace Sys2Proof.Machine

/-! ### The parts of the invariant -/

/-- The counter of a definite-time element agrees with its state (R27). -/
def Element.Counts (x : Element) (delay : Nat) : Prop :=
  (x.state = .dropped → x.counter = 0) ∧ (x.state = .pickedUp → 1 ≤ x.counter ∧ x.counter ≤ delay) ∧
    (x.state = .operated → x.counter = delay + 1)

/-- The accumulators stay in range and the counters agree with their states (R27, R30). -/
def Pes.Counts (x : Pes) (p : PesSettings) : Prop :=
  (∀ i : Fin 3, x.phases[i].acc ≤ p.accFull) ∧ ∀ e d, p.definite e = some d → (x.el e).Counts d.delay

/-- A transfer set lists at most 30 origins, and each once (R34). -/
def OriginsKept (xs : List Origin) : Prop := xs.length ≤ 30 ∧ (xs.map fun o => o.station).Nodup

theorem protectionKept_iff (s : State) :
    ProtectionKept s ↔
      (s.ssc.station = .start → s.settings = none ∧ s.pes = Pes.reset) ∧ s.ssc.returnState ≠ some .start ∧
        OriginsKept s.pes.transfers ∧ ∀ st, s.settings = some st → s.pes.Counts st.pes :=
  ⟨fun ⟨start, ret, len, once, counts⟩ => ⟨start, ret, ⟨len, once⟩, counts⟩,
    fun ⟨start, ret, ⟨len, once⟩, counts⟩ => ⟨start, ret, len, once, counts⟩⟩

/-! ### Elements and phases -/

theorem Element.reset_counts (delay : Nat) : Element.reset.Counts delay := ⟨fun _ => rfl, nofun, nofun⟩

/-- One step of the table of R27 keeps the counter in agreement with the state. -/
theorem Definite.step_counts {d : Definite} {q : Int} {x : Element} (h : x.Counts d.delay) :
    (d.step q x).Counts d.delay := by
  obtain ⟨-, picked, operated⟩ := h
  unfold Definite.step
  split
  · split
    · by_cases instant : d.delay = 0 <;> simp [Element.Counts, instant]; omega
    · exact Element.reset_counts _
  · next state =>
    have := picked state
    split
    · exact Element.reset_counts _
    · by_cases last : x.counter = d.delay <;> simp [Element.Counts, last]; omega
  · next state =>
    split
    · exact Element.reset_counts _
    · simp [Element.Counts, state, operated state]

theorem stepDefinite_counts {st : Settings} {b : BreakerState} {r : Record} {e : ElementNo} {x : Element} {d : Definite}
    (hd : st.pes.definite e = some d) (h : x.Counts d.delay) : (stepDefinite st b r e x).Counts d.delay := by
  have held : ({ x with held := true } : Element).Counts d.delay := h
  unfold stepDefinite
  rw [hd]
  split
  · exact h
  split
  · exact Element.reset_counts _
  split
  · next d' q heq _ =>
    obtain rfl : d = d' := Option.some.inj heq
    split
    · exact held
    · exact Definite.step_counts h
  · exact held

theorem stepPhase_acc_le {p : PesSettings} {r : Record} {ms : Option Nat} {x : Phase} (h : x.acc ≤ p.accFull) :
    (stepPhase p r ms x).acc ≤ p.accFull := by
  unfold stepPhase
  split
  · exact h
  split
  · exact h
  · unfold Phase.step
    dsimp only
    split
    · exact min_le_right _ _
    · exact (Nat.sub_le _ _).trans h

/-! ### The element set -/

section pes
variable {x : Pes} {p : PesSettings}

theorem Pes.reset_counts : Pes.reset.Counts p := by
  refine ⟨fun i => ?_, fun e d _ => ?_⟩
  · rw [Pes.reset_phases]
    exact Nat.zero_le _
  · rw [Pes.reset_el]
    exact Element.reset_counts _

/-- Elements 1 and 2 have no counter to keep. -/
theorem Pes.Counts.set {e : ElementNo} (h : x.Counts p) (hd : p.definite e = none) (v : Element) :
    (x.set e v).Counts p := by
  refine ⟨h.1, fun f d hf => ?_⟩
  rw [Pes.el_set_ne _ _ _ _ (by rintro rfl; simp [hd] at hf)]
  exact h.2 f d hf

theorem Pes.Counts.evaluate {st : Settings} {b : BreakerState} {r : Record} (h : x.Counts st.pes) :
    (x.evaluate st b r).Counts st.pes := by
  refine ⟨fun i => ?_, fun e d hd => ?_⟩
  · rw [Pes.evaluate_phases]
    split
    · rw [stepPhases_get]
      exact stepPhase_acc_le (h.1 i)
    · exact h.1 i
  · rw [Pes.evaluate_definite hd]
    exact stepDefinite_counts hd (h.2 e d hd)

end pes

/-! ### Transfer sets -/

theorem Pes.hasOrigin_iff (x : Pes) (n : StationNo) : x.hasOrigin n = true ↔ ∃ o ∈ x.transfers, o.station = n := by
  simp [Pes.hasOrigin]

theorem OriginsKept.sublist {xs ys : List Origin} (h : OriginsKept xs) (k : ys.Sublist xs) : OriginsKept ys :=
  ⟨k.length_le.trans h.1, h.2.sublist (k.map _)⟩

/-- A confirmation leaves the stations of the set. -/
theorem OriginsKept.confirm {xs : List Origin} (h : OriginsKept xs) (n : StationNo) (t : Time) :
    OriginsKept (xs.map fun o => if o.station = n then { o with confirmed := t } else o) := by
  have stations : (xs.map fun o => if o.station = n then { o with confirmed := t } else o).map (fun o => o.station) =
      xs.map fun o => o.station := by
    rw [List.map_map]
    exact List.map_congr_left fun o _ => by simp only [Function.comp]; split <;> rfl
  exact ⟨by simpa using h.1, stations ▸ h.2⟩

/-- A new origin finds its place among at most 29 others, none of its own number. -/
theorem OriginsKept.add {xs : List Origin} (h : OriginsKept xs) {own : StationNo} {o : Origin}
    (new : ∀ y ∈ xs, y.station ≠ o.station) : OriginsKept (roomForOrigin own xs ++ [o]) := by
  obtain ⟨sub, len⟩ := roomForOrigin_le own xs
  refine ⟨by simp; omega, ?_⟩
  rw [List.map_append, List.nodup_append]
  refine ⟨(h.sublist sub).2, List.nodup_singleton _, fun a ha b hb => ?_⟩
  obtain ⟨y, hy, rfl⟩ := List.mem_map.1 ha
  obtain rfl : b = o.station := by simpa using hb
  exact new y (sub.subset hy)

/-! ### What the invariant reads -/

/-- The fields that the invariant does not read. -/
def asideFields : List Fld :=
  [.localTime, .pins, .siu, .cme, .bkc, .cds, .sli, .ptb, .syn, .lsc, .csq, .drc, .due, .freeCount, .pending]

section kept
variable {s t : State}

theorem ProtectionKept.aside (h : ProtectionKept s) (k : Only asideFields s t) : ProtectionKept t := by
  have pes : t.pes = s.pes := k.get .pes (by decide)
  have ssc : t.ssc = s.ssc := k.get .ssc (by decide)
  have settings : t.settings = s.settings := k.get .settings (by decide)
  unfold ProtectionKept
  rwa [pes, ssc, settings]

/-- No command but RESET leads into START. -/
theorem ProtectionKept.withSsc (h : ProtectionKept s) {x : Ssc} (station : x.station = .start → s.ssc.station = .start)
    (ret : x.returnState ≠ some .start) : ProtectionKept (s.withSsc x) :=
  ⟨fun k => h.1 (station k), ret, h.2.2⟩

/-- With settings in force the element set may become any that counts as they say. -/
theorem ProtectionKept.withPes (h : ProtectionKept s) {st : Settings} (hst : s.settings = some st) {x : Pes}
    (origins : OriginsKept x.transfers) (counts : x.Counts st.pes) : ProtectionKept (s.withPes x) := by
  obtain ⟨start, ret, -, -⟩ := (protectionKept_iff s).1 h
  refine (protectionKept_iff _).2 ⟨fun k => ?_, ret, origins, fun st' hst' => ?_⟩
  · simp [hst] at start
    exact absurd k start
  · obtain rfl : st = st' := by simpa [hst] using hst'
    exact counts

theorem ProtectionKept.origins (h : ProtectionKept s) : OriginsKept s.pes.transfers :=
  ((protectionKept_iff s).1 h).2.2.1

theorem ProtectionKept.counts (h : ProtectionKept s) {st : Settings} (hst : s.settings = some st) :
    s.pes.Counts st.pes :=
  ((protectionKept_iff s).1 h).2.2.2 st hst

end kept

end Sys2Proof.Machine
end

section
/-! PROOFS. What each operation that writes the elements, the station state or the settings does to the invariant of the
protection elements. -/

namespace Sys2Proof.Machine

variable {s : State}

/-! ### Shared operations -/

theorem ProtectionKept.inForce {act : Settings → State → State} (h : ProtectionKept s)
    (ha : ∀ st, s.settings = some st → ProtectionKept (act st s)) : ProtectionKept (s.inForce act) := by
  unfold State.inForce
  split
  · exact h
  · exact ha _ ‹_›

theorem ProtectionKept.reach (h : ProtectionKept s) (due : Time) : ProtectionKept (s.reach due) :=
  h.aside (Only.reach due (by decide) Only.refl)

theorem ProtectionKept.take (h : ProtectionKept s) (d : Delivery) : ProtectionKept (s.take d) :=
  h.aside (Only.take d (by decide) Only.refl)

theorem ProtectionKept.withCsq (h : ProtectionKept s) (x : Csq) : ProtectionKept (s.withCsq x) :=
  h.aside (Only.withCsq (by decide) Only.refl x)

theorem ProtectionKept.withSli (h : ProtectionKept s) (x : Sli) : ProtectionKept (s.withSli x) :=
  h.aside (Only.withSli (by decide) Only.refl x)

theorem ProtectionKept.expire {tm : Timer} {act : State → State} (h : ProtectionKept s)
    (ha : ∀ u, ProtectionKept u → ProtectionKept (act u)) : ProtectionKept (expire tm s act) := by
  cases tm with
  | none => exact h
  | some due => exact ha _ (h.reach due)

/-- Of a line that it does not hear, and in START, the station takes no part. -/
theorem ProtectionKept.hearing {act : State → State} (h : ProtectionKept s)
    (ha : ∀ u, u.ssc.station ≠ .start → ProtectionKept u → ProtectionKept (act u)) :
    ProtectionKept (s.hearing act) := by
  unfold State.hearing State.onLine
  split
  · exact h
  · next working =>
    dsimp only
    split
    · exact ha _ working (h.withSli _)
    · exact h

/-! ### Service states -/

/-- RUN_REQUEST is no part of the invariant. -/
theorem ProtectionKept.run (h : ProtectionKept s) (b : Bool) : ProtectionKept (s.run b) := h.withSsc id h.2.1

theorem ProtectionKept.enterConflict (h : ProtectionKept s) (working : s.ssc.station ≠ .start) :
    ProtectionKept (enterConflict s) := by
  unfold Machine.enterConflict
  split
  · exact h
  · refine (h.withSli _).withSsc ?_ ?_ <;> unfold Ssc.enterConflict <;> split
    · exact id
    · nofun
    · exact h.2.1
    · simpa using working

theorem serviceState_ne_start (st : Settings) : serviceState st ≠ .start := by
  unfold serviceState
  split <;> decide

theorem returnedState_ne_start {st : Settings} {warm : Nat} {r : StationState} (h : r ≠ .start) :
    returnedState st warm r ≠ .start := by
  unfold returnedState
  split
  · split
    · exact serviceState_ne_start st
    · decide
  · split
    · exact serviceState_ne_start st
    · decide
  · exact h

theorem ProtectionKept.leaveAddressConflict (h : ProtectionKept s) : ProtectionKept (leaveAddressConflict s) := by
  unfold Machine.leaveAddressConflict
  refine h.inForce fun st _ => ?_
  split
  · exact h
  · next r hr =>
    have away : r ≠ .start := fun k => h.2.1 (hr.trans (congrArg some k))
    exact h.withSsc (fun k => absurd k (returnedState_ne_start away)) nofun

theorem ProtectionKept.enterSettingsFault (h : ProtectionKept s) : ProtectionKept (enterSettingsFault s) :=
  have fault : ProtectionKept
      (s.withSsc { s.ssc with station := .settingsFault, reading := false, readRetry := none }) :=
    h.withSsc nofun h.2.1
  fault.aside
    (Only.beginService (by decide) (by decide) (by decide) (by decide) (by decide) Only.refl)

theorem ProtectionKept.failAttempt (h : ProtectionKept s) : ProtectionKept (failAttempt s) := by
  unfold Machine.failAttempt
  split
  · exact h.enterSettingsFault
  · exact h.withSsc id h.2.1

/-- The settings come into force on an element set that stands reset (R195). -/
theorem ProtectionKept.enterPresence (h : ProtectionKept s) (start : s.ssc.station = .start) (st : Settings)
    (clamped : Bool) : ProtectionKept (enterPresence st clamped s) := by
  have reset : s.pes = Pes.reset := (h.1 start).2
  have begun : ProtectionKept ((s.withSettings (some st)).withSsc { s.ssc with
      station := .presence, clamped := clamped, reading := false, readRetry := none, presenceTimer := s.after 100,
      runRequest := st.station.role == .generator && s.input .genReady }) := by
    refine (protectionKept_iff _).2 ⟨nofun, h.2.1, h.origins, fun st' _ => ?_⟩
    simp only [State.withSsc_pes, State.withSettings_pes, reset]
    exact Pes.reset_counts
  exact begun.aside
    (Only.beginService (by decide) (by decide) (by decide) (by decide) (by decide)
      (Only.startBreaker (by decide) (by decide) (by decide) (by decide) (Only.withSli (by decide) Only.refl _)))

/-! ### The changeover sequencer, which energizes RUN_REQUEST -/

theorem ProtectionKept.csqEvent {act : Settings → State → State} (h : ProtectionKept s)
    (ha : ∀ st, ProtectionKept (act st s)) : ProtectionKept (csqEvent act s) :=
  h.inForce fun st _ => (ha st).aside (Only.csqTick st (by decide) (by decide) (by decide) (by decide) Only.refl)

theorem ProtectionKept.whenRunning {act : Settings → State → State} {st : Settings} (h : ProtectionKept s)
    (ha : ProtectionKept (act st s)) : ProtectionKept (whenRunning act st s) := by
  unfold Machine.whenRunning
  split
  · exact ha
  · exact h

theorem ProtectionKept.toReadyOrStarting (h : ProtectionKept s) (st : Settings) :
    ProtectionKept (toReadyOrStarting st s) := by
  unfold Machine.toReadyOrStarting
  dsimp only
  split <;> exact (h.withCsq _).run true

theorem ProtectionKept.enterOnline (h : ProtectionKept s) : ProtectionKept (enterOnline s) :=
  ((h.withCsq _).run true).aside (Only.onlineNotice (by decide) Only.refl)

theorem ProtectionKept.toCsq (h : ProtectionKept s) (x : CsqState) : ProtectionKept (s.toCsq x) := h.withCsq _

theorem ProtectionKept.toCooldown (h : ProtectionKept s) (st : Settings) : ProtectionKept (toCooldown st s) :=
  h.withCsq _

theorem ProtectionKept.overlapOrNormal (h : ProtectionKept s) (st : Settings) :
    ProtectionKept (overlapOrNormal st s) :=
  h.aside (Only.overlapOrNormal st (by decide) Only.refl)

theorem ProtectionKept.derive (h : ProtectionKept s) (st : Settings) : ProtectionKept (derive st s) := by
  unfold Machine.derive
  split
  · split_ifs
    · exact h.toCsq _
    · exact h.toCsq _
    · exact h.aside (Only.returnOrLost st (by decide) Only.refl)
  · split_ifs
    · exact h.toCsq _
    · exact h.enterOnline
    · exact h.toCsq _
    · exact h.toReadyOrStarting st
    · exact h.toCooldown st
    · exact h.toCsq _
  · split_ifs
    · exact h.toCsq _
    · exact h.withCsq _
    · exact h.toCsq _
  · split_ifs
    · exact h.toCsq _
    · exact h.toCsq _
    · exact h.withCsq _
    · exact h.toCsq _

theorem ProtectionKept.roleRecord (h : ProtectionKept s) (st : Settings) : ProtectionKept (roleRecord st s) := by
  unfold Machine.roleRecord
  split
  · exact h.aside (Only.incomerRecord st (by decide) Only.refl)
  · unfold Machine.generatorRecord
    split <;> split_ifs <;> first | exact h | exact h.toCooldown st | exact h.enterOnline
  · exact h.aside (Only.tieRecord (by decide) Only.refl)
  · exact h.aside (Only.feederRecord st (by decide) Only.refl)

theorem ProtectionKept.roleOutcome (h : ProtectionKept s) (o : SynOutcome) (st : Settings) :
    ProtectionKept (roleOutcome o st s) := by
  unfold Machine.roleOutcome
  split
  · split_ifs
    · exact h
    · exact h.overlapOrNormal st
    · exact h.withCsq _
  · split_ifs
    · exact h
    · exact h.enterOnline
    · exact h.toCsq _
  · split_ifs
    · exact h
    · exact h.toCsq _
    · exact h.withCsq _
  · exact h

theorem ProtectionKept.takeOutcome (h : ProtectionKept s) (o : SynOutcome) (st : Settings) :
    ProtectionKept (takeOutcome o st s) := by
  unfold Machine.takeOutcome
  split
  · exact h.withCsq _
  · exact (h.withCsq _).whenRunning ((h.withCsq _).roleOutcome o st)

theorem ProtectionKept.csqResetAlarm (h : ProtectionKept s) : ProtectionKept (csqResetAlarm s) := by
  have cleared := h.withCsq { s.csq with startFailed := false, blocked := false }
  refine cleared.csqEvent fun st => cleared.whenRunning ?_
  dsimp only
  split
  · exact cleared.toCsq _
  · exact cleared.derive st
  · exact cleared

/-! ### The element set -/

/-- What a PES event tells the other blocks is no part of the invariant. -/
theorem ProtectionKept.pesFinish (h : ProtectionKept s) (station : StationState) (before : Pes)
    (claim : Option TripCause) : ProtectionKept (pesFinish station before claim s) :=
  h.aside (Only.pesFinish _ _ _ (by decide) (by decide) (by decide) (by decide) Only.refl)

theorem ProtectionKept.publishPes (h : ProtectionKept s) (afterCycle : Bool) :
    ProtectionKept (publishPes afterCycle s) :=
  h.aside (Only.publishPes _ (by decide) Only.refl)

/-- Element 1 or 2 takes another state. -/
theorem ProtectionKept.setElement (h : ProtectionKept s) {st : Settings} (hst : s.settings = some st) {e : ElementNo}
    (he : st.pes.definite e = none) (v : Element) : ProtectionKept (s.withPes (s.pes.set e v)) :=
  h.withPes hst h.origins ((h.counts hst).set he v)

/-- The transfer set becomes another. -/
theorem ProtectionKept.withTransfers (h : ProtectionKept s) {st : Settings} (hst : s.settings = some st)
    {xs : List Origin} (origins : OriginsKept xs) : ProtectionKept (s.withPes { s.pes with transfers := xs }) :=
  h.withPes hst origins (h.counts hst)

theorem ProtectionKept.takeExtTrip (h : ProtectionKept s) {st : Settings} (hst : s.settings = some st)
    (station : StationState) (before : Pes) : ProtectionKept (takeExtTrip station before st s) := by
  unfold Machine.takeExtTrip
  split_ifs
  · exact h.pesFinish _ _ _
  · exact (h.setElement hst rfl _).pesFinish _ _ _
  · exact h.pesFinish _ _ _
  · exact (h.setElement hst rfl _).pesFinish _ _ _

theorem ProtectionKept.extTripChange (h : ProtectionKept s) : ProtectionKept (extTripChange s) := by
  refine h.inForce fun st hst => ?_
  split
  · exact (h.takeExtTrip hst _ _).publishPes _
  · exact h

theorem ProtectionKept.takePassage (h : ProtectionKept s) {st : Settings} (hst : s.settings = some st)
    (a b : StationState) : ProtectionKept (takePassage a b st s) := by
  have reset : ProtectionKept (s.withPes Pes.reset) :=
    h.withPes hst ⟨by decide, List.nodup_nil⟩ Pes.reset_counts
  unfold Machine.takePassage
  split_ifs
  · exact reset
  · exact reset.takeExtTrip hst _ _
  · exact h.takeExtTrip hst _ _
  · exact h

theorem ProtectionKept.takeTransfer (h : ProtectionKept s) {st : Settings} (hst : s.settings = some st) (n : StationNo)
    (sections : SectionSet) : ProtectionKept (takeTransfer st n sections s) := by
  unfold Machine.takeTransfer
  dsimp only
  split
  · exact (h.withTransfers hst (h.origins.confirm n _)).pesFinish _ _ _
  · next unknown =>
    have new : ∀ o ∈ s.pes.transfers, o.station ≠ n := fun o ho k => unknown ((s.pes.hasOrigin_iff n).2 ⟨o, ho, k⟩)
    have added : OriginsKept (roomForOrigin s.sli.ownNumber s.pes.transfers ++
        [{ station := n, sections := sections, confirmed := s.localTime }]) := h.origins.add new
    split_ifs
    · exact ((h.withTransfers hst added).setElement (e := .e2) hst rfl _).pesFinish _ _ _
    · exact (h.withTransfers hst added).pesFinish _ _ _
    · exact h

/-- Before the settings are in force there is no origin to remove. -/
theorem ProtectionKept.removeOrigin (h : ProtectionKept s) (n : StationNo) : ProtectionKept (removeOrigin n s) := by
  unfold Machine.removeOrigin
  dsimp only
  split
  · next known =>
    obtain ⟨start, ret, origins, counts⟩ := (protectionKept_iff s).1 h
    have working : s.ssc.station ≠ .start := fun k => by simp [(start k).2, Pes.hasOrigin, Pes.reset] at known
    refine (protectionKept_iff _).2 ⟨fun k => absurd k working, ret, ?_, fun st hst => ?_⟩
    · have rest := origins.sublist (List.filter_sublist (p := fun o : Origin => o.station != n))
      simp only [State.withPes_pes]
      split <;> exact rest
    · have kept : s.pes.Counts st.pes := counts st hst
      simp only [State.withPes_pes]
      split
      · exact Pes.Counts.set (e := .e2) kept rfl _
      · exact kept
  · exact h

theorem ProtectionKept.transferNotice (h : ProtectionKept s) (n : StationNo) (sections : SectionSet) :
    ProtectionKept (transferNotice n sections s) := by
  refine h.inForce fun st hst => ?_
  split
  · exact (h.takeTransfer hst _ _).publishPes _
  · exact h

theorem ProtectionKept.transferReport (h : ProtectionKept s) (n : StationNo) (body : Option ReportBody) :
    ProtectionKept (transferReport n body s) := by
  refine h.inForce fun st hst => ?_
  split
  · exact h
  split
  · refine ProtectionKept.publishPes ?_ _
    split
    · exact h.takeTransfer hst _ _
    · exact h.removeOrigin _
  · exact h

/-- The debounced level of an input: of the blocks that use one, only the protection elements bear on the invariant. -/
theorem ProtectionKept.debounced (h : ProtectionKept s) (i : Input) : ProtectionKept (debounced i s) := by
  have timed : ProtectionKept (s.withSsc (s.ssc.setTimer i none)) := h.withSsc id h.2.1
  unfold Machine.debounced
  dsimp only
  split
  · exact timed
  · have taken : ProtectionKept (inputEvent i s.pins.raw[inputIdx i] ((s.withSsc (s.ssc.setTimer i none)).withSsc
        { s.ssc.setTimer i none with debounced := s.ssc.debounced.set (inputIdx i) s.pins.raw[inputIdx i] })) := by
      refine ProtectionKept.aside ?_ (Only.inputEvent _ _ (by decide) Only.refl)
      exact timed.withSsc id h.2.1
    by_cases trip : i = .extTrip
    · subst trip
      exact taken.extTripChange
    · refine taken.aside ?_
      cases i
      case extTrip => exact absurd rfl trip
      case bkrClosed | bkrOpen => exact Only.contactChange (by decide) (by decide) Only.refl
      case rackedIn => exact Only.rackChange (by decide) (by decide) Only.refl
      case localOpen =>
        exact Only.localOpen (by decide) (by decide) (by decide) (by decide) (by decide) Only.refl
      case localClose => exact Only.localClose (by decide) (by decide) (by decide) (by decide) Only.refl
      case lockoutReset =>
        exact Only.localLockoutReset (by decide) (by decide) (by decide) (by decide) (by decide) Only.refl
      case genReady => exact Only.csqGenReady (by decide) (by decide) (by decide) (by decide) Only.refl
      case gin1 | gin2 | gin3 | gin4 => exact Only.generalInputChange _ _ (by decide) (by decide) Only.refl
      all_goals exact Only.refl

/-! ### Frames and requests -/

theorem ProtectionKept.filtered {sender : StationNo} {act : State → State} (h : ProtectionKept s)
    (ha : ∀ u, ProtectionKept u → ProtectionKept (act u)) : ProtectionKept (filtered sender act s) := by
  refine h.hearing fun u working hu => ?_
  split_ifs
  · exact hu.enterConflict working
  · exact hu
  · exact ha u hu

theorem ProtectionKept.conflictHeard (h : ProtectionKept s) (working : s.ssc.station ≠ .start) (identity : BitVec 48)
    (contested : Byte) : ProtectionKept (conflictHeard identity contested s) := by
  unfold Machine.conflictHeard
  split_ifs
  · exact h
  · exact h
  · exact h.enterConflict working
  · exact h.aside (Only.conflictFrame _ (by decide) (by decide) Only.refl)

theorem ProtectionKept.judge {code : Byte} {known broadcastable assign : Bool} {r : Request} {owner : State → Answer}
    (h : ProtectionKept s) (ha : ProtectionKept (owner s).state) :
    ProtectionKept (judge code known broadcastable assign r owner s).state := by
  unfold Machine.judge
  split_ifs <;> first | exact ha | exact h

theorem ProtectionKept.hears {r : Request} {act : State → State} (h : ProtectionKept s)
    (ha : ∀ u, ProtectionKept u → ProtectionKept (act u)) : ProtectionKept (s.hears r act) := by
  refine h.hearing fun u _ hu => ?_
  split
  · exact hu
  · exact ha u hu

theorem ProtectionKept.intake {code : Byte} {known broadcastable : Bool} {r : Request} {owner : State → Answer}
    (h : ProtectionKept s) (ha : ∀ u, ProtectionKept u → ProtectionKept (owner u).state) :
    ProtectionKept (intake code known broadcastable r owner s) := by
  refine h.hears fun u hu => ?_
  split
  · exact (hu.judge (ha u hu)).withSli _
  · exact hu

theorem ProtectionKept.ownSetMode (h : ProtectionKept s) (r : Request) : ProtectionKept (ownSetMode r s).state := by
  have passes (m : StationState) (away : m ≠ .start) : ProtectionKept (setMode m s).state := by
    unfold setMode
    split_ifs
    · exact h
    · exact h
    · exact h
    · exact h.withSsc (fun k => absurd k away) h.2.1
  have named {b : Byte} {m : StationState} (hm : modeOfByte b = some m) : m ≠ .start := by
    unfold modeOfByte at hm
    split_ifs at hm <;> cases hm <;> decide
  unfold Machine.ownSetMode
  split
  · split
    · exact passes _ (named ‹_›)
    · exact h
  · exact h

theorem ProtectionKept.ownResetAlarm (h : ProtectionKept s) (r : Request) :
    ProtectionKept (ownResetAlarm r s).state := by
  unfold Machine.ownResetAlarm
  split
  · exact h
  · exact h.csqResetAlarm.aside (Only.withBkc (by decide) (Only.withSyn (by decide) Only.refl _) _)

theorem ProtectionKept.ownAssign (h : ProtectionKept s) (r : Request) : ProtectionKept (ownAssign r s).state := by
  have assigned (n : StationNo) : ProtectionKept (assign n s) := by
    have numbered : ProtectionKept (renumber s.sli.ownNumber n (s.withSli { s.sli with ownNumber := n })) :=
      h.aside (Only.renumber _ _ (by decide) (by decide) (Only.withSli (by decide) Only.refl _))
    unfold assign
    dsimp only
    split
    · exact (numbered.withSli _).leaveAddressConflict
    · exact numbered
  unfold Machine.ownAssign
  split
  · split
    · exact assigned _
    · exact h
  · exact h

end Sys2Proof.Machine
end

section
/-! PROOFS. Every step keeps the protection elements (R25, R27, R30, R34): the commands that write none of what the
invariant reads by their frame, the others by what their operations do to it. -/

namespace Sys2Proof.Machine

/-- The commands that write the elements, the service state or the settings; a received frame may enter a conflict
(R97), and some events of the sequence energize RUN_REQUEST. -/
def writesProtection : Instr → Bool
  | .reset _ _ | .settingsNoAcknowledge | .settingsReadRetry | .settingsImageRead _ | .presenceExpiry
  | .sscCycleCompletion | .rawInputChange _ _ | .debounceExpiry _ => true
  | .arbitrationLost _ | .tripNoticeReceived _ _ _ | .bfTransferReceived _ _ | .claimReceived _ _
  | .claimWithdrawReceived _ | .reportReceived _ _ | .inputChangeReceived _ _ _ _
  | .captureTriggerEventReceived _ _ _ _ | .dataReceived _ _ _ | .presenceReceived _ _ | .conflictReceived _ _ => true
  | .setMode _ | .resetAlarm _ | .assignNumber _ => true
  | .pesCycleEvaluation | .pesStationStateChange _ _ | .pesConflictMarking _ | .transferOriginExpiry _ => true
  | .csqBreakerRecord | .csqSynOutcome _ | .csqAutoEntry | .startDelayExpiry | .startTimerExpiry
  | .cooldownExpiry => true
  | _ => false

/-- An answer writes nothing itself. -/
theorem Only.taken {fs : List Fld} {s u : State} (k : Only fs s u) : Only fs s (Answer.take u).state := k

theorem Only.refused {fs : List Fld} {s u : State} {why : Result} (k : Only fs s u) :
    Only fs s (Answer.refuse u why).state := k

/-- The other commands end as every command ends, after an effect on fields that the invariant does not read. -/
theorem exec_only_aside (c : Instr) (s : State) (h : writesProtection c = false) :
    ∃ u, exec c s = done s u ∧ Only asideFields s u := by
  cases c
  case reset | settingsNoAcknowledge | settingsReadRetry | settingsImageRead | presenceExpiry | sscCycleCompletion
    | rawInputChange | debounceExpiry | arbitrationLost | tripNoticeReceived | bfTransferReceived | claimReceived
    | claimWithdrawReceived | reportReceived | inputChangeReceived | captureTriggerEventReceived | dataReceived
    | presenceReceived | conflictReceived | setMode | resetAlarm | assignNumber | pesCycleEvaluation
    | pesStationStateChange | pesConflictMarking | transferOriginExpiry | csqBreakerRecord | csqSynOutcome
    | csqAutoEntry | startDelayExpiry | startTimerExpiry | cooldownExpiry => cases h
  all_goals
    refine ⟨_, rfl, ?_⟩
    repeat' first
      | with_reducible exact Only.refl
      | assumption
      | decide
      | dsimp only
      | intro _
      | with_reducible first
        | apply Only.expire | apply Only.take | apply Only.inForce | apply Only.notifyAll | apply Only.reach
        -- measurement and recorder
        | apply Only.withSiu | apply Only.withCme | apply Only.recording | apply Only.levelTriggers
        | apply Only.withDrc | apply Only.takeTrigger
        -- breaker and coils
        | apply Only.atWork | apply Only.takeTrip | apply Only.takeOpening | apply Only.tellTaken
        | apply Only.takeClose | apply Only.tellRefused | apply Only.closeOff | apply Only.tripOff
        | apply Only.passTo | apply Only.tripDone | apply Only.failBreaker | apply Only.withBkc
        | apply Only.timerStart | apply Only.endStep | apply Only.abortRun | apply Only.withCds | apply Only.withPins
        -- link and peer table
        | apply Only.onLine | apply Only.hearing | apply Only.leaveFlight | apply Only.withSli
        | apply Only.placeReport | apply Only.takeBreaker | apply Only.takeSequence | apply Only.takeClaim
        | apply Only.takeService | apply Only.publishView | apply Only.setEntry | apply Only.clearConflict
        | apply Only.withPtb
        -- requests and their owners
        | apply Only.intake | apply withForce_only | apply Only.taken | apply Only.refused
        | apply Only.tellOpenRequest | apply Only.unloadOrder | apply Only.operatorClose | apply Only.lockoutClear
        | apply Only.transferTestStart | apply Only.transferTestEnd | apply Only.setInhibit
        | apply Only.retransferAtOnce | apply Only.beginRun
        -- synchronizer
        | apply Only.judgeEligible | apply Only.avrCheck | apply Only.evaluatePermit | apply Only.claimingCycle
        | apply Only.claimingView | apply Only.yieldedView | apply Only.endTold | apply Only.synCancel
        | apply Only.giveUpClaim | apply Only.withdrawClaim | apply Only.leaveYielded | apply Only.send
        | apply Only.withSyn
        -- load share controller
        | apply Only.lscEvent | apply Only.shareInterval | apply Only.endUnload | apply Only.overlapExpires
        | apply Only.overlapTest | apply Only.leaveConflict | apply Only.withLsc
        -- changeover sequencer
        | apply Only.csqEvent | apply Only.whenRunning | apply Only.feederDeadBus | apply Only.incomerEvaluated
        | apply Only.evaluateMonitor | apply Only.keepSheds | apply Only.roleView | apply Only.withdrawRequest
        | apply Only.setMonitor | apply Only.incomerDelayEnds | apply Only.toBlocked | apply Only.sequenceOpen
        | apply Only.enterShed | apply Only.judgeShed | apply Only.withCsq
      | split
      | unfold ownOpen | unfold ownClose | unfold ownResetLockout | unfold ownTransferTest | unfold ownInhibit
      | unfold ownRetransferNow | unfold ownDiagnostics | unfold ownCaptureTrigger | unfold ownDirectory
      | unfold ownRead | unfold readBlock | unfold ownRelease

/-- A reset leaves the element set at its reset value, without settings. -/
theorem protectionKept_ofPins (pins : Pins) : ProtectionKept (State.ofPins pins) := by
  have settings (st : Settings) : (State.ofPins pins).settings ≠ some st := by simp [State.ofPins]
  exact (protectionKept_iff _).2 ⟨fun _ => ⟨rfl, rfl⟩, by simp [State.ofPins, Ssc.reset],
    ⟨by simp [State.ofPins, Pes.reset], List.nodup_nil⟩, fun st hst => absurd hst (settings st)⟩

/-! ### The commands that write what the invariant reads -/

/-- A command ends as every command ends, after an effect that keeps the invariant. -/
def EndsKept (c : Instr) (s : State) : Prop := ∃ u, exec c s = done s u ∧ ProtectionKept u

section commands
variable {s : State} (h : ProtectionKept s)
include h

theorem settingsNoAcknowledge_endsKept : EndsKept .settingsNoAcknowledge s := by
  refine ⟨_, rfl, ?_⟩
  split
  · exact h.failAttempt
  · exact h

theorem settingsImageRead_endsKept (image : List Byte) : EndsKept (.settingsImageRead image) s := by
  refine ⟨_, rfl, ?_⟩
  split
  · next reading =>
    have start : s.ssc.station = .start := by
      simp only [State.readingImage, Bool.and_eq_true, beq_iff_eq] at reading
      exact reading.1
    split
    · exact h.enterPresence start _ _
    · exact h.failAttempt
    · exact h.enterSettingsFault
  · exact h

theorem presenceExpiry_endsKept : EndsKept .presenceExpiry s := by
  refine ⟨_, rfl, h.expire fun u hu => hu.withSsc ?_ hu.2.1⟩
  dsimp only
  split
  · nofun
  · exact id

theorem sscCycleCompletion_endsKept : EndsKept .sscCycleCompletion s := by
  refine ⟨_, rfl, (h.take _).inForce fun st _ => (h.take _).withSsc ?_ h.2.1⟩
  dsimp only
  split
  · exact fun k => absurd k (serviceState_ne_start st)
  · exact id

theorem rawInputChange_endsKept (i : Input) (level : Bool) : EndsKept (.rawInputChange i level) s :=
  ⟨_, rfl, (h.aside (Only.withPins (by decide) Only.refl _)).withSsc id h.2.1⟩

theorem arbitrationLost_endsKept (inIdentity : Bool) : EndsKept (.arbitrationLost inIdentity) s := by
  refine ⟨_, rfl, ?_⟩
  unfold State.onLine
  split
  · exact h
  · next working =>
    dsimp only
    split
    · exact h
    · split
      · exact (h.withSli _).enterConflict working
      · exact h.withSli _

theorem peerTrigger_filtered (sender : StationNo) : ProtectionKept (filtered sender (peerTrigger sender) s) :=
  h.filtered fun _ hu => hu.aside (Only.peerTrigger _ (by decide) (by decide) Only.refl)

theorem claimReceived_endsKept (sender : StationNo) (sections : Byte) :
    EndsKept (.claimReceived sender sections) s :=
  ⟨_, rfl, h.filtered fun _ hu => hu.aside
    (Only.synClaimFrame _ _ (by decide) (by decide) (Only.claimFrame _ _ (by decide) (by decide) Only.refl))⟩

theorem claimWithdrawReceived_endsKept (sender : StationNo) : EndsKept (.claimWithdrawReceived sender) s :=
  ⟨_, rfl, h.filtered fun _ hu => hu.aside
    (Only.synWithdrawFrame _ (by decide) (by decide) (Only.claimFrame _ _ (by decide) (by decide) Only.refl))⟩

theorem reportReceived_endsKept (sender : StationNo) (payload : Vector Byte 58) :
    EndsKept (.reportReceived sender payload) s := by
  refine ⟨_, rfl, h.filtered fun u hu => ?_⟩
  unfold reportHeard
  split
  · exact hu
  · have recorded : ProtectionKept (takeReport sender (decodeReport payload.toList) u) :=
      hu.aside (Only.takeReport _ _ (by decide) (by decide) Only.refl)
    exact recorded.transferReport _ _

theorem assignNumber_endsKept (r : Request) : EndsKept (.assignNumber r) s := by
  refine ⟨_, rfl, h.hears fun u hu => ?_⟩
  have observed : ProtectionKept (observeAssignment r u) :=
    hu.aside (Only.observeAssignment r (by decide) (by decide) Only.refl)
  dsimp only
  split
  · exact (observed.judge (observed.ownAssign r)).withSli _
  · exact observed

theorem pesCycleEvaluation_endsKept : EndsKept .pesCycleEvaluation s := by
  refine ⟨_, rfl, (h.take _).inForce fun st hst => ?_⟩
  split
  · exact h.take _
  · split
    · refine ProtectionKept.publishPes (ProtectionKept.pesFinish ?_ _ _ _) _
      exact (h.take _).withPes hst h.origins ((h.counts hst).evaluate)
    · exact h.take _

theorem pesStationStateChange_endsKept (a b : StationState) : EndsKept (.pesStationStateChange a b) s := by
  refine ⟨_, rfl, (h.take _).inForce fun st hst => ?_⟩
  split
  · exact h.take _
  · exact ((h.take _).takePassage hst a b).publishPes _

theorem csqBreakerRecord_endsKept : EndsKept .csqBreakerRecord s :=
  ⟨_, rfl, (h.take _).csqEvent fun st => ((h.take _).whenRunning ((h.take _).roleRecord st)).withCsq _⟩

theorem csqSynOutcome_endsKept (outcome : Option SynOutcome) : EndsKept (.csqSynOutcome outcome) s := by
  refine ⟨_, rfl, (h.take _).csqEvent fun st => ?_⟩
  split
  · exact h.take _
  · exact (h.take _).takeOutcome _ st

theorem csqAutoEntry_endsKept : EndsKept .csqAutoEntry s := by
  refine ⟨_, rfl, (h.take _).inForce fun st _ => ?_⟩
  split
  · have derived : ProtectionKept (derive st ((s.take .csqAutoEntry).withCsq
        { s.csq with seenBreaker := s.bkc.state })) := ((h.take _).withCsq _).derive st
    exact derived.aside (Only.csqTick st (by decide) (by decide) (by decide) (by decide) Only.refl)
  · exact h.take _

theorem startDelayExpiry_endsKept : EndsKept .startDelayExpiry s := by
  refine ⟨_, rfl, h.expire fun u hu => hu.csqEvent fun st => (hu.withCsq _).whenRunning ?_⟩
  split
  · exact hu.withCsq _
  · split
    · exact ((hu.withCsq _).withCsq _).run true
    · exact (hu.withCsq _).toReadyOrStarting st
    · exact hu.withCsq _

theorem startTimerExpiry_endsKept : EndsKept .startTimerExpiry s := by
  refine ⟨_, rfl, h.expire fun u hu => hu.csqEvent fun st => (hu.withCsq _).whenRunning ?_⟩
  split
  · exact ((hu.withCsq _).withCsq _).run false
  · exact hu.withCsq _

theorem cooldownExpiry_endsKept : EndsKept .cooldownExpiry s := by
  refine ⟨_, rfl, h.expire fun u hu => hu.csqEvent fun st => (hu.withCsq _).whenRunning ?_⟩
  split
  · exact ((hu.withCsq _).toCsq _).run false
  · exact hu.withCsq _

/-- Every command but RESET ends so. -/
theorem endsKept {c : Instr} (hc : ∀ straps raw, c ≠ .reset straps raw) : EndsKept c s := by
  cases writes : writesProtection c
  · obtain ⟨u, hu, k⟩ := exec_only_aside c s writes
    exact ⟨u, hu, h.aside k⟩
  · cases c
    case reset straps raw => exact absurd rfl (hc straps raw)
    -- service
    case settingsNoAcknowledge => exact settingsNoAcknowledge_endsKept h
    case settingsReadRetry => exact ⟨_, rfl, h.expire fun u hu => hu.withSsc id hu.2.1⟩
    case settingsImageRead image => exact settingsImageRead_endsKept h image
    case presenceExpiry => exact presenceExpiry_endsKept h
    case sscCycleCompletion => exact sscCycleCompletion_endsKept h
    case rawInputChange i level => exact rawInputChange_endsKept h i level
    case debounceExpiry i => exact ⟨_, rfl, h.expire fun u hu => hu.debounced i⟩
    -- frames
    case arbitrationLost inIdentity => exact arbitrationLost_endsKept h inIdentity
    case tripNoticeReceived | captureTriggerEventReceived => exact ⟨_, rfl, peerTrigger_filtered h _⟩
    case bfTransferReceived => exact ⟨_, rfl, h.filtered fun u hu => hu.transferNotice _ _⟩
    case claimReceived sender sections => exact claimReceived_endsKept h sender sections
    case claimWithdrawReceived sender => exact claimWithdrawReceived_endsKept h sender
    case reportReceived sender payload => exact reportReceived_endsKept h sender payload
    case inputChangeReceived | dataReceived | presenceReceived => exact ⟨_, rfl, h.filtered fun _ hu => hu⟩
    case conflictReceived => exact ⟨_, rfl, h.hearing fun u working hu => hu.conflictHeard working _ _⟩
    -- requests
    case setMode r => exact ⟨_, rfl, h.intake fun u hu => hu.ownSetMode r⟩
    case resetAlarm r => exact ⟨_, rfl, h.intake fun u hu => hu.ownResetAlarm r⟩
    case assignNumber r => exact assignNumber_endsKept h r
    -- elements
    case pesCycleEvaluation => exact pesCycleEvaluation_endsKept h
    case pesStationStateChange a b => exact pesStationStateChange_endsKept h a b
    case pesConflictMarking n => exact ⟨_, rfl, ((h.take _).removeOrigin n).publishPes _⟩
    case transferOriginExpiry n => exact ⟨_, rfl, h.expire fun u hu => (hu.removeOrigin n).publishPes _⟩
    -- sequence
    case csqBreakerRecord => exact csqBreakerRecord_endsKept h
    case csqSynOutcome outcome => exact csqSynOutcome_endsKept h outcome
    case csqAutoEntry => exact csqAutoEntry_endsKept h
    case startDelayExpiry => exact startDelayExpiry_endsKept h
    case startTimerExpiry => exact startTimerExpiry_endsKept h
    case cooldownExpiry => exact cooldownExpiry_endsKept h
    all_goals cases writes

end commands

/-- The end of a command writes none of what the invariant reads. -/
theorem ProtectionKept.done {s u t : State} (h : ProtectionKept u) (ht : done s u = .next t) : ProtectionKept t := by
  obtain rfl : publish s (settle u) = t := by simpa [Machine.done] using ht
  exact h.aside (Only.publish s (by decide) (Only.settle (by decide) (by decide) Only.refl))

theorem exec_keeps_protection {c : Instr} {s t : State} (h : ProtectionKept s) (ht : exec c s = .next t) :
    ProtectionKept t := by
  by_cases hc : ∀ straps raw, c ≠ .reset straps raw
  · obtain ⟨u, hu, k⟩ := endsKept h hc
    exact k.done (hu.symm.trans ht)
  · push Not at hc
    obtain ⟨straps, raw, rfl⟩ := hc
    obtain rfl : _ = t := Host.Outcome.next.inj ((exec_reset straps raw s).symm.trans ht)
    exact (protectionKept_ofPins { s.pins with straps := straps, raw := raw }).aside
      (Only.withPending (fs := asideFields) (by decide) (Only.withFree (by decide) Only.refl s.freeCount) s.pending)

end Sys2Proof.Machine

open Sys2Proof Sys2Proof.Machine

/-- Settles O16: the command at the front of the queue keeps the invariant, and so does a tick of the local time. -/
theorem everyStepKeepsTheElements : Obligations.EveryStepKeepsTheElements := by
  unfold Obligations.EveryStepKeepsTheElements
  intro s t h ht
  unfold step at ht
  split at ht
  · obtain rfl : s.tick = t := by simpa using ht
    exact h.aside (Only.withTime (by decide) Only.refl _)
  · exact exec_keeps_protection (h.aside (Only.withPending (by decide) Only.refl _)) ht

end

section
/-! PROOFS. PES_CYCLE_EVALUATION (R26 to R32): the definite-time elements by their table, elements that are held,
blocked or out of service, and the phases of the inverse-time element. -/

namespace Sys2Proof.Machine

/-! ### The table of R26 -/

section table
variable {p : PesSettings} {r : Record} {e : ElementNo} {d : Definite} {q : Int}

/-- An element with levels and a quantity compares the one with the other. -/
theorem compares_of_some (hd : p.definite e = some d) (hq : r.quantity e = some q) :
    ((p.definite e).isSome ∧ (r.quantity e).isSome) ∧
      ((∀ x, p.definite e = some x → ∀ v, r.quantity e = some v → x.holds v = true) ↔ d.holds q = true) ∧
      ((∀ x, p.definite e = some x → ∀ v, r.quantity e = some v → x.drops v = true) ↔ d.drops q = true) := by
  simp [hd, hq]

theorem Definite.holds_iff : d.holds q = true ↔ if d.above then d.pickup ≤ q else q ≤ d.pickup := by
  unfold Definite.holds
  split <;> simp

theorem Definite.drops_iff : d.drops q = true ↔ if d.above then q < d.dropout else d.dropout < q := by
  unfold Definite.drops
  split <;> simp

end table

theorem three_some (f : Nat → Nat → Nat) (a b c : Nat) :
    three f (some a) (some b) (some c) = some ((f a (f b c) : Nat) : Int) := rfl

/-! ### The command -/

/-- The trip claim of a cycle evaluation, between two element sets (R37). -/
def cycleClaim (st : Settings) (r : Record) (x y : Pes) : Option TripCause :=
  (newlyOperated st x y).head?.map fun e => { element := e, detail := causeDetail st.pes r y e }

/-- The effect of PES_CYCLE_EVALUATION on a record while protection is active. -/
def evaluated (s : State) (st : Settings) (r : Record) : State :=
  let y := s.pes.evaluate st s.bkc.state r
  publishPes true (pesFinish s.ssc.station s.pes (cycleClaim st r s.pes y) ((s.take .pesRecord).withPes y))

/-- A PES event writes its claims and triggers, and none of its elements. -/
@[simp] theorem pesFinish_pes (station : StationState) (before : Pes) (claim : Option TripCause) (s : State) :
    (pesFinish station before claim s).pes = s.pes :=
  (Only.pesFinish (fs := asideFields) station before claim (by decide) (by decide) (by decide) (by decide)
    Only.refl).get .pes (by decide)

@[simp] theorem publishPes_pes (afterCycle : Bool) (s : State) : (publishPes afterCycle s).pes = s.pes :=
  State.notify_pes _ _

section command
variable {s : State} {st : Settings} {r : Record}

theorem exec_pesCycleEvaluation (hst : s.settings = some st) (hr : s.cme.record = some r)
    (active : s.ssc.station.protects = true) : exec .pesCycleEvaluation s = done s (evaluated s st r) := by
  have force : (s.take .pesRecord).settings = some st := hst
  simp only [exec, execPesCycleEvaluation, State.inForce_some force, State.take_cme, State.take_ssc, hr, active,
    if_true]
  rfl

@[simp] theorem evaluated_pes : (evaluated s st r).pes = s.pes.evaluate st s.bkc.state r := by
  simp [evaluated]

/-- The element set after the command. -/
theorem pesCycleEvaluation_pes (hst : s.settings = some st) (hr : s.cme.record = some r)
    (active : s.ssc.station.protects = true) :
    ∃ t, exec .pesCycleEvaluation s = .next t ∧ t.pes = s.pes.evaluate st s.bkc.state r :=
  ⟨_, exec_pesCycleEvaluation hst hr active, by simp⟩

end command

/-! ### Definite-time elements (R27 to R29) -/

section definite
variable {st : Settings} {b : BreakerState} {r : Record} {e : ElementNo} {x : Element} {d : Definite} {q : Int}

theorem stepDefinite_out_of_service (h : st.inService e = false) : stepDefinite st b r e x = x := by
  simp [stepDefinite, h]

theorem stepDefinite_blocked (h : st.inService e = true) (hb : blocked st b e = true) :
    stepDefinite st b r e x = Element.reset := by
  simp [stepDefinite, h, hb]

/-- R28: a WARMUP record, or an absent quantity, holds the element. -/
theorem stepDefinite_held (h : st.inService e = true) (hb : blocked st b e = false)
    (held : r.warmup = true ∨ r.quantity e = none) : stepDefinite st b r e x = { x with held := true } := by
  unfold stepDefinite
  rw [h, hb]
  split
  · next absurd => cases absurd
  split
  · next absurd => cases absurd
  split
  · next heq =>
    have warm : r.warmup = true := held.resolve_right (by simp [heq])
    simp [warm]
  · rfl

theorem stepDefinite_steps (h : st.inService e = true) (hb : blocked st b e = false) (hw : r.warmup = false)
    (hd : st.pes.definite e = some d) (hq : r.quantity e = some q) : stepDefinite st b r e x = d.step q x := by
  simp [stepDefinite, h, hb, hw, hd, hq]

theorem blocked_iff : blocked st b e = true ↔ 6 ≤ elementNumber e ∧ st.pes.action e = .trip ∧ b ≠ .closed := by
  simp [blocked, and_assoc]

theorem Definite.step_dropped (h : x.state = .dropped) :
    d.step q x = if d.holds q then
      { state := if d.delay = 0 then .operated else .pickedUp, counter := 1, held := false } else Element.reset := by
  simp [Definite.step, h]

theorem Definite.step_pickedUp (h : x.state = .pickedUp) :
    d.step q x = if d.drops q then Element.reset else
      { state := if x.counter + 1 = d.delay + 1 then .operated else .pickedUp, counter := x.counter + 1,
        held := false } := by
  simp [Definite.step, h]

theorem Definite.step_operated (h : x.state = .operated) :
    d.step q x = if d.drops q then Element.reset else { x with held := false } := by
  simp [Definite.step, h]

/-- A step ends the holding. -/
theorem Definite.step_held : (d.step q x).held = false := by
  unfold Definite.step
  split <;> split <;> rfl

end definite

/-- The rows of R26. -/
theorem PesSettings.definite_isSome_iff (p : PesSettings) (e : ElementNo) :
    (p.definite e).isSome ↔ e ∈ ([.e3, .e4, .e6, .e7, .e8, .e9, .e10] : List ElementNo) := by
  cases e <;> simp [PesSettings.definite]

/-! ### The inverse-time element (R30 to R32) -/

section phases
variable {p : PesSettings} {r : Record} {x : Phase}

theorem stepPhase_held {ms : Option Nat} (h : r.warmup = true ∨ ms = none) : stepPhase p r ms x = x := by
  obtain h | rfl := h
  · simp [stepPhase, h]
  · unfold stepPhase
    split <;> rfl

theorem stepPhase_steps {v : Nat} (h : r.warmup = false) : stepPhase p r (some v) x = x.step p v := by
  simp [stepPhase, h]

/-- Above PU² a phase fills by the excess, up to the full accumulator. -/
theorem Phase.step_above {v : Nat} (h : p.pu5Squared < min v p.clampLimit) :
    (x.step p v).acc = min (x.acc + (min v p.clampLimit - p.pu5Squared)) p.accFull ∧
      (x.step p v).state = if (x.step p v).acc = p.accFull then .operated else .timing := by
  unfold Phase.step
  rw [if_pos h]
  exact ⟨rfl, rfl⟩

/-- At or below PU² it empties by the decay step, down to 0. -/
theorem Phase.step_below {v : Nat} (h : min v p.clampLimit ≤ p.pu5Squared) :
    (x.step p v).acc = x.acc - p.decayStep ∧
      (x.step p v).state = if (x.step p v).acc = 0 then .idle else .decaying := by
  unfold Phase.step
  rw [if_neg (Nat.not_lt.2 h)]
  exact ⟨rfl, rfl⟩

theorem Phase.any_state_iff (ps : Vector Phase 3) (z : PhaseState) :
    (ps.toList.any fun x => x.state == z) = true ↔ ∃ j : Fin 3, ps[j].state = z := by
  simp [Vector.any_toList, Vector.any_eq_true, Fin.exists_iff]

theorem phasesState_eq_operated_iff (ps : Vector Phase 3) :
    phasesState ps = .operated ↔ ∃ j : Fin 3, ps[j].state = .operated := by
  rw [← Phase.any_state_iff]
  unfold phasesState
  split_ifs <;> simp_all

theorem phasesState_eq_dropped_iff (ps : Vector Phase 3) :
    phasesState ps = .dropped ↔ ∀ j : Fin 3, ps[j].state = .idle ∨ ps[j].state = .decaying := by
  have neither : phasesState ps = .dropped ↔
      ¬ (∃ j : Fin 3, ps[j].state = .operated) ∧ ¬ ∃ j : Fin 3, ps[j].state = .timing := by
    rw [← Phase.any_state_iff, ← Phase.any_state_iff]
    unfold phasesState
    split_ifs <;> simp_all
  rw [neither, not_exists, not_exists, ← forall_and]
  refine forall_congr' fun j => ?_
  cases ps[j].state <;> simp

theorem element5_held_iff (r : Record) (ps : Vector Phase 3) :
    (element5 r ps).held = true ↔ r.warmup = true ∨ ∃ j : Fin 3, r.ms[j.val + 4] = none := by
  simp [element5, phaseHeld, Fin.exists_fin_succ]
  tauto

end phases

end Sys2Proof.Machine

open Sys2Proof Sys2Proof.Machine

/-- Settles O11: the element takes the step of its state. -/
theorem definiteElementsFollowTheStepTable : Obligations.DefiniteElementsFollowTheStepTable := by
  unfold Obligations.DefiniteElementsFollowTheStepTable
  intro s st r e d q hst hr active warm service hd hq free
  obtain ⟨t, ht, pes⟩ := pesCycleEvaluation_pes hst hr active
  have steps : t.pes.el e = d.step q (s.pes.el e) := by
    rw [pes, Pes.evaluate_definite hd, stepDefinite_steps service free warm hd hq]
  refine ⟨t, ht, ?_⟩
  simp only [steps]
  refine ⟨Definite.step_held, fun state holds => ?_, fun state holds => ?_, fun state drops => ?_,
    fun state drops => ?_, fun state drops => ?_, fun state drops => ?_⟩
  · simp [Definite.step_dropped state, holds]
  · simp [Definite.step_dropped state, holds, Element.reset]
  · simp [Definite.step_pickedUp state, drops, Element.reset]
  · simp [Definite.step_pickedUp state, drops]
  · simp [Definite.step_operated state, drops, Element.reset]
  · simp [Definite.step_operated state, drops, state]

/-- Settles O12: each element by whether it is out of service, blocked or held, and each phase by its MS. -/
theorem heldBlockedAndInverseTimeElements : Obligations.HeldBlockedAndInverseTimeElements := by
  unfold Obligations.HeldBlockedAndInverseTimeElements
  refine ⟨fun s st r e hst hr active => ?_, fun s st r i hst hr active service => ?_⟩
  · obtain ⟨t, ht, pes⟩ := pesCycleEvaluation_pes hst hr active
    refine ⟨t, ht, ?_⟩
    rw [pes]
    refine ⟨Pes.evaluate_e1, Pes.evaluate_e2, Pes.evaluate_transfers, fun out => ?_, fun row service => ?_⟩
    · by_cases definite : (st.pes.definite e).isSome
      · obtain ⟨d, hd⟩ := Option.isSome_iff_exists.1 definite
        rw [Pes.evaluate_definite hd, stepDefinite_out_of_service out]
      · cases e
        case e1 => exact Pes.evaluate_e1
        case e2 => exact Pes.evaluate_e2
        case e5 => rw [Pes.evaluate_e5, if_neg (by simp [out])]
        all_goals exact absurd rfl definite
    · obtain ⟨d, hd⟩ := Option.isSome_iff_exists.1 ((st.pes.definite_isSome_iff e).2 row)
      rw [Pes.evaluate_definite hd]
      refine ⟨fun h6 trip away => stepDefinite_blocked service (blocked_iff.2 ⟨h6, trip, away⟩), fun free held => ?_⟩
      exact stepDefinite_held service (by rwa [← Bool.not_eq_true, blocked_iff]) held
  · obtain ⟨t, ht, pes⟩ := pesCycleEvaluation_pes hst hr active
    have phase : t.pes.phases[i] = stepPhase st.pes r r.ms[i.val + 4] s.pes.phases[i] := by
      rw [pes, Pes.evaluate_phases, if_pos service, stepPhases_get]
    have inverse : t.pes.el .e5 = element5 r t.pes.phases := by
      rw [pes, Pes.evaluate_e5, if_pos service]
    refine ⟨t, ht, fun held => phase.trans (stepPhase_held held), fun ms hms warm => ?_, ?_, ?_, ?_⟩
    · rw [hms, stepPhase_steps warm] at phase
      rw [phase]
      exact ⟨fun above => Phase.step_above above, fun below => Phase.step_below below⟩
    · rw [inverse]
      exact phasesState_eq_operated_iff _
    · rw [inverse]
      exact phasesState_eq_dropped_iff _
    · rw [inverse]
      exact element5_held_iff _ _

/-- Settles O10: the quantity of each row is present, and its conditions are those of the table. -/
theorem definiteElementsCompareByTheTable : Obligations.DefiniteElementsCompareByTheTable := by
  unfold Obligations.DefiniteElementsCompareByTheTable
  intro p r
  refine ⟨fun a b c ha hb hc => ?_, fun m hm => ?_, fun load hl => ?_, fun a b c ha hb hc => ?_, fun f hf => ?_⟩
  · have quantity : r.quantity .e3 = some ((max a (max b c) : Nat) : Int) := by
      simp only [Record.quantity, ha, hb, hc, three_some]
    obtain ⟨both, up, down⟩ := compares_of_some (p := p) rfl quantity
    exact ⟨both, up.trans Definite.holds_iff, down.trans Definite.drops_iff⟩
  · have quantity : r.quantity .e4 = some (m : Int) := by simp [Record.quantity, hm]
    obtain ⟨both, up, down⟩ := compares_of_some (p := p) rfl quantity
    exact ⟨both, (up.trans Definite.holds_iff).trans Nat.cast_le, down.trans Definite.drops_iff⟩
  · obtain ⟨both, up, down⟩ := compares_of_some (p := p) (e := .e6) rfl hl
    exact ⟨both, up.trans Definite.holds_iff, down.trans Definite.drops_iff⟩
  · have least : r.quantity .e7 = some ((min a (min b c) : Nat) : Int) := by
      simp only [Record.quantity, ha, hb, hc, three_some]
    have greatest : r.quantity .e8 = some ((max a (max b c) : Nat) : Int) := by
      simp only [Record.quantity, ha, hb, hc, three_some]
    obtain ⟨both7, up7, down7⟩ := compares_of_some (p := p) rfl least
    obtain ⟨both8, up8, down8⟩ := compares_of_some (p := p) rfl greatest
    refine ⟨both7, both8, (up7.trans Definite.holds_iff).trans Nat.cast_le, (down7.trans Definite.drops_iff).trans ?_,
      (up8.trans Definite.holds_iff).trans Nat.cast_le, down8.trans Definite.drops_iff⟩
    exact Nat.cast_lt (n := min a (min b c)) (m := p.pu7 + p.pu7 / 20)
  · obtain ⟨both9, up9, down9⟩ := compares_of_some (p := p) (e := .e9) rfl hf
    obtain ⟨both10, up10, down10⟩ := compares_of_some (p := p) (e := .e10) rfl hf
    exact ⟨both9, both10, up9.trans Definite.holds_iff, down9.trans Definite.drops_iff, up10.trans Definite.holds_iff,
      down10.trans Definite.drops_iff⟩

end

section
/-! PROOFS. What follows a trip claim of the PES (R38, R39, R172): the claim, the trigger, the notice and the FEEDER's
TRIPPED state, and that nothing that another block does before the end of the command takes them away. -/

namespace Sys2Proof.Machine

/-! ### What the PES has made and the other blocks leave -/

/-- The deliveries that the PES alone makes: trip claims, recorder triggers and its publications. -/
def Delivery.fromPes : Delivery → Bool
  | .tripClaim _ _ | .drcTrigger _ _ | .csqPes _ => true
  | _ => false

/-- The notice slot and the waiting deliveries of the PES stand as they stood. -/
structure Spares (s t : State) : Prop where
  notice : t.sli.noticeSlot = s.sli.noticeSlot
  ledger : ∀ d, d.fromPes = true → (d ∈ t.due ↔ d ∈ s.due)

section spares
variable {s t u : State}

theorem Spares.refl : Spares s s := ⟨rfl, fun _ _ => Iff.rfl⟩

/-- The fields that hold neither. -/
def sparedFields : List Fld :=
  [.localTime, .pins, .settings, .siu, .cme, .pes, .bkc, .cds, .ptb, .syn, .lsc, .csq, .drc, .ssc, .freeCount, .pending]

theorem Spares.only (h : Spares s t) (k : Only sparedFields t u) : Spares s u := by
  have sli : u.sli = t.sli := k.get .sli (by decide)
  have due : u.due = t.due := k.get .due (by decide)
  exact ⟨by rw [sli, h.notice], by rw [due]; exact h.ledger⟩

theorem Spares.withCsq (h : Spares s t) (x : Csq) : Spares s (t.withCsq x) := ⟨h.notice, h.ledger⟩

theorem Spares.withSyn (h : Spares s t) (x : Syn) : Spares s (t.withSyn x) := ⟨h.notice, h.ledger⟩

theorem Spares.withSli (h : Spares s t) {x : Sli} (hx : x.noticeSlot = t.sli.noticeSlot) : Spares s (t.withSli x) :=
  ⟨hx.trans h.notice, h.ledger⟩

theorem Spares.send (h : Spares s t) {d : Delivery} (hd : d.fromPes = false) : Spares s (t.send d) := by
  refine ⟨h.notice, fun e he => ?_⟩
  have other : e ≠ d := fun k => by simp [k, hd] at he
  simp [h.ledger e he, other]

theorem Spares.take (h : Spares s t) {d : Delivery} (hd : d.fromPes = false) : Spares s (t.take d) := by
  refine ⟨h.notice, fun e he => ?_⟩
  have other : e ≠ d := fun k => by simp [k, hd] at he
  rw [State.take_due, List.mem_erase_of_ne other, h.ledger e he]

theorem Spares.notifyAll (h : Spares s t) {ds : List Delivery} (hd : ∀ d ∈ ds, d.fromPes = false) :
    Spares s (t.notifyAll ds) := by
  refine ⟨by rw [State.notifyAll_sli, h.notice], fun e he => ?_⟩
  have other : e ∉ ds := fun k => by simp [hd e k] at he
  simp [State.mem_notifyAll_due, h.ledger e he, other]

theorem Spares.sendAll (h : Spares s t) {ds : List Delivery} (hd : ∀ d ∈ ds, d.fromPes = false) :
    Spares s (t.sendAll ds) := by
  refine ⟨h.notice, fun e he => ?_⟩
  have other : e ∉ ds := fun k => by simp [hd e k] at he
  simp [h.ledger e he, other]

theorem Spares.inForce (h : Spares s t) {act : Settings → State → State} (ha : ∀ st, Spares s (act st t)) :
    Spares s (t.inForce act) := by
  unfold State.inForce
  split
  · exact h
  · exact ha _

theorem Spares.notify (h : Spares s t) {d : Delivery} (hd : d.fromPes = false) : Spares s (t.notify d) :=
  h.notifyAll (ds := [d]) (by simpa using hd)

end spares

/-! ### The notice slot -/

section slots
variable (l : Sli)

@[simp] theorem Sli.touch_noticeSlot (slot : Slot) : (l.touch slot).noticeSlot = l.noticeSlot := by
  unfold Sli.touch
  split
  · split <;> rfl
  · rfl

@[simp] theorem Sli.placeClaim_noticeSlot (x : ClaimItem) : (l.placeClaim x).noticeSlot = l.noticeSlot := by
  unfold Sli.placeClaim Sli.whenOnAir
  split
  · rfl
  · exact l.touch_noticeSlot _

@[simp] theorem Sli.giveUpClaim_noticeSlot : l.giveUpClaim.noticeSlot = l.noticeSlot := by
  unfold Sli.giveUpClaim
  split
  · exact l.touch_noticeSlot _
  · exact l.placeClaim_noticeSlot _

/-- A TRIP notice is placed unless the link is in conflict (R39, R98). -/
theorem Sli.placeNotice_noticeSlot (x : TripCause) (h : l.conflict = none) : (l.placeNotice x).noticeSlot = some x := by
  simp [Sli.placeNotice, Sli.whenOnAir, h]

end slots

/-! ### The blocks that a trip is told -/

section blocks
variable {s t : State}

theorem Spares.giveUpClaim (h : Spares s t) : Spares s (giveUpClaim t) := by
  unfold Machine.giveUpClaim
  split
  · exact (h.withSli t.sli.giveUpClaim_noticeSlot).withSyn _
  · exact h

theorem Spares.withdrawRequest (h : Spares s t) : Spares s (withdrawRequest t) := by
  have ended : Spares s (endClaim .cancelled t) := by
    unfold endClaim
    split
    · exact h
    · split
      · exact h.withSyn _
      · exact h.giveUpClaim
  have withdrawn : Spares s (synWithdraw t) := by
    unfold synWithdraw endTold
    split
    · split
      · exact (ended.withSyn _).send rfl
      · exact h
    · exact h
  exact withdrawn.withCsq _

theorem Spares.judgeEligible (h : Spares s t) : Spares s (judgeEligible t) := by
  refine h.inForce fun st => ?_
  split
  · exact (h.withSli (t.sli.placeClaim_noticeSlot _)).withSyn _
  · exact h

theorem Spares.handRequest (h : Spares s t) : Spares s (handRequest t) := by
  unfold Machine.handRequest
  split
  · exact h
  · refine Spares.withCsq (h.inForce fun st => ?_) _
    split
    · exact h
    · split
      · exact (h.withSyn _).judgeEligible
      · exact h.withSyn _

theorem Spares.sequenceOpen (h : Spares s t) : Spares s (sequenceOpen t) := (h.withCsq _).send rfl

theorem Spares.returnOrLost (h : Spares s t) (st : Settings) : Spares s (returnOrLost st t) :=
  h.only (Only.returnOrLost st (by decide) Only.refl)

theorem Spares.incomerTick (h : Spares s t) (st : Settings) :
    Spares s (incomerHand (incomerRunOut st (incomerMonitor st t))) := by
  have monitored : Spares s (incomerMonitor st t) := by
    unfold incomerMonitor
    split
    · split
      · exact h.sequenceOpen.returnOrLost st
      · exact h
    · split
      · exact h.sequenceOpen.returnOrLost st
      · exact h
    · split
      · exact h.returnOrLost st
      · exact h
    · exact h
  have run_out : Spares s (incomerRunOut st (incomerMonitor st t)) := by
    unfold incomerRunOut enterRetransfer
    dsimp only
    split
    · split
      · exact (monitored.withCsq _).handRequest
      · exact monitored.withCsq _
    · exact monitored
  unfold incomerHand
  split
  · exact run_out.handRequest
  · exact run_out

theorem Spares.generatorTick (h : Spares s t) (st : Settings) :
    Spares s (generatorShown (generatorDelay st (generatorReady st (generatorStarting st t)))) := by
  have starting : Spares s (generatorStarting st t) := h.only (Only.generatorStarting st (by decide) Only.refl)
  have ready : Spares s (generatorReady st (generatorStarting st t)) := by
    unfold generatorReady
    split_ifs
    · exact starting
    · exact starting.withdrawRequest.withCsq _
    · exact starting.handRequest
    · exact starting
  exact ready.only (Only.generatorShown (by decide) (Only.generatorDelay st (by decide) Only.refl))

theorem Spares.tieTest (h : Spares s t) (st : Settings) : Spares s (tieTest st t) := by
  unfold Machine.tieTest
  split
  · split
    · exact (h.withCsq _).handRequest
    · exact h
  · split
    · exact h.withdrawRequest.withCsq _
    · exact h
  · exact h

theorem Spares.csqTick (h : Spares s t) (st : Settings) : Spares s (csqTick st t) := by
  unfold Machine.csqTick
  split
  · split
    · exact h.incomerTick st
    · exact h.generatorTick st
    · exact h.tieTest st
    · unfold feederRestore
      split
      · exact (h.withCsq _).send rfl
      · exact h
  · exact h

theorem Spares.tellTrip (h : Spares s t) : Spares s (tellTrip t) := by
  unfold Machine.tellTrip csqEvent
  refine h.inForce fun st => Spares.csqTick ?_ st
  unfold whenRunning
  split
  · dsimp only
    split
    · exact h.withCsq _
    · exact h
  · exact h

/-- A running FEEDER's sequence is TRIPPED by a trip, and stays so (R172). -/
theorem tellTrip_feeder {st : Settings} (hst : t.settings = some st) (role : st.station.role = .feeder)
    (auto : t.ssc.station = .auto) (running : t.csq.state ≠ .inactive) :
    (tellTrip t).csq.state = .tripped ∧ (tellTrip t).csq.shedCause = none := by
  have told : tellTrip t = feederTo .tripped t := by
    have runs : t.sequencing = true := by simp [State.sequencing, auto, running]
    have goes_on : (feederTo .tripped t).sequencing = true := by simp [State.sequencing, feederTo, auto]
    have stays : (feederTo .tripped t).mayRestore st = false := by simp [State.mayRestore, feederTo]
    simp [tellTrip, csqEvent, State.inForce, hst, whenRunning, runs, role, csqTick, goes_on, feederRestore, stays]
  rw [told]
  exact ⟨rfl, rfl⟩

end blocks

/-! ### The end of the command -/

section ending
variable {s t : State}

/-- The publications of the other blocks are none of the PES. -/
theorem Spares.publish (h : Spares s t) (old : State) : Spares s (Machine.publish old t) := by
  have breaker : Spares s (publishBreaker old t) := by
    unfold publishBreaker
    split
    · exact h
    · exact h.notifyAll (by decide)
  have station : Spares s (publishStation old (publishBreaker old t)) := by
    unfold publishStation
    split
    · exact breaker
    · refine (breaker.sendAll ?_).notify rfl
      intro d hd
      simp only [List.mem_append, List.mem_cons, List.not_mem_nil, or_false] at hd
      obtain ((rfl | rfl | rfl | rfl) | hd) | hd := hd
      · rfl
      · rfl
      · rfl
      · rfl
      · obtain ⟨-, rfl⟩ : _ ∧ d = .csqAutoExit := by simpa [ite_eq_iff] using hd
        rfl
      · obtain ⟨-, rfl⟩ : _ ∧ d = .csqAutoEntry := by simpa using hd
        rfl
  have sequence : Spares s (publishSequence old (publishStation old (publishBreaker old t))) := by
    unfold publishSequence
    split
    · exact station
    · exact station.notify rfl
  have syn : Spares s (publishSyn old (publishSequence old (publishStation old (publishBreaker old t)))) := by
    unfold publishSyn
    split
    · exact sequence
    · exact sequence.notifyAll (by decide)
  unfold Machine.publish publishLsc
  split
  · exact syn
  · exact syn.notify rfl

/-- Beginning a frame leaves its item in its slot. -/
theorem Spares.settle (h : Spares s t) : Spares s (settle t) := by
  refine ⟨?_, by rw [settle_due]; exact h.ledger⟩
  rw [← h.notice, settle_sli]
  split <;> rfl

theorem Spares.done (h : Spares s t) (old : State) : Spares s (Machine.publish old (Machine.settle t)) :=
  h.settle.publish old

end ending

/-! ### A trip claim -/

/-- What a trip claim of the PES makes, and what of the PES's it does not (R38, R39, R172): from the state at the claim
to the one after the command, of which the PES publishes. -/
structure Trips (c : TripCause) (afterCycle : Bool) (s t : State) : Prop where
  ledger : ∀ d, d.fromPes = true →
    (d ∈ t.due ↔ d ∈ s.due ∨ d = .tripClaim c.element c.detail ∨ d = .drcTrigger .trip c.element ∨
      d = .csqPes afterCycle)
  notice : s.sli.conflict = none → t.sli.noticeSlot = some c
  feeder : ∀ st, s.settings = some st → st.station.role = .feeder → s.ssc.station = .auto →
    s.csq.state ≠ .inactive → t.csq.state = .tripped ∧ t.csq.shedCause = none

section trips
variable {s t u old : State} {c : TripCause} {afterCycle : Bool} {station : StationState}

theorem operate_of_not_test (away : station ≠ .test) :
    operate station c s = tellTrip (((s.withSli (s.sli.placeNotice c)).send (.tripClaim c.element c.detail)).send
      (.drcTrigger .trip c.element)) := if_neg away

theorem operate_trips (away : station ≠ .test) :
    Trips c afterCycle s (publish old (settle (publishPes afterCycle (operate station c s)))) := by
  rw [operate_of_not_test away]
  generalize claimed : ((s.withSli (s.sli.placeNotice c)).send (.tripClaim c.element c.detail)).send
    (.drcTrigger .trip c.element) = v
  have told : Spares v (tellTrip v) := Spares.refl.tellTrip
  have ends := Spares.done (Spares.refl (s := publishPes afterCycle (tellTrip v))) old
  refine ⟨fun d hd => ?_, fun conflict => ?_, fun st hst role auto running => ?_⟩
  · rw [ends.ledger d hd, publishPes, State.mem_notify_due, told.ledger d hd, ← claimed]
    simp [or_assoc]
  · rw [ends.notice, publishPes, State.notify_sli, told.notice, ← claimed]
    exact s.sli.placeNotice_noticeSlot c conflict
  · simp only [publish_csq, settle_csq, publishPes, State.notify_csq]
    subst claimed
    exact tellTrip_feeder hst role auto running

/-- A trip claim made in a state that differs from an earlier one in nothing of the PES's, the CSQ's and the service
state's is one from that state. -/
theorem Trips.of_spares (h : Trips c afterCycle u t) (k : Spares s u) (conflict : u.sli.conflict = s.sli.conflict)
    (settings : u.settings = s.settings) (csq : u.csq = s.csq) (service : u.ssc.station = s.ssc.station) :
    Trips c afterCycle s t := by
  obtain ⟨ledger, notice, feeder⟩ := h
  rw [conflict] at notice
  rw [settings, csq, service] at feeder
  exact ⟨fun d hd => (ledger d hd).trans (or_congr_left (k.ledger d hd)), notice, feeder⟩

theorem Trips.claim_mem (h : Trips c afterCycle s t) : .tripClaim c.element c.detail ∈ t.due :=
  (h.ledger _ rfl).2 (.inr (.inl rfl))

theorem Trips.trigger_mem (h : Trips c afterCycle s t) : .drcTrigger .trip c.element ∈ t.due :=
  (h.ledger _ rfl).2 (.inr (.inr (.inl rfl)))

theorem Trips.publication_mem (h : Trips c afterCycle s t) : .csqPes afterCycle ∈ t.due :=
  (h.ledger _ rfl).2 (.inr (.inr (.inr rfl)))

theorem Trips.claim_mem_iff (h : Trips c afterCycle s t) (e : ElementNo) (detail : Byte) :
    .tripClaim e detail ∈ t.due ↔ (e = c.element ∧ detail = c.detail) ∨ .tripClaim e detail ∈ s.due := by
  rw [h.ledger _ rfl]
  simp [or_comm]

theorem Trips.trigger_mem_iff (h : Trips c afterCycle s t) (kind : PesTrigger) (e : ElementNo) :
    .drcTrigger kind e ∈ t.due ↔ (kind = .trip ∧ e = c.element) ∨ .drcTrigger kind e ∈ s.due := by
  rw [h.ledger _ rfl]
  simp [or_comm]

end trips

end Sys2Proof.Machine
end

section
/-! PROOFS. Operations and pickups (R33, R37 to R42): the lowest-numbered element, the end of a PES event without an
operation, and the debounced EXT_TRIP at element 1. -/

namespace Sys2Proof.Machine

/-! ### The lowest-numbered element -/

/-- The first of some elements in rising order is the lowest-numbered of them. -/
theorem allElements_filter_least {p : ElementNo → Bool} {e : ElementNo} {rest : List ElementNo}
    (h : allElements.filter p = e :: rest) :
    p e = true ∧ ∀ f, p f = true → elementNumber e ≤ elementNumber f := by
  have rising : allElements.Pairwise fun a b => elementNumber a < elementNumber b := by decide
  have kept := rising.filter p
  rw [h, List.pairwise_cons] at kept
  have mem (f : ElementNo) : f ∈ e :: rest ↔ p f = true := by
    rw [← h, List.mem_filter]
    exact and_iff_right (by cases f <;> decide)
  refine ⟨(mem e).1 List.mem_cons_self, fun f hf => ?_⟩
  obtain rfl | later := List.mem_cons.1 ((mem f).2 hf)
  · exact le_rfl
  · exact (kept.1 f later).le

theorem newlyOperated_cons {st : Settings} {x y : Pes} {e : ElementNo} {rest : List ElementNo}
    (h : newlyOperated st x y = e :: rest) :
    ((x.el e).state ≠ .operated ∧ (y.el e).state = .operated ∧ st.pes.action e = .trip) ∧
      ∀ f, (x.el f).state ≠ .operated → (y.el f).state = .operated → st.pes.action f = .trip →
        elementNumber e ≤ elementNumber f := by
  obtain ⟨own, least⟩ := allElements_filter_least h
  refine ⟨by simpa [and_assoc] using own, fun f hx hy ha => least f ?_⟩
  simp [hx, hy, ha]

theorem newlyPickedUp_eq_nil_iff {x y : Pes} :
    newlyPickedUp x y = [] ↔ ∀ e, (x.el e).state = .dropped → (y.el e).state = .dropped := by
  have all (e : ElementNo) : e ∈ allElements := by cases e <;> decide
  simp [newlyPickedUp, Element.isPickedUp, all]

theorem newlyPickedUp_cons {x y : Pes} {e : ElementNo} {rest : List ElementNo} (h : newlyPickedUp x y = e :: rest) :
    ((x.el e).state = .dropped ∧ (y.el e).state ≠ .dropped) ∧
      ∀ f, (x.el f).state = .dropped → (y.el f).state ≠ .dropped → elementNumber e ≤ elementNumber f := by
  obtain ⟨own, least⟩ := allElements_filter_least h
  refine ⟨by simpa [Element.isPickedUp] using own, fun f hx hy => least f ?_⟩
  simp [Element.isPickedUp, hx, hy]

/-- The lowest-numbered element that passed from DROPPED to picked up (R42). -/
def LowestPickedUp (x y : Pes) (e : ElementNo) : Prop :=
  ((x.el e).state = .dropped ∧ (y.el e).state ≠ .dropped) ∧
    ∀ f, (x.el f).state = .dropped ∧ (y.el f).state ≠ .dropped → elementNumber e ≤ elementNumber f

theorem elementNumber_injective : Function.Injective elementNumber := fun e f h =>
  elementIdx_injective (Fin.ext (by simpa [elementNumber] using h))

theorem lowestPickedUp_iff_of_cons {x y : Pes} {e : ElementNo} {rest : List ElementNo}
    (h : newlyPickedUp x y = e :: rest) (f : ElementNo) : LowestPickedUp x y f ↔ f = e := by
  obtain ⟨own, least⟩ := newlyPickedUp_cons h
  refine ⟨fun ⟨hf, lowest⟩ => elementNumber_injective ?_, ?_⟩
  · exact le_antisymm (lowest e own) (least f hf.1 hf.2)
  · rintro rfl
    exact ⟨own, fun g hg => least g hg.1 hg.2⟩

/-! ### The end of a PES event -/

section finish
variable {station : StationState} {before : Pes} {s t old : State} {afterCycle : Bool}

theorem pesFinish_some (c : TripCause) : pesFinish station before (some c) s = operate station c s := rfl

theorem pesFinish_none (h : newlyPickedUp before s.pes = []) : pesFinish station before none s = s := by
  simp [pesFinish, h]

theorem pesFinish_pickup {e : ElementNo} {rest : List ElementNo} (h : newlyPickedUp before s.pes = e :: rest) :
    pesFinish station before none s = s.send (.drcTrigger .pickup e) := by
  simp [pesFinish, h]

theorem pesFinish_none_cases (station : StationState) (before : Pes) (s : State) :
    pesFinish station before none s = s ∨ ∃ e, pesFinish station before none s = s.send (.drcTrigger .pickup e) := by
  cases picked : newlyPickedUp before s.pes with
  | nil => exact .inl (pesFinish_none picked)
  | cons e rest => exact .inr ⟨e, pesFinish_pickup picked⟩

/-- Without a claim the recorder gets a PICKUP trigger for the lowest-numbered new pickup, and nothing else (R42). -/
theorem pesFinish_none_mem_due (d : Delivery) :
    d ∈ (pesFinish station before none s).due ↔
      d ∈ s.due ∨ ∃ e, LowestPickedUp before s.pes e ∧ d = .drcTrigger .pickup e := by
  cases picked : newlyPickedUp before s.pes with
  | nil =>
    have no (e : ElementNo) : ¬ LowestPickedUp before s.pes e := fun ⟨⟨was, is⟩, _⟩ =>
      is (newlyPickedUp_eq_nil_iff.1 picked e was)
    simp [pesFinish_none picked, no]
  | cons e rest => simp [pesFinish_pickup picked, lowestPickedUp_iff_of_cons picked]

/-- Of the PES's deliveries only its publication is new. -/
def Publishes (afterCycle : Bool) (s t : State) : Prop :=
  ∀ d, d.fromPes = true → (d ∈ t.due ↔ d ∈ s.due ∨ d = .csqPes afterCycle)

theorem Spares.publishes (h : Spares s t) :
    Publishes afterCycle s (Machine.publish old (Machine.settle (publishPes afterCycle t))) := fun d hd => by
  have ends := Spares.done (Spares.refl (s := publishPes afterCycle t)) old
  rw [ends.ledger d hd, publishPes, State.mem_notify_due, h.ledger d hd]

section publishes
variable (h : Publishes afterCycle s t)
include h

theorem Publishes.publication_mem : .csqPes afterCycle ∈ t.due := (h _ rfl).2 (.inr rfl)

theorem Publishes.claim_mem {e : ElementNo} {detail : Byte} (hd : .tripClaim e detail ∈ t.due) :
    .tripClaim e detail ∈ s.due :=
  ((h _ rfl).1 hd).resolve_right nofun

theorem Publishes.trigger_mem {kind : PesTrigger} {e : ElementNo} (hd : .drcTrigger kind e ∈ t.due) :
    .drcTrigger kind e ∈ s.due :=
  ((h _ rfl).1 hd).resolve_right nofun

end publishes

@[simp] theorem operate_pes (c : TripCause) : (operate station c s).pes = s.pes :=
  (Only.operate (fs := asideFields) station c (by decide) (by decide) (by decide) (by decide) Only.refl).get .pes
    (by decide)

end finish

/-! ### External trip (R33) -/

/-- An element that drops picks nothing up. -/
theorem newlyPickedUp_drop (x : Pes) (e : ElementNo) : newlyPickedUp x (x.set e Element.reset) = [] := by
  rw [newlyPickedUp_eq_nil_iff]
  intro f hf
  by_cases same : f = e
  · subst same
    rw [Pes.el_set_same]
    rfl
  · rwa [Pes.el_set_ne _ _ _ _ same]

theorem newlyPickedUp_self (x : Pes) : newlyPickedUp x x = [] := newlyPickedUp_eq_nil_iff.2 fun _ h => h

section extTrip
variable {station : StationState} {st : Settings} {s : State} (service : st.inService .e1 = true)
include service

/-- Active, it operates element 1 from DROPPED. -/
theorem takeExtTrip_operates {before : Pes} (active : s.input .extTrip = true)
    (dropped : (s.pes.el .e1).state = .dropped) :
    takeExtTrip station before st s =
      operate station { element := .e1, detail := 0 } (s.withPes (s.pes.set .e1 Element.operatedNow)) := by
  simp [takeExtTrip, service, active, dropped, pesFinish_some]

/-- Otherwise it leaves the element that stands operated, or drops it, and claims nothing. -/
theorem takeExtTrip_claims_nothing (standing : s.input .extTrip = true → (s.pes.el .e1).state ≠ .dropped) :
    takeExtTrip station s.pes st s =
      s.withPes (if s.input .extTrip then s.pes else s.pes.set .e1 Element.reset) := by
  cases active : s.input .extTrip
  · simp [takeExtTrip, service, active, pesFinish_none, newlyPickedUp_drop]
  · simp [takeExtTrip, service, active, standing active, pesFinish_none, newlyPickedUp_self]
    rfl

end extTrip

/-! ### DEBOUNCE_EXPIRY of EXT_TRIP -/

/-- The state in which the PES takes a change of EXT_TRIP: the timer expired, the level debounced, its event placed. -/
def extTripDebounced (s : State) (due : Time) : State :=
  inputEvent .extTrip s.pins.raw[inputIdx .extTrip] ((s.reach due).withSsc
    { s.ssc.setTimer .extTrip none with
      debounced := s.ssc.debounced.set (inputIdx .extTrip) s.pins.raw[inputIdx .extTrip] })

theorem Sli.placeEvent_noticeSlot (l : Sli) (x : EventItem) : (l.placeEvent x).noticeSlot = l.noticeSlot := by
  unfold Sli.placeEvent Sli.dropEvent
  split <;> rfl

theorem Sli.placeEvent_conflict (l : Sli) (x : EventItem) : (l.placeEvent x).conflict = l.conflict := by
  unfold Sli.placeEvent Sli.dropEvent
  split <;> rfl

/-- An INPUT_CHANGE event goes to the event queue, or nowhere (R202). -/
theorem inputEvent_cases (i : Input) (level : Bool) (s : State) :
    inputEvent i level s = s ∨
      inputEvent i level s = s.withSli (s.sli.placeEvent (.inputChange i level s.localTime)) := by
  unfold inputEvent State.atWork State.inForce
  split
  · exact .inl rfl
  · dsimp only
    split
    · split
      · exact .inr rfl
      · exact .inl rfl
    · exact .inl rfl

theorem Spares.inputEvent {s t : State} (h : Spares s t) (i : Input) (level : Bool) :
    Spares s (inputEvent i level t) := by
  obtain e | e := inputEvent_cases i level t <;> rw [e]
  · exact h
  · exact h.withSli (t.sli.placeEvent_noticeSlot _)

theorem inputEvent_conflict (i : Input) (level : Bool) (s : State) :
    (inputEvent i level s).sli.conflict = s.sli.conflict := by
  obtain e | e := inputEvent_cases i level s <;> rw [e]
  exact s.sli.placeEvent_conflict _

section debounce
variable {s : State} {st : Settings} {due : Time}

theorem extTripDebounced_only : Only [.localTime, .ssc, .sli] s (extTripDebounced s due) :=
  Only.inputEvent _ _ (by decide) (Only.withSsc (by decide) (Only.reach _ (by decide) Only.refl) _)

theorem extTripDebounced_ssc : (extTripDebounced s due).ssc = { s.ssc.setTimer .extTrip none with
    debounced := s.ssc.debounced.set (inputIdx .extTrip) s.pins.raw[inputIdx .extTrip] } :=
  (Only.inputEvent (fs := [.sli]) _ _ (by decide) Only.refl).get .ssc (by decide)

theorem extTripDebounced_spares : Spares s (extTripDebounced s due) :=
  (Spares.refl.only (Only.withSsc (by decide) (Only.reach _ (by decide) Only.refl) _)).inputEvent _ _

theorem extTripDebounced_conflict : (extTripDebounced s due).sli.conflict = s.sli.conflict :=
  (inputEvent_conflict _ _ _).trans (by simp)

@[simp] theorem extTripDebounced_input : (extTripDebounced s due).input .extTrip = s.pins.raw[inputIdx .extTrip] := by
  simp [State.input, extTripDebounced_ssc]

@[simp] theorem extTripDebounced_pes : (extTripDebounced s due).pes = s.pes :=
  extTripDebounced_only.get .pes (by decide)

/-- A change of the debounced EXT_TRIP while protection is active. -/
theorem exec_debounceExpiry_extTrip (hst : s.settings = some st) (active : s.ssc.station.protects = true)
    (timer : s.ssc.debounceTimers[inputIdx .extTrip] = some due)
    (change : s.pins.raw[inputIdx .extTrip] ≠ s.input .extTrip) :
    exec (.debounceExpiry .extTrip) s = done s (publishPes false
      (takeExtTrip s.ssc.station s.pes st (extTripDebounced s due))) := by
  have force : (extTripDebounced s due).settings = some st :=
    (extTripDebounced_only.get .settings (by decide)).trans hst
  have service : (extTripDebounced s due).ssc.station = s.ssc.station := by rw [extTripDebounced_ssc]; rfl
  have changed : s.pins.raw[inputIdx .extTrip] ≠ (s.reach due).input .extTrip := by simpa [State.input] using change
  have taken : debounced .extTrip (s.reach due) = extTripChange (extTripDebounced s due) := by
    simp only [debounced, State.reach_pins, State.reach_ssc, if_neg changed]
    rfl
  have changes : extTripChange (extTripDebounced s due) =
      publishPes false (takeExtTrip s.ssc.station s.pes st (extTripDebounced s due)) := by
    simp [extTripChange, State.inForce_some force, service, active]
  show done s (expire _ s (debounced .extTrip)) = _
  rw [timer, expire_some, taken, changes]

/-- The state after the command. -/
def extTripTaken (s : State) (st : Settings) (due : Time) : State :=
  publish s (settle (publishPes false (takeExtTrip s.ssc.station s.pes st (extTripDebounced s due))))

@[simp] theorem extTripTaken_input : (extTripTaken s st due).input .extTrip = s.pins.raw[inputIdx .extTrip] := by
  have ssc : (takeExtTrip s.ssc.station s.pes st (extTripDebounced s due)).ssc = (extTripDebounced s due).ssc :=
    (Only.takeExtTrip (fs := [.pes, .csq, .due, .sli, .syn]) _ _ _ (by decide) (by decide) (by decide) (by decide)
      (by decide) Only.refl).get .ssc (by decide)
  rw [← extTripDebounced_input (due := due)]
  simp [extTripTaken, State.input, publishPes, ssc]

theorem extTripTaken_trips (away : s.ssc.station ≠ .test) (service : st.inService .e1 = true)
    (raw : s.pins.raw[inputIdx .extTrip] = true) (dropped : (s.pes.el .e1).state = .dropped) :
    Trips { element := .e1, detail := 0 } false s (extTripTaken s st due) ∧
      ((extTripTaken s st due).pes.el .e1).state = .operated := by
  unfold extTripTaken
  rw [takeExtTrip_operates service (extTripDebounced_input.trans raw) (by simpa using dropped)]
  refine ⟨(operate_trips away).of_spares (extTripDebounced_spares.only (Only.withPes (by decide) Only.refl _))
    extTripDebounced_conflict (extTripDebounced_only.get .settings (by decide))
    (extTripDebounced_only.get .csq (by decide)) ?_, ?_⟩
  · simp [extTripDebounced_ssc, Ssc.setTimer]
  · simp [Element.operatedNow]

theorem extTripTaken_publishes (service : st.inService .e1 = true)
    (standing : ¬ (s.pins.raw[inputIdx .extTrip] = true ∧ (s.pes.el .e1).state = .dropped)) :
    Publishes false s (extTripTaken s st due) ∧
      (extTripTaken s st due).pes =
        if s.pins.raw[inputIdx .extTrip] then s.pes else s.pes.set .e1 Element.reset := by
  have quiet := takeExtTrip_claims_nothing (station := s.ssc.station) (s := extTripDebounced s due) service
    (by simpa using standing)
  rw [extTripDebounced_pes, extTripDebounced_input] at quiet
  unfold extTripTaken
  rw [quiet]
  exact ⟨(extTripDebounced_spares.only (Only.withPes (by decide) Only.refl _)).publishes, by simp⟩

end debounce

/-! ### Cycle evaluations -/

section cycle
variable {s : State} {st : Settings} {r : Record} {e : ElementNo} {rest : List ElementNo}

/-- An evaluation outside TEST at which an element with the action TRIP operates claims a trip with the lowest. -/
theorem evaluated_trips (away : s.ssc.station ≠ .test)
    (operates : newlyOperated st s.pes (s.pes.evaluate st s.bkc.state r) = e :: rest) :
    Trips { element := e, detail := causeDetail st.pes r (s.pes.evaluate st s.bkc.state r) e } true s
      (publish s (settle (evaluated s st r))) := by
  have claim : cycleClaim st r s.pes (s.pes.evaluate st s.bkc.state r) =
      some { element := e, detail := causeDetail st.pes r (s.pes.evaluate st s.bkc.state r) e } := by
    simp [cycleClaim, operates]
  have spared : Spares s ((s.take .pesRecord).withPes (s.pes.evaluate st s.bkc.state r)) :=
    (Spares.refl.take rfl).only (Only.withPes (by decide) Only.refl _)
  unfold evaluated
  dsimp only
  rw [claim, pesFinish_some]
  exact (operate_trips away).of_spares spared rfl rfl rfl rfl

/-- An evaluation at which none operates triggers the recorder for a pickup, or not at all. -/
theorem evaluated_of_none (none_operates : newlyOperated st s.pes (s.pes.evaluate st s.bkc.state r) = []) :
    evaluated s st r = publishPes true (pesFinish s.ssc.station s.pes none
      ((s.take .pesRecord).withPes (s.pes.evaluate st s.bkc.state r))) := by
  simp [evaluated, cycleClaim, none_operates]

section none_operates
variable (none_operates : newlyOperated st s.pes (s.pes.evaluate st s.bkc.state r) = [])
include none_operates

theorem evaluated_quiet : Only quietFields s (evaluated s st r) := by
  rw [evaluated_of_none none_operates]
  have made : Only quietFields s ((s.take .pesRecord).withPes (s.pes.evaluate st s.bkc.state r)) :=
    Only.withPes (by decide) (Only.take _ (by decide) Only.refl) _
  refine Only.publishPes _ (by decide) ?_
  obtain e | ⟨x, e⟩ := pesFinish_none_cases s.ssc.station s.pes
    ((s.take .pesRecord).withPes (s.pes.evaluate st s.bkc.state r)) <;> rw [e]
  · exact made
  · exact Only.send _ (by decide) made

theorem evaluated_eq : evaluated s st r = { s with pes := (evaluated s st r).pes, due := (evaluated s st r).due } := by
  rw [evaluated_of_none none_operates, publishPes, State.notify_eq]
  obtain e | ⟨x, e⟩ := pesFinish_none_cases s.ssc.station s.pes
    ((s.take .pesRecord).withPes (s.pes.evaluate st s.bkc.state r)) <;> rw [e] <;> rfl

theorem evaluated_ledger (d : Delivery) (hd : d.fromPes = true) :
    d ∈ (evaluated s st r).due ↔ d ∈ s.due ∨ d = .csqPes true ∨
      ∃ e, LowestPickedUp s.pes (s.pes.evaluate st s.bkc.state r) e ∧ d = .drcTrigger .pickup e := by
  have taken : d ∈ (s.take .pesRecord).due ↔ d ∈ s.due := (Spares.refl.take rfl).ledger d hd
  rw [evaluated_of_none none_operates, publishPes, State.mem_notify_due, pesFinish_none_mem_due, State.withPes_due,
    State.withPes_pes, taken, or_assoc]
  exact or_congr_right or_comm

end none_operates

end cycle

end Sys2Proof.Machine

open Sys2Proof Sys2Proof.Machine

/-- Settles O13: the trip claims by what follows one, the pickups by the end of an evaluation without an operation. -/
theorem operationsClaimTrips : Obligations.OperationsClaimTrips := by
  unfold Obligations.OperationsClaimTrips
  refine ⟨fun s st r e rest hst hr active away operates => ?_,
    fun s st due hst active away service timer change => ?_, fun s st r hst hr active hs none_operates => ?_⟩
  · have trips := evaluated_trips away operates
    obtain ⟨⟨standing, operated, trip⟩, least⟩ := newlyOperated_cons operates
    refine ⟨_, exec_pesCycleEvaluation hst hr active, ?_⟩
    have pes : (publish s (settle (evaluated s st r))).pes = s.pes.evaluate st s.bkc.state r := by simp
    intro detail
    have same : detail = causeDetail st.pes r (s.pes.evaluate st s.bkc.state r) e := by
      rw [← pes]
      rfl
    rw [pes, same]
    exact ⟨fun f hf hx hy => least f hx hy hf, operated, trip, standing, trips.claim_mem, trips.trigger_mem,
      trips.publication_mem, fun f x => (trips.claim_mem_iff f x).1, fun k f => (trips.trigger_mem_iff k f).1,
      trips.feeder st hst, trips.notice⟩
  · refine ⟨extTripTaken s st due, exec_debounceExpiry_extTrip hst active timer change, extTripTaken_input, ?_⟩
    by_cases claims : s.pins.raw[inputIdx .extTrip] = true ∧ (s.pes.el .e1).state = .dropped
    · obtain ⟨raw, dropped⟩ := claims
      obtain ⟨trips, operated⟩ := extTripTaken_trips (due := due) away service raw dropped
      refine ⟨trips.publication_mem, fun _ _ => ⟨operated, trips.claim_mem, trips.trigger_mem, trips.feeder st hst,
        trips.notice⟩, ⟨fun f x hx => ?_, fun k f hf => ?_⟩, fun low => absurd (raw.symm.trans low) nofun⟩
      · exact ((trips.claim_mem_iff f x).1 hx).imp_left fun own => ⟨⟨raw, dropped⟩, own⟩
      · exact ((trips.trigger_mem_iff k f).1 hf).imp_left fun own => ⟨⟨raw, dropped⟩, own⟩
    · obtain ⟨publishes, pes⟩ := extTripTaken_publishes (due := due) service claims
      refine ⟨publishes.publication_mem, fun raw dropped => absurd ⟨raw, dropped⟩ claims,
        ⟨fun f x hx => .inr (publishes.claim_mem hx), fun k f hf => .inr (publishes.trigger_mem hf)⟩, fun low => ?_⟩
      rw [pes, if_neg (by simp [low]), Pes.el_set_same]
      rfl
  · refine ⟨_, (exec_pesCycleEvaluation hst hr active).trans (done_of_quiet hs (evaluated_quiet none_operates)),
      evaluated_eq none_operates, ?_⟩
    rw [evaluated_pes]
    intro picked lowest
    refine ⟨(evaluated_ledger none_operates _ rfl).2 (.inr (.inl rfl)),
      fun e he => (evaluated_ledger none_operates _ rfl).2 (.inr (.inr ⟨e, he, rfl⟩)), fun k f hf => ?_,
      fun f x hx => ?_⟩
    · obtain old | absurd | ⟨e, he, new⟩ := (evaluated_ledger none_operates _ rfl).1 hf
      · exact .inr old
      · cases absurd
      · cases new
        exact .inl ⟨rfl, he⟩
    · obtain old | absurd | ⟨e, -, absurd⟩ := (evaluated_ledger none_operates _ rfl).1 hx
      · exact old
      · cases absurd
      · cases absurd
end

section
/-! PROOFS. Breaker-failure transfers (R34 to R36): how an origin is confirmed, added and removed, and the frames, marks
and expiries that do so. -/

namespace Sys2Proof.Machine

/-! ### Taking a transfer (R34) -/

theorem inScope_iff (st : StationSettings) (sections : SectionSet) :
    inScope st sections = true ↔
      st.role = .tie ∨ ((st.role = .incomer ∨ st.role = .generator) ∧ st.sections.overlaps sections = true) := by
  cases h : st.role <;> simp [inScope, h]

theorem inScope_eq_false {st : StationSettings} {sections : SectionSet}
    (h : ¬ (st.role = .tie ∨
      ((st.role = .incomer ∨ st.role = .generator) ∧ st.sections.overlaps sections = true))) :
    inScope st sections = false := by
  rwa [← Bool.not_eq_true, inScope_iff]

theorem Pes.hasOrigin_eq_false {x : Pes} {n : StationNo} (h : ¬ ∃ o ∈ x.transfers, o.station = n) :
    x.hasOrigin n = false := by
  rwa [← Bool.not_eq_true, Pes.hasOrigin_iff]

/-- The element set with a new origin. -/
def Pes.withOrigin (x : Pes) (own : StationNo) (o : Origin) : Pes :=
  { x with transfers := roomForOrigin own x.transfers ++ [o] }

/-- The element set with an origin confirmed. -/
def Pes.confirm (x : Pes) (n : StationNo) (t : Time) : Pes :=
  { x with transfers := x.transfers.map fun o => if o.station = n then { o with confirmed := t } else o }

section take
variable {st : Settings} {n : StationNo} {sections : SectionSet} {s : State}

theorem takeTransfer_known (known : s.pes.hasOrigin n = true) :
    takeTransfer st n sections s = s.withPes (s.pes.confirm n s.localTime) := by
  unfold takeTransfer
  rw [if_pos known]
  exact pesFinish_none (newlyPickedUp_eq_nil_iff.2 fun _ h => h)

theorem takeTransfer_out_of_scope (unknown : s.pes.hasOrigin n = false)
    (scope : inScope st.station sections = false) : takeTransfer st n sections s = s := by
  simp [takeTransfer, unknown, scope]

theorem takeTransfer_operates (unknown : s.pes.hasOrigin n = false) (scope : inScope st.station sections = true)
    (dropped : (s.pes.el .e2).state = .dropped) :
    takeTransfer st n sections s = operate s.ssc.station { element := .e2, detail := BitVec.ofNat 8 n.val }
      (s.withPes ((s.pes.withOrigin s.sli.ownNumber
        { station := n, sections := sections, confirmed := s.localTime }).set .e2 Element.operatedNow)) := by
  simp [takeTransfer, unknown, scope, dropped, pesFinish_some, Pes.withOrigin]

theorem takeTransfer_adds (unknown : s.pes.hasOrigin n = false) (scope : inScope st.station sections = true)
    (standing : (s.pes.el .e2).state ≠ .dropped) :
    takeTransfer st n sections s = s.withPes (s.pes.withOrigin s.sli.ownNumber
      { station := n, sections := sections, confirmed := s.localTime }) := by
  unfold takeTransfer
  rw [if_neg (by simp [unknown]), if_pos scope]
  dsimp only
  rw [if_neg standing]
  exact pesFinish_none (newlyPickedUp_eq_nil_iff.2 fun _ h => h)

end take

theorem roomForOrigin_of_lt {own : StationNo} {xs : List Origin} (h : xs.length < 30) : roomForOrigin own xs = xs :=
  if_pos h

/-- In a full set the origin that bears the own number makes room. -/
theorem roomForOrigin_of_full {own : StationNo} {xs : List Origin} (h : 30 ≤ xs.length)
    (others : (xs.filter fun o => o.station != own).length < 30) :
    roomForOrigin own xs = xs.filter fun o => o.station != own := by
  rw [roomForOrigin, if_neg (by omega)]
  exact List.take_of_length_le (by omega)

/-! ### Removing an origin (R35) -/

/-- The element set without an origin: with the last one element 2 drops. -/
def Pes.withoutOrigin (x : Pes) (n : StationNo) : Pes :=
  let rest := x.transfers.filter fun o => o.station != n
  if rest.isEmpty then ({ x with transfers := rest } : Pes).set .e2 Element.reset else { x with transfers := rest }

section remove
variable {n : StationNo} {x : Pes} {s : State}

theorem removeOrigin_known (known : s.pes.hasOrigin n = true) :
    removeOrigin n s = s.withPes (s.pes.withoutOrigin n) := if_pos known

theorem removeOrigin_unknown (unknown : s.pes.hasOrigin n = false) : removeOrigin n s = s := by
  simp [removeOrigin, unknown]

@[simp] theorem Pes.withoutOrigin_transfers :
    (x.withoutOrigin n).transfers = x.transfers.filter fun o => o.station != n := by
  unfold Pes.withoutOrigin
  dsimp only
  split <;> rfl

theorem Pes.withoutOrigin_el_ne {e : ElementNo} (he : e ≠ .e2) : (x.withoutOrigin n).el e = x.el e := by
  unfold Pes.withoutOrigin
  dsimp only
  split
  · exact Pes.el_set_ne _ _ _ _ he
  · rfl

theorem Pes.withoutOrigin_e2 :
    (x.withoutOrigin n).el .e2 =
      if (x.transfers.filter fun o => o.station != n) = [] then Element.reset else x.el .e2 := by
  unfold Pes.withoutOrigin
  dsimp only
  simp only [List.isEmpty_iff]
  split
  · exact Pes.el_set_same _ _ _
  · rfl

theorem Pes.hasOrigin_of_origin {o : Origin} (h : x.origin n = some o) : x.hasOrigin n = true := by
  rw [Pes.hasOrigin_iff]
  exact ⟨o, List.mem_of_find?_eq_some h, by simpa using List.find?_some h⟩

end remove

/-! ### The frame that brings a transfer -/

/-- A good frame of another station on a line that the station watches is acted on (R83, R89). -/
theorem filtered_of_other {n : StationNo} {act : State → State} {s : State} (working : s.ssc.station ≠ .start)
    (watching : s.sli.watching = true) (other : n ≠ s.sli.ownNumber) (number : n ≠ 0) :
    filtered n act s = act s.heard := by
  have heard_other : n ≠ s.heard.sli.ownNumber := other
  rw [filtered, State.hearing_of_watching working watching, if_neg heard_other, if_neg number]

theorem working_of_protects {x : StationState} (h : x.protects = true) : x ≠ .start := by
  rintro rfl
  cases h

/-- What the PES reads when a frame reaches it is as it was before the frame. -/
structure FrameReaches (s u : State) : Prop where
  spares : Spares s u
  rest : Only [.sli, .ptb, .due] s u
  own : u.sli.ownNumber = s.sli.ownNumber
  conflict : u.sli.conflict = s.sli.conflict

section reaches
variable {s u : State}

theorem frameReaches_heard (s : State) : FrameReaches s s.heard :=
  ⟨⟨rfl, fun _ _ => Iff.rfl⟩, Only.heard (by decide) Only.refl, rfl, rfl⟩

/-- The peer table takes a report before the PES does (R107). -/
theorem FrameReaches.takeReport (h : FrameReaches s u) (n : StationNo) (r : Report) :
    FrameReaches s (takeReport n r u) := by
  have sli : (Machine.takeReport n r u).sli = u.sli :=
    (Only.takeReport (fs := [.ptb, .due]) n r (by decide) (by decide) Only.refl).get .sli (by decide)
  refine ⟨?_, Only.takeReport n r (by decide) (by decide) h.rest, by rw [sli, h.own], by rw [sli, h.conflict]⟩
  unfold Machine.takeReport addMark State.setEntry
  split
  · exact h.spares
  · dsimp only
    refine Spares.notifyAll ?_ (by decide)
    split
    · exact (h.spares.only (Only.withPtb (by decide) Only.refl _)).only (Only.withPtb (by decide) Only.refl _)
    · exact h.spares.only (Only.withPtb (by decide) Only.refl _)

theorem FrameReaches.pes (h : FrameReaches s u) : u.pes = s.pes := h.rest.get .pes (by decide)

theorem FrameReaches.localTime (h : FrameReaches s u) : u.localTime = s.localTime := h.rest.get .localTime (by decide)

theorem FrameReaches.ssc (h : FrameReaches s u) : u.ssc = s.ssc := h.rest.get .ssc (by decide)

end reaches

/-- The end of a command after which the PES publishes. -/
def endsPublished (s u : State) : State := publish s (settle (publishPes false u))

section published
variable {s u : State}

@[simp] theorem endsPublished_pes : (endsPublished s u).pes = u.pes := by simp [endsPublished]

theorem endsPublished_mem : .csqPes false ∈ (endsPublished s u).due :=
  (Spares.publishes (old := s) (afterCycle := false) (Spares.refl (s := u))).publication_mem

end published

section taken
variable {s u : State} {st : Settings} {n : StationNo} {sections : SectionSet} (h : FrameReaches s u)
include h

theorem transfer_known (known : s.pes.hasOrigin n = true) :
    (endsPublished s (takeTransfer st n sections u)).pes = s.pes.confirm n s.localTime := by
  rw [endsPublished_pes, takeTransfer_known (by rw [h.pes]; exact known), h.pes, h.localTime]
  rfl

theorem transfer_out_of_scope (unknown : s.pes.hasOrigin n = false) (scope : inScope st.station sections = false) :
    (endsPublished s (takeTransfer st n sections u)).pes = s.pes := by
  rw [endsPublished_pes, takeTransfer_out_of_scope (by rw [h.pes]; exact unknown) scope, h.pes]

theorem transfer_operates (away : s.ssc.station ≠ .test) (unknown : s.pes.hasOrigin n = false)
    (scope : inScope st.station sections = true) (dropped : (s.pes.el .e2).state = .dropped) :
    (endsPublished s (takeTransfer st n sections u)).pes =
        (s.pes.withOrigin s.sli.ownNumber { station := n, sections := sections, confirmed := s.localTime }).set .e2
          Element.operatedNow ∧
      Trips { element := .e2, detail := BitVec.ofNat 8 n.val } false s
        (endsPublished s (takeTransfer st n sections u)) := by
  rw [takeTransfer_operates (by rw [h.pes]; exact unknown) scope (by rw [h.pes]; exact dropped)]
  refine ⟨?_, (operate_trips (by rw [h.ssc]; exact away)).of_spares
    (h.spares.only (Only.withPes (by decide) Only.refl _)) h.conflict (h.rest.get .settings (by decide))
    (h.rest.get .csq (by decide)) (congrArg Ssc.station h.ssc)⟩
  rw [endsPublished_pes, operate_pes, State.withPes_pes, h.pes, h.own, h.localTime]

theorem transfer_adds (unknown : s.pes.hasOrigin n = false) (scope : inScope st.station sections = true)
    (standing : (s.pes.el .e2).state ≠ .dropped) :
    (endsPublished s (takeTransfer st n sections u)).pes =
      s.pes.withOrigin s.sli.ownNumber { station := n, sections := sections, confirmed := s.localTime } := by
  rw [endsPublished_pes, takeTransfer_adds (by rw [h.pes]; exact unknown) scope (by rw [h.pes]; exact standing),
    State.withPes_pes, h.pes, h.own, h.localTime]

/-- A new origin in scope, whether element 2 operates by it or not. -/
theorem transfer_new (away : s.ssc.station ≠ .test) (unknown : s.pes.hasOrigin n = false)
    (scope : inScope st.station sections = true) :
    let t := endsPublished s (takeTransfer st n sections u)
    t.pes.transfers = roomForOrigin s.sli.ownNumber s.pes.transfers ++
        [{ station := n, sections := sections, confirmed := s.localTime }] ∧
      ((s.pes.el .e2).state = .dropped → (t.pes.el .e2).state = .operated ∧
        Trips { element := .e2, detail := BitVec.ofNat 8 n.val } false s t) ∧
      ((s.pes.el .e2).state ≠ .dropped → t.pes.elements = s.pes.elements) := by
  by_cases dropped : (s.pes.el .e2).state = .dropped
  · obtain ⟨pes, trips⟩ := transfer_operates h away unknown scope dropped
    refine ⟨by rw [pes]; rfl, fun _ => ⟨?_, trips⟩, fun standing => absurd dropped standing⟩
    rw [pes, Pes.el_set_same]
    rfl
  · have pes := transfer_adds h unknown scope dropped
    exact ⟨by rw [pes]; rfl, fun k => absurd k dropped, fun _ => by rw [pes]; rfl⟩

end taken

/-! ### The commands -/

section commands
variable {s : State} {st : Settings} {n : StationNo}

theorem exec_bfTransferReceived (sections : Byte) (hst : s.settings = some st)
    (active : s.ssc.station.protects = true) (service : st.inService .e2 = true) (watching : s.sli.watching = true)
    (other : n ≠ s.sli.ownNumber) (number : n ≠ 0) :
    exec (.bfTransferReceived n sections) s =
      .next (endsPublished s (takeTransfer st n (sectionsOfByte sections) s.heard)) := by
  have force : s.heard.settings = some st := hst
  have takes : s.heard.takesTransfers st = true := by
    rw [State.takesTransfers, (frameReaches_heard s).ssc, active, service]
    rfl
  show done s (filtered n (transferNotice n (sectionsOfByte sections)) s) = _
  rw [filtered_of_other (working_of_protects active) watching other number, transferNotice,
    State.inForce_some force, if_pos takes]
  rfl

/-- A number that is not CONFLICTED, or whose conflict was cleared, is recorded (R107). -/
theorem Entry.barred_eq_false {e : Entry}
    (h : e.state = .conflicted → ∃ c, e.conflict = some c ∧ c.cleared = true) : e.barred = false := by
  by_cases conflicted : e.state = .conflicted
  · obtain ⟨c, hc, cleared⟩ := h conflicted
    simp [Entry.barred, hc, cleared]
  · simp [Entry.barred, conflicted]

/-- A recorded report reaches the PES after the peer table. -/
theorem exec_reportReceived {payload : Vector Byte 58} {r : Report} (hr : decodeReport payload.toList = r)
    (working : s.ssc.station ≠ .start) (watching : s.sli.watching = true) (other : n ≠ s.sli.ownNumber) (number : n ≠ 0)
    (recorded : (s.ptb.entries[n]).barred = false) :
    exec (.reportReceived n payload) s = done s (transferReport n r.body (takeReport n r s.heard)) := by
  have heard_recorded : ¬ (s.heard.entry n).barred = true := by
    rw [show s.heard.entry n = s.ptb.entries[n] from rfl, recorded]
    exact Bool.false_ne_true
  show done s (filtered n (reportHeard n (decodeReport payload.toList)) s) = _
  rw [hr, filtered_of_other working watching other number, reportHeard, if_neg heard_recorded]

/-- A report without the BF flag shows neither BF set nor BF clear (notes/assumptions/23). -/
theorem transferReport_none (u : State) : transferReport n none u = u := by
  unfold transferReport State.inForce
  split <;> rfl

/-- A report with its BF flag shows the transfer, or its end (R35). -/
theorem transferReport_some {u : State} (h : FrameReaches s u) (hst : s.settings = some st)
    (active : s.ssc.station.protects = true) (service : st.inService .e2 = true) (b : ReportBody) :
    done s (transferReport n (some b) u) = .next (endsPublished s
      (if b.bf then takeTransfer st n (if b.role = .tie then SectionSet.both else b.sections) u
       else removeOrigin n u)) := by
  have force : u.settings = some st := (h.rest.get .settings (by decide)).trans hst
  have takes : u.takesTransfers st = true := by
    rw [State.takesTransfers, h.ssc, active, service]
    rfl
  rw [transferReport, State.inForce_some force]
  dsimp only
  rw [if_pos takes]
  rfl

/-- Taking the origin out writes the element set, and the publication the ledger. -/
theorem publishPes_withPes_eq (s : State) (time : Time) (due : List Delivery) (x : Pes) :
    let t := publishPes false (((s.withTime time).withDue due).withPes x)
    t = { s with pes := t.pes, due := t.due, localTime := time } := by
  intro t
  simp only [t, publishPes, State.notify_eq]
  rfl

/-- An origin leaves the set between commands. -/
theorem done_removeOrigin {u : State} (hs : Settled s) (k : Only quietFields s u) (known : u.pes.hasOrigin n = true) :
    done s (publishPes false (removeOrigin n u)) = .next (publishPes false (u.withPes (u.pes.withoutOrigin n))) := by
  rw [removeOrigin_known known]
  exact done_of_quiet hs (Only.publishPes _ (by decide) (Only.withPes (by decide) k _))

end commands

end Sys2Proof.Machine

open Sys2Proof Sys2Proof.Machine

/-- Settles O15: notices and reports by whether the origin is known and in scope, and the ends of an origin. -/
theorem transferOriginsComeAndGo : Obligations.TransferOriginsComeAndGo := by
  unfold Obligations.TransferOriginsComeAndGo
  refine ⟨fun s st n sections hst active away service watching other conflict number => ?_,
    fun s n o ho hs => ?_,
    fun s st n payload hst active away service watching other conflict number entry => ?_⟩
  · intro scope known
    have reaches := frameReaches_heard s
    refine ⟨_, exec_bfTransferReceived sections hst active service watching other number, endsPublished_mem,
      fun k => ?_, fun k hscope => ?_, fun k hscope => ?_⟩
    · rw [transfer_known reaches ((s.pes.hasOrigin_iff n).2 k)]
      exact ⟨rfl, rfl⟩
    · exact transfer_out_of_scope reaches (Pes.hasOrigin_eq_false k) (inScope_eq_false hscope)
    · obtain ⟨transfers, operates, stands⟩ := transfer_new reaches away (Pes.hasOrigin_eq_false k)
        ((inScope_iff _ _).2 hscope)
      refine ⟨fun free => ?_, fun full => ⟨?_, fun others => ?_⟩, fun dropped => ?_, stands⟩
      · rw [transfers, roomForOrigin_of_lt free]
      · have := (roomForOrigin_le s.sli.ownNumber s.pes.transfers).2
        rw [transfers, List.length_append, List.length_singleton]
        omega
      · rw [transfers, roomForOrigin_of_full full others]
      · obtain ⟨operated, trips⟩ := operates dropped
        exact ⟨operated, trips.claim_mem, trips.notice conflict⟩
  · intro rest
    have known := Pes.hasOrigin_of_origin ho
    refine ⟨⟨_, done_removeOrigin hs (Only.take _ (by decide) Only.refl) known, ?_⟩, ?_⟩
    · refine ⟨publishPes_withPes_eq s s.localTime _ _, ?_⟩
      rw [publishPes_pes]
      exact ⟨Pes.withoutOrigin_transfers, fun e he => Pes.withoutOrigin_el_ne he, Pes.withoutOrigin_e2⟩
    · have expires : exec (.transferOriginExpiry n) s =
          done s (publishPes false (removeOrigin n (s.reach (o.confirmed + 1000)))) := by
        simp only [exec, execTransferOriginExpiry, ho, Option.map_some, expire_some]
      obtain ⟨time, reached⟩ : ∃ time, s.reach (o.confirmed + 1000) = s.withTime time := ⟨_, State.reach_eq _ _⟩
      rw [reached] at expires ⊢
      refine ⟨_, expires.trans (done_removeOrigin hs (Only.withTime (by decide) Only.refl _) known), ?_⟩
      refine ⟨publishPes_withPes_eq s time s.due _, ?_⟩
      rw [publishPes_pes]
      exact ⟨Pes.withoutOrigin_transfers, fun e he => Pes.withoutOrigin_el_ne he, Pes.withoutOrigin_e2⟩
  · intro known rest
    have runs (r : Report) (hr : decodeReport payload.toList = r) :=
      exec_reportReceived hr (working_of_protects active) watching other number (Entry.barred_eq_false entry)
    generalize hr : decodeReport payload.toList = r
    have reaches := (frameReaches_heard s).takeReport n r
    have run := runs r hr
    cases hbody : r.body with
    | none =>
      rw [hbody, transferReport_none] at run
      exact ⟨_, run, fun _ => by rw [publish_pes, settle_pes, reaches.pes],
        fun b absurd => (Option.some_ne_none b absurd.symm).elim⟩
    | some body =>
      rw [hbody, transferReport_some reaches hst active service] at run
      refine ⟨_, run, fun absurd => (Option.some_ne_none body absurd).elim, ?_⟩
      rintro b ⟨⟩
      intro shown scope
      refine ⟨endsPublished_mem, fun bf k => ?_, fun bf k hscope => ?_, fun bf k hscope => ?_, fun bf k => ?_,
        fun bf k => ?_⟩
      · rw [if_pos bf, transfer_known reaches ((s.pes.hasOrigin_iff n).2 k)]
        exact ⟨rfl, rfl⟩
      · rw [if_pos bf]
        exact transfer_out_of_scope reaches (Pes.hasOrigin_eq_false k) (inScope_eq_false hscope)
      · rw [if_pos bf]
        obtain ⟨transfers, operates, stands⟩ := transfer_new reaches away (Pes.hasOrigin_eq_false k)
          ((inScope_iff _ _).2 hscope)
        refine ⟨fun free => ?_, fun dropped => ?_, stands⟩
        · exact transfers.trans (by rw [roomForOrigin_of_lt free])
        · obtain ⟨operated, trips⟩ := operates dropped
          exact ⟨operated, trips.claim_mem, trips.trigger_mem, trips.notice conflict⟩
      · rw [if_neg (by simp [bf]), endsPublished_pes, removeOrigin_unknown, reaches.pes]
        rw [reaches.pes]
        exact Pes.hasOrigin_eq_false k
      · rw [if_neg (by simp [bf]), endsPublished_pes, removeOrigin_known, State.withPes_pes, reaches.pes]
        · exact ⟨Pes.withoutOrigin_transfers, fun e he => Pes.withoutOrigin_el_ne he, Pes.withoutOrigin_e2⟩
        · rw [reaches.pes, Pes.hasOrigin_iff]
          exact k
end

section
/-! PROOFS. A passage out of TEST on a link in conflict (R38, R98): the trip that element 1 claims is told to the CSQ,
which may withdraw its request, and the SYN then takes its waiting CLAIM out of the claim slot. The statement says of
that passage that the link stands as it stood. In conflict `LinkKept` has the claim slot empty, but the statement asks
no more of its state than that it is one between commands. -/

namespace Sys2Proof.Machine

/-- A TIE in CLOSING_AUTO, its conditions gone and the CLAIM of its request still in the claim slot of a link in
conflict, with EXT_TRIP active. -/
def claimingTie : State :=
  { State.reset with
    settings := some (settingsOf (fun _ => none) .tie)
    csq := { Csq.reset with state := .closingAuto }
    syn :=
      { Syn.reset with
        state := .claiming, request := some { requester := .sequence, mode := .checkOnly }
        claim := some { sections := SectionSet.onlyB, phase := .pending } }
    sli := { State.reset.sli with conflict := some 1, claimSlot := some (.claim SectionSet.onlyB) }
    ssc := { State.reset.ssc with station := .auto, debounced := Vector.replicate 15 true } }

theorem claimingTie_settled : Settled claimingTie := by
  have taken : claimingTie.sli.lineFree = false := rfl
  exact ⟨fun _ => rfl, fun _ free => absurd (taken.symm.trans free) nofun⟩

/-- Element 1 is in service, EXT_TRIP active, and the passage is one out of TEST. -/
theorem claimingTie_takes :
    (settingsOf (fun _ => none) .tie).inService .e1 = true ∧ claimingTie.input .extTrip = true := by decide

/-- The passage out of TEST empties the claim slot. -/
theorem claimingTie_leaves_claimSlot {t : State} (h : exec (.pesStationStateChange .test .auto) claimingTie = .next t) :
    t.sli.claimSlot = none := by
  obtain rfl := Host.Outcome.next.inj h
  decide

end Sys2Proof.Machine

open Sys2Proof Sys2Proof.Machine

/-- Refutes O14: the link in conflict does not stand as it stood when the TIE leaves TEST for AUTO. -/
theorem not_testOperationsClaimNothing : ¬ Obligations.TestOperationsClaimNothing := by
  unfold Obligations.TestOperationsClaimNothing
  rintro ⟨-, passage⟩
  obtain ⟨t, ht, -, -, -, -, -, -, claims⟩ :=
    passage claimingTie _ .test .auto rfl (by decide) claimingTie_settled
  obtain ⟨-, -, -, outside⟩ := claims ⟨rfl, claimingTie_takes, .inl (.inl rfl)⟩
  obtain ⟨-, -, -, link, -⟩ := outside (by decide)
  have stands : t.sli.claimSlot = claimingTie.sli.claimSlot := congrArg Sli.claimSlot (link rfl)
  rw [claimingTie_leaves_claimSlot ht] at stands
  cases stands

end

section
/-! PROOFS. A frame that bears the own number (R89, R97): whatever its class, the station enters ADDRESS_CONFLICT, so that
such a frame writes the service state (R199). The table of the parts that a command writes names the service controller
for BF_TRANSFER_RECEIVED, REPORT_RECEIVED and CONFLICT_RECEIVED, and not for the other frames of a station. -/

namespace Sys2Proof.Machine

/-- A station in MANUAL that has seen its line free. -/
def watchingStation : State :=
  { State.reset with
    settings := some (settingsOf (fun _ => none) .tie)
    sli := { State.reset.sli with watching := true }
    ssc := { State.reset.ssc with station := .manual } }

/-- A PRESENCE frame that bears the own number puts the station in conflict. -/
theorem presence_of_own_number_is_conflict {t : State}
    (h : exec (.presenceReceived watchingStation.sli.ownNumber 0) watchingStation = .next t) :
    t.ssc.station = .addressConflict := by
  obtain rfl := Host.Outcome.next.inj h
  decide

end Sys2Proof.Machine

open Sys2Proof Sys2Proof.Machine

/-- Refutes O3: PRESENCE_RECEIVED with the own number writes the service state, which is none of the parts that the table
gives it. -/
theorem not_everyCommandStaysInItsBlocks : ¬ Obligations.EveryCommandStaysInItsBlocks := by
  unfold Obligations.EveryCommandStaysInItsBlocks
  intro stays
  have kept : (Part.ssc).kept watchingStation _ :=
    stays (.presenceReceived watchingStation.sli.ownNumber 0) watchingStation _ .ssc rfl (by decide)
  have conflict := presence_of_own_number_is_conflict rfl
  have manual : watchingStation.ssc.station = .manual := rfl
  rw [congrArg Ssc.station kept, manual] at conflict
  cases conflict

end

section
/-! PROOFS. What the blocks' dealings with the link, the sequencer's and the synchronizer's operations leave of the state
that the breaker rests on: the breaker record, the coils, the settings, the station state and the conflict of the link. -/

namespace Sys2Proof.Machine

/-! ### The conflict of the link -/

section slots
variable (l : Sli)

@[simp] theorem Sli.touch_conflict (slot : Slot) : (l.touch slot).conflict = l.conflict := by
  unfold Sli.touch
  split
  · split <;> rfl
  · rfl

/-- What is placed on the air changes the conflict of the link no more than the placing does. -/
theorem Sli.whenOnAir_conflict {place : Sli → Sli} (h : (place l).conflict = l.conflict) :
    (l.whenOnAir place).conflict = l.conflict := by
  unfold Sli.whenOnAir
  split
  · rfl
  · exact h

@[simp] theorem Sli.placeBf_conflict (x : SectionSet) : (l.placeBf x).conflict = l.conflict :=
  l.whenOnAir_conflict (l.touch_conflict _)

@[simp] theorem Sli.placeNotice_conflict (x : TripCause) : (l.placeNotice x).conflict = l.conflict :=
  l.whenOnAir_conflict (l.touch_conflict _)

@[simp] theorem Sli.placeClaim_conflict (x : ClaimItem) : (l.placeClaim x).conflict = l.conflict :=
  l.whenOnAir_conflict (l.touch_conflict _)

@[simp] theorem Sli.placeReport_conflict (x : Report) : (l.placeReport x).conflict = l.conflict :=
  l.whenOnAir_conflict (l.touch_conflict _)

@[simp] theorem Sli.placeData_conflict (x : DataItem) : (l.placeData x).conflict = l.conflict :=
  l.whenOnAir_conflict rfl

@[simp] theorem Sli.giveUpClaim_conflict : l.giveUpClaim.conflict = l.conflict := by
  unfold Sli.giveUpClaim
  split
  · exact l.touch_conflict _
  · exact l.placeClaim_conflict _

@[simp] theorem Sli.leave_conflict (f : Flight) : (l.leave f).conflict = l.conflict := by
  unfold Sli.leave
  repeat' split
  all_goals rfl

end slots

/-! ### What the breaker rests on -/

/-- The breaker record, the coils, the settings, the station state and the conflict stand as they stood. -/
structure Steady (s t : State) : Prop where
  cds : t.cds = s.cds
  bkc : t.bkc = s.bkc
  settings : t.settings = s.settings
  station : t.ssc.station = s.ssc.station
  returnState : t.ssc.returnState = s.ssc.returnState
  conflict : t.sli.conflict = s.sli.conflict

/-- The fields that are none of these. -/
def apartFields : List Fld :=
  [.localTime, .pins, .siu, .cme, .pes, .ptb, .syn, .lsc, .csq, .drc, .due, .freeCount, .pending]

variable {s t u v : State}

theorem Steady.refl : Steady s s := ⟨rfl, rfl, rfl, rfl, rfl, rfl⟩

theorem Steady.trans (h : Steady s t) (k : Steady t u) : Steady s u :=
  ⟨k.cds.trans h.cds, k.bkc.trans h.bkc, k.settings.trans h.settings, k.station.trans h.station,
    k.returnState.trans h.returnState, k.conflict.trans h.conflict⟩

theorem Steady.only (h : Steady s t) (k : Only apartFields t u) : Steady s u := by
  have cds : u.cds = t.cds := k.get .cds (by decide)
  have bkc : u.bkc = t.bkc := k.get .bkc (by decide)
  have settings : u.settings = t.settings := k.get .settings (by decide)
  have ssc : u.ssc = t.ssc := k.get .ssc (by decide)
  have sli : u.sli = t.sli := k.get .sli (by decide)
  exact h.trans ⟨cds, bkc, settings, by rw [ssc], by rw [ssc], by rw [sli]⟩

theorem Steady.withSli (h : Steady s t) {x : Sli} (hx : x.conflict = t.sli.conflict) : Steady s (t.withSli x) :=
  h.trans ⟨rfl, rfl, rfl, rfl, rfl, hx⟩

theorem Steady.withSsc (h : Steady s t) {x : Ssc} (station : x.station = t.ssc.station)
    (ret : x.returnState = t.ssc.returnState) : Steady s (t.withSsc x) :=
  h.trans ⟨rfl, rfl, rfl, station, ret, rfl⟩

theorem Steady.withCsq (h : Steady s t) (x : Csq) : Steady s (t.withCsq x) :=
  h.only (Only.withCsq (by decide) Only.refl x)

theorem Steady.withSyn (h : Steady s t) (x : Syn) : Steady s (t.withSyn x) :=
  h.only (Only.withSyn (by decide) Only.refl x)

theorem Steady.send (h : Steady s t) (d : Delivery) : Steady s (t.send d) := h.only (Only.send d (by decide) Only.refl)

theorem Steady.take (h : Steady s t) (d : Delivery) : Steady s (t.take d) := h.only (Only.take d (by decide) Only.refl)

theorem Steady.run (h : Steady s t) (b : Bool) : Steady s (t.run b) := h.withSsc rfl rfl

theorem Steady.reach (h : Steady s t) (due : Time) : Steady s (t.reach due) :=
  h.only (Only.reach due (by decide) Only.refl)

theorem Steady.expire {tm : Timer} {act : State → State} (h : Steady s t)
    (ha : ∀ u, Steady s u → Steady s (act u)) : Steady s (expire tm t act) := by
  cases tm with
  | none => exact h
  | some due => exact ha _ (h.reach due)

theorem Steady.inForce {act : Settings → State → State} (h : Steady s t) (ha : ∀ st, Steady s (act st t)) :
    Steady s (t.inForce act) := by
  unfold State.inForce
  split
  · exact h
  · exact ha _

theorem Steady.atWork {act : Settings → State → State} (h : Steady s t) (ha : ∀ st, Steady s (act st t)) :
    Steady s (t.atWork act) := by
  refine h.inForce fun st => ?_
  split
  · exact ha st
  · exact h

theorem Steady.recording {act : Settings → State → State} (h : Steady s t) (ha : ∀ st, Steady s (act st t)) :
    Steady s (t.recording act) := by
  refine h.inForce fun st => ?_
  split
  · exact ha st
  · exact h

/-! ### The synchronizer -/

theorem Steady.judgeEligible (h : Steady s t) : Steady s (judgeEligible t) := by
  refine h.inForce fun st => ?_
  split
  · exact (h.withSli (t.sli.placeClaim_conflict _)).withSyn _
  · exact h

theorem Steady.giveUpClaim (h : Steady s t) : Steady s (giveUpClaim t) := by
  unfold Machine.giveUpClaim
  split
  · exact (h.withSli t.sli.giveUpClaim_conflict).withSyn _
  · exact h

theorem Steady.withdrawClaim (h : Steady s t) : Steady s (withdrawClaim t) := (h.giveUpClaim.withSyn _).judgeEligible

theorem Steady.leaveYielded (h : Steady s t) : Steady s (leaveYielded t) := (h.withSyn _).judgeEligible

theorem Steady.yieldTo (h : Steady s t) (claimants : List StationNo) : Steady s (yieldTo claimants t) :=
  h.giveUpClaim.withSyn _

theorem Steady.endTold (h : Steady s t) (o : SynOutcome) : Steady s (endTold o t) := by
  have ended : Steady s (endClaim o t) := by
    unfold endClaim
    split
    · exact h
    · split
      · exact h.withSyn _
      · exact h.giveUpClaim
  unfold Machine.endTold
  split
  · exact (ended.withSyn _).send _
  · exact h

theorem Steady.synCancel (h : Steady s t) : Steady s (synCancel t) := h.endTold _

theorem Steady.synTrip (h : Steady s t) (closing : Bool) : Steady s (synTrip closing t) := by
  unfold Machine.synTrip
  split
  · exact h.withSyn _
  · exact h.synCancel

theorem Steady.takeRequest (h : Steady s t) (requester : Requester) (st : Settings) :
    Steady s (takeRequest requester st t) :=
  (h.withSyn _).judgeEligible

theorem Steady.lowerWinner (h : Steady s t) (claimants : List StationNo) : Steady s (lowerWinner claimants t) :=
  h.only (Only.lowerWinner claimants (by decide) Only.refl)

theorem Steady.claimingCycle (h : Steady s t) : Steady s (claimingCycle t) := by
  unfold Machine.claimingCycle
  repeat' split
  all_goals first | exact h | exact h.withdrawClaim

theorem Steady.claimingView (h : Steady s t) (st : Settings) (c : Claim) : Steady s (claimingView st c t) := by
  unfold Machine.claimingView
  dsimp only
  repeat' split
  all_goals first | exact h | exact h.withdrawClaim | exact h.yieldTo _

theorem Steady.yieldedView (h : Steady s t) (st : Settings) : Steady s (yieldedView st t) := by
  have seen (n : List StationNo) : Steady s (Machine.lowerWinner n t) := h.lowerWinner n
  unfold Machine.yieldedView
  dsimp only
  split
  · exact (seen _).leaveYielded
  · exact seen _

theorem Steady.synClaimFrame (h : Steady s t) (n : StationNo) (x : SectionSet) : Steady s (synClaimFrame n x t) := by
  refine h.inForce fun st => ?_
  repeat' split
  all_goals first | exact h | exact h.yieldTo _ | exact h.lowerWinner _

theorem Steady.synWithdrawFrame (h : Steady s t) (n : StationNo) : Steady s (synWithdrawFrame n t) := by
  unfold Machine.synWithdrawFrame
  split
  · exact h.leaveYielded
  · exact h

theorem Steady.deadRefused (h : Steady s t) : Steady s (deadRefused t) := by
  unfold Machine.deadRefused
  split
  · exact h.giveUpClaim.withSyn _
  · exact h

/-! ### The changeover sequencer -/

theorem Steady.handRequest (h : Steady s t) : Steady s (handRequest t) := by
  unfold Machine.handRequest
  split
  · exact h
  · refine Steady.withCsq (h.inForce fun st => ?_) _
    split
    · exact h
    · split
      · exact h.takeRequest _ _
      · exact h.withSyn _

theorem Steady.withdrawRequest (h : Steady s t) : Steady s (withdrawRequest t) := by
  have withdrawn : Steady s (synWithdraw t) := by
    unfold synWithdraw
    split
    · exact h.endTold _
    · exact h
  exact withdrawn.withCsq _

theorem Steady.enterRetransfer (h : Steady s t) (st : Settings) : Steady s (enterRetransfer st t) := by
  unfold Machine.enterRetransfer
  dsimp only
  split
  · exact (h.withCsq _).handRequest
  · exact h.withCsq _

theorem Steady.incomerTick (h : Steady s t) (st : Settings) :
    Steady s (incomerHand (incomerRunOut st (incomerMonitor st t))) := by
  have monitored : Steady s (incomerMonitor st t) := h.only (Only.incomerMonitor st (by decide) (by decide) Only.refl)
  have run_out : Steady s (incomerRunOut st (incomerMonitor st t)) := by
    unfold incomerRunOut
    split
    · exact monitored.enterRetransfer st
    · exact monitored
  unfold incomerHand
  split
  · exact run_out.handRequest
  · exact run_out

theorem Steady.generatorTick (h : Steady s t) (st : Settings) :
    Steady s (generatorShown (generatorDelay st (generatorReady st (generatorStarting st t)))) := by
  have starting : Steady s (generatorStarting st t) := h.only (Only.generatorStarting st (by decide) Only.refl)
  have ready : Steady s (generatorReady st (generatorStarting st t)) := by
    unfold generatorReady
    split_ifs
    · exact starting
    · exact starting.withdrawRequest.withCsq _
    · exact starting.handRequest
    · exact starting
  exact ready.only (Only.generatorShown (by decide) (Only.generatorDelay st (by decide) Only.refl))

theorem Steady.tieTest (h : Steady s t) (st : Settings) : Steady s (tieTest st t) := by
  unfold Machine.tieTest
  split
  · split
    · exact (h.withCsq _).handRequest
    · exact h
  · split
    · exact h.withdrawRequest.withCsq _
    · exact h
  · exact h

theorem Steady.csqTick (h : Steady s t) (st : Settings) : Steady s (csqTick st t) := by
  unfold Machine.csqTick
  split
  · split
    · exact h.incomerTick st
    · exact h.generatorTick st
    · exact h.tieTest st
    · exact h.only (Only.feederRestore st (by decide) (by decide) Only.refl)
  · exact h

theorem Steady.csqEvent {act : Settings → State → State} (h : Steady s t) (ha : ∀ st, Steady s (act st t)) :
    Steady s (csqEvent act t) :=
  h.inForce fun st => (ha st).csqTick st

theorem Steady.whenRunning {act : Settings → State → State} {st : Settings} (h : Steady s t)
    (ha : Steady s (act st t)) : Steady s (whenRunning act st t) := by
  unfold Machine.whenRunning
  split
  · exact ha
  · exact h

theorem Steady.toReadyOrStarting (h : Steady s t) (st : Settings) : Steady s (toReadyOrStarting st t) := by
  unfold Machine.toReadyOrStarting
  dsimp only
  split <;> exact (h.withCsq _).run true

theorem Steady.enterOnline (h : Steady s t) : Steady s (enterOnline t) :=
  ((h.withCsq _).run true).only (Only.onlineNotice (by decide) Only.refl)

theorem Steady.derive (h : Steady s t) (st : Settings) : Steady s (derive st t) := by
  unfold Machine.derive
  split
  · split_ifs
    · exact h.withCsq _
    · exact h.withCsq _
    · exact h.only (Only.returnOrLost st (by decide) Only.refl)
  · split_ifs
    · exact h.withCsq _
    · exact h.enterOnline
    · exact h.withCsq _
    · exact h.toReadyOrStarting st
    · exact h.withCsq _
    · exact h.withCsq _
  · split_ifs <;> exact h.withCsq _
  · split_ifs <;> exact h.withCsq _

theorem Steady.roleRecord (h : Steady s t) (st : Settings) : Steady s (roleRecord st t) := by
  unfold Machine.roleRecord
  split
  · exact h.only (Only.incomerRecord st (by decide) Only.refl)
  · unfold Machine.generatorRecord
    split <;> split_ifs <;> first | exact h | exact h.withCsq _ | exact h.enterOnline
  · exact h.only (Only.tieRecord (by decide) Only.refl)
  · exact h.only (Only.feederRecord st (by decide) Only.refl)

theorem Steady.takeOutcome (h : Steady s t) (o : SynOutcome) (st : Settings) : Steady s (takeOutcome o st t) := by
  have role (u : State) (hu : Steady s u) : Steady s (roleOutcome o st u) := by
    unfold roleOutcome
    repeat' split
    all_goals first
      | exact hu
      | exact hu.only (Only.overlapOrNormal st (by decide) Only.refl)
      | exact hu.enterOnline
      | exact hu.withCsq _
  unfold Machine.takeOutcome
  split
  · exact h.withCsq _
  · exact (h.withCsq _).whenRunning (role _ (h.withCsq _))

theorem Steady.incomerEvaluated (h : Steady s t) (st : Settings) : Steady s (incomerEvaluated st t) := by
  unfold Machine.incomerEvaluated
  split
  · exact h
  · split
    · exact h.only (Only.returnOrLost st (by decide) Only.refl)
    · exact h.withdrawRequest.only (Only.returnOrLost st (by decide) Only.refl)
    · exact h

theorem Steady.incomerDelayEnds (h : Steady s t) (st : Settings) : Steady s (incomerDelayEnds st t) := by
  unfold Machine.incomerDelayEnds
  split
  · exact h.enterRetransfer st
  · exact h

/-- An event whose act on the running sequence writes the sequencer's record alone. -/
theorem Steady.sequenceTold {act : Settings → State → State} (h : Steady s t)
    (ha : ∀ st u, Only apartFields u (act st u)) : Steady s (Machine.csqEvent (Machine.whenRunning act) t) :=
  h.csqEvent fun st => h.whenRunning (h.only (ha st t))

theorem Steady.tellTrip (h : Steady s t) : Steady s (tellTrip t) := by
  refine h.sequenceTold fun st u => ?_
  split
  · exact Only.feederTo _ (by decide) Only.refl
  · exact Only.refl

theorem Steady.tellLockoutClear (h : Steady s t) : Steady s (tellLockoutClear t) := by
  refine h.sequenceTold fun st u => ?_
  split_ifs
  · exact Only.refl
  · exact Only.feederTo _ (by decide) Only.refl
  · exact Only.feederTo _ (by decide) Only.refl

theorem Steady.tellOpenRequest (h : Steady s t) : Steady s (tellOpenRequest t) := by
  refine h.sequenceTold fun st u => ?_
  split
  · exact Only.feederTo _ (by decide) Only.refl
  · exact Only.refl

theorem Steady.csqGenReady (h : Steady s t) : Steady s (csqGenReady t) := h.csqEvent fun _ => h

theorem Steady.csqResetAlarm (h : Steady s t) : Steady s (csqResetAlarm t) := by
  have cleared := h.withCsq { t.csq with startFailed := false, blocked := false }
  refine cleared.csqEvent fun st => cleared.whenRunning ?_
  dsimp only
  split
  · exact cleared.withCsq _
  · exact cleared.derive st
  · exact cleared

theorem Steady.transferTestStart (h : Steady s t) : Steady s (transferTestStart t) := by
  unfold Machine.transferTestStart
  split
  · exact h
  · exact h.csqEvent fun st => (h.withCsq _).withCsq _

theorem Steady.transferTestEnd (h : Steady s t) : Steady s (transferTestEnd t) := by
  unfold Machine.transferTestEnd
  split
  · exact h.csqEvent fun st => (h.withCsq _).withCsq _
  · exact h

theorem Steady.setInhibit (h : Steady s t) (on : Bool) : Steady s (setInhibit on t) := h.csqEvent fun _ => h.withCsq _

theorem Steady.retransferAtOnce (h : Steady s t) : Steady s (retransferAtOnce t) :=
  h.csqEvent fun st => h.enterRetransfer st

/-! ### The protection elements -/

theorem Steady.pesFinish (h : Steady s t) (station : StationState) (before : Pes) (claim : Option TripCause) :
    Steady s (pesFinish station before claim t) := by
  unfold Machine.pesFinish
  split
  · unfold operate
    split
    · exact h.send _
    · exact (((h.withSli (t.sli.placeNotice_conflict _)).send _).send _).tellTrip
  · exact h.send _
  · exact h

theorem Steady.publishPes (h : Steady s t) (afterCycle : Bool) : Steady s (publishPes afterCycle t) :=
  h.only (Only.publishPes _ (by decide) Only.refl)

theorem Steady.withPes (h : Steady s t) (x : Pes) : Steady s (t.withPes x) :=
  h.only (Only.withPes (by decide) Only.refl x)

theorem Steady.takeExtTrip (h : Steady s t) (station : StationState) (before : Pes) (st : Settings) :
    Steady s (takeExtTrip station before st t) := by
  unfold Machine.takeExtTrip
  split_ifs
  · exact h.pesFinish _ _ _
  · exact (h.withPes _).pesFinish _ _ _
  · exact h.pesFinish _ _ _
  · exact (h.withPes _).pesFinish _ _ _

theorem Steady.extTripChange (h : Steady s t) : Steady s (extTripChange t) := by
  refine h.inForce fun st => ?_
  split
  · exact (h.takeExtTrip _ _ _).publishPes _
  · exact h

theorem Steady.takePassage (h : Steady s t) (a b : StationState) (st : Settings) : Steady s (takePassage a b st t) := by
  unfold Machine.takePassage
  split_ifs
  · exact h.withPes _
  · exact (h.withPes _).takeExtTrip _ _ _
  · exact h.takeExtTrip _ _ _
  · exact h

theorem Steady.takeTransfer (h : Steady s t) (st : Settings) (n : StationNo) (sections : SectionSet) :
    Steady s (takeTransfer st n sections t) := by
  unfold Machine.takeTransfer
  dsimp only
  split_ifs
  · exact (h.withPes _).pesFinish _ _ _
  · exact ((h.withPes _).withPes _).pesFinish _ _ _
  · exact (h.withPes _).pesFinish _ _ _
  · exact h

theorem Steady.transferNotice (h : Steady s t) (n : StationNo) (sections : SectionSet) :
    Steady s (transferNotice n sections t) := by
  refine h.inForce fun st => ?_
  split
  · exact (h.takeTransfer st _ _).publishPes _
  · exact h

theorem Steady.transferReport (h : Steady s t) (n : StationNo) (body : Option ReportBody) :
    Steady s (transferReport n body t) := by
  refine h.inForce fun st => ?_
  split
  · exact h
  split
  · refine Steady.publishPes ?_ _
    split
    · exact h.takeTransfer st _ _
    · exact h.only (Only.removeOrigin _ (by decide) Only.refl)
  · exact h

/-! ### The recorder -/

theorem Steady.takeTrigger (h : Steady s t) (st : Settings) (kind : CauseKind) (detail : Byte) :
    Steady s (takeTrigger st kind detail t) := by
  unfold Machine.takeTrigger crossTrigger
  dsimp only
  split_ifs
  · exact (h.only (Only.withDrc (by decide) Only.refl _)).withSli (Sli.placeEvent_conflict _ _)
  · exact h.only (Only.withDrc (by decide) Only.refl _)
  · exact h.only (Only.withDrc (by decide) Only.refl _)

theorem Steady.levelTriggers (h : Steady s t) (st : Settings) : Steady s (levelTriggers st t) := by
  unfold Machine.levelTriggers
  refine List.foldlRecOn _ _ h fun u hu g _ => ?_
  split
  · exact hu.takeTrigger st _ _
  · exact hu

theorem Steady.peerTrigger (h : Steady s t) (n : StationNo) : Steady s (peerTrigger n t) := by
  refine h.recording fun st => ?_
  split
  · exact h.takeTrigger st _ _
  · exact h

theorem Steady.generalInputChange (h : Steady s t) (g : Fin 4 × Byte) (level : Bool) :
    Steady s (generalInputChange g level t) := by
  refine h.recording fun st => ?_
  have held := h.only (Only.withDrc (by decide) Only.refl { t.drc with gin := t.drc.gin.set g.1 level })
  dsimp only
  split
  · exact held.takeTrigger st _ _
  · exact held

/-! ### The link and the peer table -/

theorem Steady.leaveFlight (h : Steady s t) (f : Flight) : Steady s (leaveFlight f t) := by
  have left : Steady s (t.withSli (t.sli.leave f).land) := h.withSli (t.sli.leave_conflict f)
  unfold Machine.leaveFlight
  dsimp only
  split
  · exact left.only (Only.claimLeft (by decide) Only.refl)
  · exact left

theorem Steady.placeReport (h : Steady s t) : Steady s (placeReport t) := by
  unfold Machine.placeReport
  split
  · exact h
  · exact (h.withSli (t.sli.placeReport_conflict _)).only (Only.withPtb (by decide) Only.refl _)

/-- A source's part is taken into the own record, and a report is placed where the change asks for one (R104). -/
theorem Steady.ownPartTaken (h : Steady s t) (x : Ptb) (b : Bool) :
    Steady s (if b then Machine.placeReport (t.withPtb x) else t.withPtb x) := by
  have taken := h.only (Only.withPtb (by decide) Only.refl x)
  split
  · exact taken.placeReport
  · exact taken

theorem Steady.takeBreaker (h : Steady s t) : Steady s (takeBreaker t) := by
  have taken := h.only (Only.withPtb (by decide) Only.refl { t.ptb with ownBreaker := some t.breakerReport })
  have marked := taken.only (Only.addMark (by decide) Only.refl)
  unfold Machine.takeBreaker
  dsimp only
  refine Steady.only ?_ (Only.publishView (by decide) Only.refl)
  split_ifs
  · exact marked.placeReport
  · exact taken.placeReport
  · exact marked
  · exact taken

theorem Steady.reportHeard (h : Steady s t) (sender : StationNo) (r : Report) : Steady s (reportHeard sender r t) := by
  unfold Machine.reportHeard
  split
  · exact h
  · exact (h.only (Only.takeReport _ _ (by decide) (by decide) Only.refl)).transferReport _ _

theorem Steady.inputEvent (h : Steady s t) (i : Input) (level : Bool) : Steady s (inputEvent i level t) := by
  refine h.atWork fun st => ?_
  split
  · exact h.withSli (Sli.placeEvent_conflict _ _)
  · exact h

theorem Steady.beginService (h : Steady s t) : Steady s (beginService t) := by
  have recorded : Steady s (addMark (takeOwnRecord ((t.withDrc { t.drc with gin := t.generalLevels }).withLsc
      { t.lsc with shareTimer := t.after 20 }))) :=
    h.only (Only.addMark (by decide) (Only.takeOwnRecord (by decide)
      (Only.withLsc (by decide) (Only.withDrc (by decide) Only.refl _) _)))
  exact recorded.placeReport.only (Only.publishView (by decide) Only.refl)

/-- The end of a command leaves what the breaker rests on. -/
theorem Steady.done (h : Steady s t) (ht : Machine.done u t = .next v) : Steady s v := by
  obtain rfl : publish u (settle t) = v := by simpa [Machine.done] using ht
  have taken : (settle t).sli.conflict = t.sli.conflict := by
    rw [settle_sli]
    split <;> rfl
  exact h.trans ⟨by simp, by simp, by simp, by simp, by simp, by simpa using taken⟩

end Sys2Proof.Machine
end

section
/-! PROOFS. What each operation of the breaker controller and of the coil drivers writes (R51 to R55, R69 to R75): the two
blocks' records in closed form, so that the proofs about the commands read them off. -/

namespace Sys2Proof.Machine

/-! ### The coils -/

/-- A coil output de-energized: a pulse that ran at its setting from start to end clears DRIVE_REDUCED (R69, R71). -/
def Cds.stopped (c : Cds) (coil : Coil) : Cds :=
  if c.out coil then { c.setOut coil false with reduced := c.lowered && c.reduced } else c

section stopped
variable (c : Cds) (coil : Coil)

@[simp] theorem Cds.stopped_out : (c.stopped coil).out coil = false := by
  unfold Cds.stopped
  split
  · cases coil <;> rfl
  · simpa using ‹¬ c.out coil = true›

@[simp] theorem Cds.stopped_run : (c.stopped coil).run = c.run := by
  unfold Cds.stopped
  split <;> cases coil <;> rfl

@[simp] theorem Cds.stopped_steps : (c.stopped coil).steps = c.steps := by
  unfold Cds.stopped
  split <;> cases coil <;> rfl

@[simp] theorem Cds.stopped_close_closeOut : (c.stopped .close).closeOut = false := c.stopped_out .close

@[simp] theorem Cds.stopped_trip_tripOut : (c.stopped .trip).tripOut = false := c.stopped_out .trip

@[simp] theorem Cds.stopped_close_tripOut : (c.stopped .close).tripOut = c.tripOut := by
  unfold Cds.stopped
  split <;> rfl

@[simp] theorem Cds.stopped_trip_closeOut : (c.stopped .trip).closeOut = c.closeOut := by
  unfold Cds.stopped
  split <;> rfl

end stopped

section coils
variable (s : State) (coil : Coil)

theorem deenergize_eq : deenergize coil s = s.withCds (s.cds.stopped coil) := by
  have kept : (if (s.cds.setOut coil false).lowered then (s.cds.setOut coil false).reduced else false) =
      (s.cds.lowered && s.cds.reduced) := by
    cases coil <;> cases h : s.cds.lowered <;> simp [Cds.setOut, h]
  unfold deenergize Cds.stopped
  dsimp only
  rw [kept]
  split <;> rfl

/-- An abort writes the coil drivers alone. -/
theorem abortRun_eq : abortRun s = s.withCds (abortRun s).cds := by
  unfold abortRun
  split <;> rfl

@[simp] theorem abortRun_run : (abortRun s).cds.run = none := by
  unfold abortRun
  split
  · assumption
  · rfl

@[simp] theorem abortRun_tripOut : (abortRun s).cds.tripOut = s.cds.tripOut := by
  unfold abortRun
  split <;> rfl

@[simp] theorem abortRun_closeOut : (abortRun s).cds.closeOut = s.cds.closeOut := by
  unfold abortRun
  split <;> rfl

@[simp] theorem abortRun_bkc : (abortRun s).bkc = s.bkc := by rw [abortRun_eq]; rfl

@[simp] theorem abortRun_localTime : (abortRun s).localTime = s.localTime := by rw [abortRun_eq]; rfl

/-- A coil directed to be energized writes the coil drivers alone. -/
theorem energize_eq : energize coil s = s.withCds (energize coil s).cds := by
  unfold energize
  dsimp only
  split
  · exact abortRun_eq s
  · rw [abortRun_eq s]
    rfl

@[simp] theorem Cds.warm_run (c : Cds) : c.warm.run = c.run := by unfold Cds.warm; split <;> rfl
@[simp] theorem Cds.warm_steps (c : Cds) : c.warm.steps = c.steps := by unfold Cds.warm; split <;> rfl
@[simp] theorem Cds.warm_tripOut (c : Cds) : c.warm.tripOut = c.tripOut := by unfold Cds.warm; split <;> rfl
@[simp] theorem Cds.warm_closeOut (c : Cds) : c.warm.closeOut = c.closeOut := by unfold Cds.warm; split <;> rfl

@[simp] theorem energize_run : (energize coil s).cds.run = none := by
  unfold energize
  dsimp only
  split
  · exact abortRun_run s
  · cases coil <;> split <;> simp [Cds.setOut]

@[simp] theorem energize_steps : (energize coil s).cds.steps = (abortRun s).cds.steps := by
  unfold energize
  dsimp only
  split
  · rfl
  · cases coil <;> split <;> simp [Cds.setOut]

@[simp] theorem energize_trip_tripOut : (energize .trip s).cds.tripOut = true := by
  unfold energize
  dsimp only
  split
  · assumption
  · split <;> simp [Cds.setOut]

@[simp] theorem energize_trip_closeOut : (energize .trip s).cds.closeOut = s.cds.closeOut := by
  unfold energize
  dsimp only
  split
  · exact abortRun_closeOut s
  · split <;> simp [Cds.setOut]

@[simp] theorem energize_close_closeOut : (energize .close s).cds.closeOut = true := by
  unfold energize
  dsimp only
  split
  · assumption
  · split <;> simp [Cds.setOut]

@[simp] theorem energize_close_tripOut : (energize .close s).cds.tripOut = s.cds.tripOut := by
  unfold energize
  dsimp only
  split
  · exact abortRun_tripOut s
  · split <;> simp [Cds.setOut]

@[simp] theorem energize_bkc : (energize coil s).bkc = s.bkc := by rw [energize_eq]; rfl

@[simp] theorem energize_localTime : (energize coil s).localTime = s.localTime := by rw [energize_eq]; rfl

/-! ### The breaker controller -/

theorem closeOff_eq :
    closeOff s = (s.withCds (s.cds.stopped .close)).withBkc { s.bkc with closePulse := none } := by
  unfold closeOff
  rw [deenergize_eq]

theorem tripOff_eq : tripOff s = (s.withCds (s.cds.stopped .trip)).withBkc { s.bkc with tripPulse := none } := by
  unfold tripOff
  rw [deenergize_eq]

/-- A passage into CLOSING or CLOSED leaves the close coil as it stands. -/
theorem passTo_of_closing {x : BreakerState} (h : x = .closing ∨ x = .closed) :
    passTo x s = s.withBkc { s.bkc with state := x, discrepancyTimer := none } := by
  simp [passTo, h]

/-- A passage into another state de-energizes the close coil (R51). -/
theorem passTo_of_not_closing {x : BreakerState} (h : ¬ (x = .closing ∨ x = .closed)) :
    passTo x s = (s.withCds (s.cds.stopped .close)).withBkc
      { s.bkc with state := x, discrepancyTimer := none, closePulse := none } := by
  simp only [passTo, h, if_false, closeOff_eq]
  rfl

/-- Lockout set: the close coil is idle, and a passage from clear to set pulses LOCKOUT_SET (R53, R62). -/
theorem setLockout_eq :
    setLockout s = (s.withCds (s.cds.stopped .close)).withBkc { s.bkc with
      closePulse := none, lockout := true,
      lockoutPulse := if s.bkc.lockout then s.bkc.lockoutPulse
        else some { onSet := true, due := s.localTime + 50 } } := by
  unfold setLockout
  rw [closeOff_eq]
  cases h : s.bkc.lockout with
  | true => simp [h]
  | false =>
    simp only [State.withBkc_bkc, h, Bool.false_eq_true, if_false]
    rfl

/-- Breaker failure armed: a running timer runs on (R58). -/
theorem armFailure_eq (st : Settings) :
    armFailure st s = s.withBkc { s.bkc with
      bfTimer := if s.bkc.bfTimer.isSome then s.bkc.bfTimer
        else some { start := s.localTime, due := s.localTime + BitVec.ofNat 32 st.brk.bfMs } } := by
  unfold armFailure
  split <;> rfl

/-- The trip pulse: the close coil idle, the trip coil energized for 200 ms. -/
theorem tripPulse_eq (purpose : Purpose) :
    tripPulse purpose s = (s.withCds (tripPulse purpose s).cds).withBkc { s.bkc with
      closePulse := none, tripPulse := some (s.localTime + 200), lastPurpose := some purpose } := by
  unfold tripPulse
  dsimp only
  rw [energize_eq, closeOff_eq]
  rfl

@[simp] theorem tripPulse_tripOut (purpose : Purpose) : (tripPulse purpose s).cds.tripOut = true := by
  simp [tripPulse]

@[simp] theorem tripPulse_closeOut (purpose : Purpose) : (tripPulse purpose s).cds.closeOut = false := by
  simp [tripPulse, closeOff_eq]

@[simp] theorem tripPulse_run (purpose : Purpose) : (tripPulse purpose s).cds.run = none := by simp [tripPulse]

/-- The trip is over: both coils idle, the stuck timer stopped, the state OPEN (R55, R56). -/
theorem tripDone_eq :
    tripDone s = (s.withCds ((s.cds.stopped .trip).stopped .close)).withBkc { s.bkc with
      state := .opened, tripPulse := none, closePulse := none, discrepancyTimer := none, stuckTimer := none } := by
  unfold tripDone
  dsimp only
  rw [passTo_of_not_closing _ (by decide), tripOff_eq]
  rfl

/-- Both coils idle, and no timer of a movement runs. -/
theorem bothIdle_eq :
    bothIdle s = (s.withCds ((s.cds.stopped .close).stopped .trip)).withBkc { s.bkc with
      tripPulse := none, closePulse := none, closingTimer := none, stuckTimer := none, discrepancyTimer := none } := by
  unfold bothIdle
  dsimp only
  rw [tripOff_eq, closeOff_eq]
  rfl

end coils

/-! ### The table of R54 -/

section drive
variable {s : State} {purpose : Purpose}

/-- A breaker that is closed, closing or discrepant is driven into OPENING. -/
theorem driveOpen_of_closed (h : s.bkc.state ∈ ([.closed, .closing, .discrepant] : List BreakerState)) :
    driveOpen purpose s = (s.withCds ((tripPulse purpose s).cds.stopped .close)).withBkc { s.bkc with
      state := .opening, closePulse := none, tripPulse := some (s.localTime + 200), lastPurpose := some purpose,
      discrepancyTimer := none, stuckTimer := some (s.localTime + 300), closingTimer := none } := by
  have drives : driveOpen purpose s = (passTo .opening (tripPulse purpose s)).withBkc
      { (passTo .opening (tripPulse purpose s)).bkc with
        stuckTimer := (passTo .opening (tripPulse purpose s)).after 300, closingTimer := none } := by
    unfold driveOpen
    simp only [List.mem_cons, List.not_mem_nil, or_false] at h
    obtain h | h | h := h <;> rw [h]
  rw [drives, passTo_of_not_closing _ (by decide), tripPulse_eq]
  rfl

/-- A stuck breaker gets another trip pulse once its pulse has ended. -/
theorem driveOpen_of_stuck (h : s.bkc.state = .stuckClosed) (idle : s.bkc.tripPulse = none) :
    driveOpen purpose s = tripPulse purpose s := by
  simp [driveOpen, h, idle]

/-- A breaker that is open, opening or out, or stuck while its pulse runs, is left. -/
theorem driveOpen_of_open (h : s.bkc.state ∈ ([.opening, .opened, .withdrawn] : List BreakerState) ∨
    (s.bkc.state = .stuckClosed ∧ s.bkc.tripPulse.isSome)) : driveOpen purpose s = s := by
  simp only [List.mem_cons, List.not_mem_nil, or_false] at h
  unfold driveOpen
  obtain (h | h | h) | ⟨h, running⟩ := h
  · simp [h]
  · simp [h]
  · simp [h]
  · simp [h, running]

/-- The three rows of the table. -/
theorem driveOpen_rows (b : Bkc) :
    b.state ∈ ([.closed, .closing, .discrepant] : List BreakerState) ∨
      (b.state = .stuckClosed ∧ b.tripPulse = none) ∨
      (b.state ∈ ([.opening, .opened, .withdrawn] : List BreakerState) ∨
        (b.state = .stuckClosed ∧ b.tripPulse.isSome)) := by
  cases b.state <;> cases b.tripPulse <;> simp

end drive

end Sys2Proof.Machine
end

section
/-! PROOFS. The coil law (R53): its parts, and what each operation that writes the breaker record, the coils, the station
state, the settings or the conflict of the link does to it. -/

namespace Sys2Proof.Machine

/-! ### The parts of the law -/

/-- What carries the law: settings stand while the station is at work, and a station in an address conflict has a link in
conflict and another state to return to (R97, R199). -/
def ServiceKept (s : State) : Prop :=
  (s.ssc.station.atWork = true → s.settings.isSome) ∧ (s.ssc.station = .addressConflict → s.sli.conflict.isSome) ∧
    (s.ssc.station = .addressConflict ↔ s.ssc.returnState.isSome) ∧ s.ssc.returnState ≠ some .addressConflict

/-- The station states in which the close coil may be energized: AUTO, MANUAL, and a conflict entered from one of them. -/
def Ssc.closes (c : Ssc) : Prop :=
  c.station = .auto ∨ c.station = .manual ∨
    (c.station = .addressConflict ∧ (c.returnState = some .auto ∨ c.returnState = some .manual))

/-- R53 itself. -/
def CloseLawful (s : State) : Prop :=
  s.cds.closeOut = true → s.cds.tripOut = false ∧ s.bkc.lockout = false ∧
    (s.bkc.state = .closing ∨ s.bkc.state = .closed) ∧ s.ssc.closes

/-- A run in progress stands in one of its steps, and a failed step has a faulty finding (R68, R73). -/
def Cds.Diagnosed (c : Cds) : Prop :=
  (∀ r, c.run = some r → 1 ≤ r.step ∧ r.step ≤ 4) ∧
    ∀ (i : Fin 4) (f : CircuitResult), c.steps[i] = .fail f → f.faulty = true

theorem coilsKept_iff (s : State) : CoilsKept s ↔ CloseLawful s ∧ ServiceKept s ∧ s.cds.Diagnosed :=
  ⟨fun ⟨law, work, conflict, ret, other, diagnosed⟩ => ⟨law, ⟨work, conflict, ret, other⟩, diagnosed⟩,
    fun ⟨law, ⟨work, conflict, ret, other⟩, diagnosed⟩ => ⟨law, work, conflict, ret, other, diagnosed⟩⟩

/-- The close coil is idle: the law then asks nothing of the breaker record. -/
structure CloseIdle (s : State) : Prop where
  off : s.cds.closeOut = false
  service : ServiceKept s
  diagnosed : s.cds.Diagnosed

variable {s t : State}

theorem CloseIdle.kept (h : CloseIdle s) : CoilsKept s :=
  (coilsKept_iff s).2 ⟨fun on => absurd (h.off.symm.trans on) nofun, h.service, h.diagnosed⟩

theorem CoilsKept.lawful (h : CoilsKept s) : CloseLawful s := ((coilsKept_iff s).1 h).1

theorem CoilsKept.service (h : CoilsKept s) : ServiceKept s := ((coilsKept_iff s).1 h).2.1

theorem CoilsKept.diagnosed (h : CoilsKept s) : s.cds.Diagnosed := ((coilsKept_iff s).1 h).2.2

/-- Where one of the law's conditions fails, the close coil is idle. -/
theorem CoilsKept.idle (h : CoilsKept s)
    (out : ¬ (s.bkc.lockout = false ∧ (s.bkc.state = .closing ∨ s.bkc.state = .closed) ∧ s.ssc.closes)) :
    CloseIdle s :=
  ⟨Bool.eq_false_iff.2 fun on => out (h.lawful on).2, h.service, h.diagnosed⟩

theorem CoilsKept.idle_of_state (h : CoilsKept s) (state : ¬ (s.bkc.state = .closing ∨ s.bkc.state = .closed)) :
    CloseIdle s :=
  h.idle fun ⟨_, closing, _⟩ => state closing

theorem CoilsKept.idle_of_station (h : CoilsKept s) (station : ¬ s.ssc.closes) : CloseIdle s :=
  h.idle fun ⟨_, _, closes⟩ => station closes

/-! ### What the law does not read -/

theorem ServiceKept.steady (h : ServiceKept s) (k : Steady s t) : ServiceKept t := by
  unfold ServiceKept
  rwa [k.settings, k.station, k.returnState, k.conflict]

theorem CoilsKept.steady (h : CoilsKept s) (k : Steady s t) : CoilsKept t := by
  refine (coilsKept_iff t).2 ⟨?_, h.service.steady k, k.cds ▸ h.diagnosed⟩
  unfold CloseLawful Ssc.closes
  rw [k.cds, k.bkc, k.station, k.returnState]
  exact h.lawful

theorem CloseIdle.steady (h : CloseIdle s) (k : Steady s t) : CloseIdle t :=
  ⟨k.cds ▸ h.off, h.service.steady k, k.cds ▸ h.diagnosed⟩

theorem CoilsKept.take (h : CoilsKept s) (d : Delivery) : CoilsKept (s.take d) := h.steady (Steady.refl.take d)

/-- A write of the breaker record that leaves its state and lockout. -/
theorem CoilsKept.withBkc (h : CoilsKept s) {x : Bkc} (state : x.state = s.bkc.state)
    (lockout : x.lockout = s.bkc.lockout) : CoilsKept (s.withBkc x) := by
  refine (coilsKept_iff _).2 ⟨?_, h.service, h.diagnosed⟩
  unfold CloseLawful
  simp only [State.withBkc_bkc, state, lockout]
  exact h.lawful

/-- A write of the coil drivers that leaves the close coil and energizes no trip coil. -/
theorem CoilsKept.withCds (h : CoilsKept s) {x : Cds} (close : x.closeOut = s.cds.closeOut)
    (trip : s.cds.tripOut = false → x.tripOut = false) (diagnosed : x.Diagnosed) : CoilsKept (s.withCds x) := by
  refine (coilsKept_iff _).2 ⟨fun on => ?_, h.service, diagnosed⟩
  obtain ⟨idle, rest⟩ := h.lawful (close ▸ on)
  exact ⟨trip idle, rest⟩

theorem CloseIdle.withBkc (h : CloseIdle s) (x : Bkc) : CloseIdle (s.withBkc x) := ⟨h.off, h.service, h.diagnosed⟩

theorem CloseIdle.withCds (h : CloseIdle s) {x : Cds} (off : x.closeOut = false) (diagnosed : x.Diagnosed) :
    CloseIdle (s.withCds x) :=
  ⟨off, h.service, diagnosed⟩

/-- A write of both records that leaves the close coil idle. -/
theorem CoilsKept.withIdle (h : CoilsKept s) {c : Cds} (off : c.closeOut = false) (diagnosed : c.Diagnosed) (b : Bkc) :
    CloseIdle ((s.withCds c).withBkc b) :=
  ⟨off, h.service, diagnosed⟩

theorem CoilsKept.withSsc (h : CoilsKept s) {x : Ssc} (station : x.station = s.ssc.station)
    (ret : x.returnState = s.ssc.returnState) : CoilsKept (s.withSsc x) :=
  h.steady (Steady.refl.withSsc station ret)

/-! ### Diagnostic runs -/

theorem Cds.Diagnosed.stopped {c : Cds} (h : c.Diagnosed) (coil : Coil) : (c.stopped coil).Diagnosed := by
  simpa [Cds.Diagnosed] using h

theorem Cds.Diagnosed.warm {c : Cds} (h : c.Diagnosed) : c.warm.Diagnosed := by simpa [Cds.Diagnosed] using h

/-- An abort leaves no run, and of the results those of the steps before (R75). -/
theorem Cds.Diagnosed.abortRun (h : s.cds.Diagnosed) : (abortRun s).cds.Diagnosed := by
  unfold Machine.abortRun
  split
  · exact h
  · refine ⟨nofun, fun i f failed => h.2 i f ?_⟩
    simp only [State.withCds_cds, keptSteps, Fin.getElem_fin, Vector.getElem_ofFn] at failed
    split at failed
    · exact failed
    · cases failed

theorem Cds.Diagnosed.energize (h : s.cds.Diagnosed) (coil : Coil) : (energize coil s).cds.Diagnosed := by
  refine ⟨by simp, fun i f failed => h.abortRun.2 i f ?_⟩
  simpa using failed

/-- The findings of the four tests are faults (R73). -/
theorem stepResult_faulty {b : BreakerSettings} {coil : Coil} {step : Nat} {r : Reading} {f : CircuitResult}
    (h : stepResult b coil step r = .fail f) : f.faulty = true := by
  unfold stepResult at h
  repeat' split at h
  all_goals first | (cases h; rfl) | cases h

/-- A step that ends leaves results whose findings are faults. -/
theorem Cds.Diagnosed.steps_set {c : Cds} (h : c.Diagnosed) {k : Nat} {x : StepResult}
    (hx : ∀ f, x = .fail f → f.faulty = true) (i : Fin 4) (f : CircuitResult)
    (failed : (c.steps.setIfInBounds k x)[i] = .fail f) : f.faulty = true := by
  simp only [Fin.getElem_fin, Vector.getElem_setIfInBounds] at failed
  split at failed
  · exact hx f failed
  · exact h.2 i f failed

theorem CoilsKept.abortRun (h : CoilsKept s) : CoilsKept (abortRun s) := by
  rw [abortRun_eq]
  exact h.withCds (abortRun_closeOut s) (abortRun_tripOut s).trans h.diagnosed.abortRun

theorem CoilsKept.endStep (h : CoilsKept s) (st : Settings) (r : DiagRun) (reading : Reading) : CoilsKept (endStep st r reading s) := by
  have faulty := h.diagnosed.steps_set (k := r.step - 1) (x := stepResult st.brk r.circuit r.step reading)
    fun f => stepResult_faulty
  unfold Machine.endStep
  dsimp only
  split
  · unfold completeRun
    dsimp only
    split
    · exact h.withCds rfl id ⟨nofun, faulty⟩
    · exact (h.withCds (x := { s.cds with
        run := none, steps := _, lastRun := _, closeResult := _ }) rfl id ⟨nofun, faulty⟩).withBkc rfl rfl
  · next goesOn =>
    have early : r.step < 4 := by
      simp only [runEnds, Bool.or_eq_true, decide_eq_true_eq, not_or] at goesOn
      omega
    split
    · exact h
    · refine h.withCds rfl id ⟨fun r' hr' => ?_, faulty⟩
      obtain rfl := Option.some.inj hr'
      dsimp only
      omega

theorem Cds.diagnosed_beginning {c : Cds} {r : DiagRun} (h : c.run = some r) (first : r.step = 1)
    (steps : c.steps = Vector.replicate 4 .notRun) : c.Diagnosed := by
  refine ⟨fun r' hr' => ?_, fun i f failed => ?_⟩
  · obtain rfl : r = r' := Option.some.inj (h.symm.trans hr')
    omega
  · rw [steps] at failed
    simp at failed

theorem CoilsKept.beginRun (h : CoilsKept s) (coil : Coil) : CoilsKept (beginRun coil s) := by
  unfold Machine.beginRun
  split
  · exact h
  · exact h.withCds rfl id (Cds.diagnosed_beginning rfl rfl rfl)

theorem CoilsKept.timerStart (h : CoilsKept s) : CoilsKept (timerStart s) := by
  unfold Machine.timerStart
  split
  · exact h
  · split
    · exact h.withCds rfl id h.diagnosed
    · split
      · exact h.withCds rfl id h.diagnosed
      · exact h.beginRun _

/-! ### The breaker controller -/

theorem CoilsKept.closeOff (h : CoilsKept s) : CloseIdle (closeOff s) := by
  rw [closeOff_eq]
  exact h.withIdle (by simp) (h.diagnosed.stopped _) _

theorem CoilsKept.tripOff (h : CoilsKept s) : CoilsKept (tripOff s) := by
  rw [tripOff_eq]
  exact (h.withCds (by simp) (by simp) (h.diagnosed.stopped _)).withBkc rfl rfl

theorem CloseIdle.tripOff (h : CloseIdle s) : CloseIdle (tripOff s) := by
  rw [tripOff_eq]
  exact (h.withCds (by simpa using h.off) (h.diagnosed.stopped _)).withBkc _

/-- A passage of a breaker whose close coil is idle. -/
theorem CloseIdle.passTo (h : CloseIdle s) (x : BreakerState) : CloseIdle (passTo x s) := by
  by_cases closing : x = .closing ∨ x = .closed
  · rw [passTo_of_closing s closing]
    exact h.withBkc _
  · rw [passTo_of_not_closing s closing]
    exact (h.withCds (by simp) (h.diagnosed.stopped _)).withBkc _

/-- A passage out of CLOSING and CLOSED de-energizes the close coil (R51). -/
theorem CoilsKept.passTo (h : CoilsKept s) {x : BreakerState} (out : ¬ (x = .closing ∨ x = .closed)) :
    CloseIdle (passTo x s) := by
  rw [passTo_of_not_closing s out]
  exact h.withIdle (by simp) (h.diagnosed.stopped _) _

theorem CoilsKept.setLockout (h : CoilsKept s) : CloseIdle (setLockout s) := by
  rw [setLockout_eq]
  exact h.withIdle (by simp) (h.diagnosed.stopped _) _

theorem CoilsKept.tripPulse (h : CoilsKept s) (purpose : Purpose) : CloseIdle (tripPulse purpose s) := by
  unfold Machine.tripPulse
  dsimp only
  have off : CloseIdle (Machine.closeOff s) := h.closeOff
  refine CloseIdle.withBkc ?_ _
  rw [energize_eq]
  exact off.withCds (by simpa using off.off) (off.diagnosed.energize _)

theorem CoilsKept.driveOpen (h : CoilsKept s) (purpose : Purpose) : CoilsKept (driveOpen purpose s) := by
  obtain closed | ⟨stuck, idle⟩ | rest := driveOpen_rows s.bkc
  · have off : CloseIdle (Machine.tripPulse purpose s) := h.tripPulse purpose
    rw [driveOpen_of_closed closed]
    exact (h.withIdle (by simp) (off.diagnosed.stopped _) _).kept
  · rw [driveOpen_of_stuck stuck idle]
    exact (h.tripPulse purpose).kept
  · rwa [driveOpen_of_open rest]

theorem CoilsKept.takeOpening (h : CoilsKept s) (purpose : Purpose) : CoilsKept (takeOpening purpose s) :=
  (h.abortRun.driveOpen purpose).steady Steady.refl.synCancel

theorem CoilsKept.takeTrip (h : CoilsKept s) (cause : TripCause) (st : Settings) : CoilsKept (takeTrip cause st s) := by
  have told := (h.abortRun.driveOpen .protection).steady (Steady.refl.synTrip (s.bkc.state == .closing))
  unfold Machine.takeTrip
  dsimp only
  rw [armFailure_eq]
  exact ((told.setLockout.withBkc _).withBkc _).kept

theorem CoilsKept.inForce {act : Settings → State → State} (h : CoilsKept s)
    (ha : ∀ st, s.settings = some st → CoilsKept (act st s)) : CoilsKept (s.inForce act) := by
  unfold State.inForce
  split
  · exact h
  · exact ha _ ‹_›

theorem CoilsKept.atWork {act : Settings → State → State} (h : CoilsKept s) (ha : ∀ st, CoilsKept (act st s)) :
    CoilsKept (s.atWork act) := by
  refine h.inForce fun st _ => ?_
  split
  · exact ha st
  · exact h

theorem CoilsKept.expire {tm : Timer} {act : State → State} (h : CoilsKept s)
    (ha : ∀ u, CoilsKept u → CoilsKept (act u)) : CoilsKept (expire tm s act) := by
  cases tm with
  | none => exact h
  | some due => exact ha _ (h.steady (Steady.refl.reach due))

/-- The checks that a taken close claim has passed (R49). -/
theorem generalCheck_none_iff :
    s.generalCheck = none ↔ s.bkc.state = .opened ∧ (s.ssc.station = .auto ∨ s.ssc.station = .manual) ∧
      s.bkc.lockout = false ∧ s.input .springOk = true ∧ s.bkc.closeCircuitFault = false ∧ s.cds.tripOut = false := by
  unfold State.generalCheck
  split_ifs <;> simp_all
  grind

theorem generalCheck_of_taken {st : Settings} {purpose : ClosePurpose} (h : s.closeAnswer st purpose = .taken) :
    s.generalCheck = none := by
  unfold State.closeAnswer at h
  split at h
  · next why refused =>
    subst h
    unfold State.generalCheck at refused
    split_ifs at refused <;> cases refused
  · assumption

/-- A close taken energizes the close coil with every condition of the law checked (R49, R51). -/
theorem CoilsKept.takeClose (h : CoilsKept s) (purpose : ClosePurpose) {st : Settings}
    (taken : s.closeAnswer st purpose = .taken) : CoilsKept (takeClose purpose st s) := by
  obtain ⟨-, station, lockout, -, -, trip⟩ := generalCheck_none_iff.1 (generalCheck_of_taken taken)
  unfold Machine.takeClose
  dsimp only
  rw [passTo_of_closing _ (.inl rfl), energize_eq]
  refine (coilsKept_iff _).2 ⟨fun _ => ⟨?_, lockout, .inl rfl, ?_⟩, h.service, h.diagnosed.energize _⟩
  · simpa using trip
  · exact station.elim .inl fun manual => .inr (.inl manual)

theorem CoilsKept.operatorClose (h : CoilsKept s) (st : Settings) : CoilsKept (operatorClose st s).1 := by
  unfold Machine.operatorClose
  split
  · dsimp only
    split
    · next taken => exact h.takeClose .feeder taken
    · exact h
  · dsimp only
    split
    · exact h.steady (Steady.refl.takeRequest _ _)
    · exact h

/-! ### Contacts, lockout and breaker failure -/

theorem CoilsKept.followContacts (h : CloseIdle s) (x : BreakerState) : CloseIdle (followContacts x s) :=
  (h.passTo x).withBkc _

theorem CoilsKept.tripDone (h : CoilsKept s) : CloseIdle (tripDone s) := by
  rw [tripDone_eq]
  exact h.withIdle (by simp) ((h.diagnosed.stopped _).stopped _) _

theorem CoilsKept.bothIdle (h : CoilsKept s) : CloseIdle (bothIdle s) := by
  rw [bothIdle_eq]
  exact h.withIdle (by simp) ((h.diagnosed.stopped _).stopped _) _

theorem CoilsKept.startDiscrepancy (h : CoilsKept s) : CoilsKept (startDiscrepancy s) := by
  unfold Machine.startDiscrepancy
  split
  · exact h
  · exact h.withBkc rfl rfl

theorem CoilsKept.contactChange (h : CoilsKept s) : CoilsKept (contactChange s) := by
  refine h.atWork fun st => ?_
  dsimp only
  split
  · next opened =>
    have idle := h.idle_of_state (by simp [opened])
    unfold compareContacts
    split_ifs
    · exact h.withBkc rfl rfl
    · exact ((idle.passTo _).withBkc _).kept
    · exact h
    · exact h.startDiscrepancy
  · unfold compareContacts
    split_ifs
    · exact h.withBkc rfl rfl
    · exact ((h.passTo (by decide)).withBkc _).kept
    · exact h
    · exact h.startDiscrepancy
  · next discrepant =>
    have idle := h.idle_of_state (by simp [discrepant])
    split
    · exact ((idle.passTo _).withBkc _).kept
    · exact ((idle.passTo _).withBkc _).kept
    · exact h
  · next closing =>
    split
    · rw [passTo_of_closing _ (.inr rfl)]
      refine (coilsKept_iff _).2 ⟨fun on => ?_, h.service, h.diagnosed⟩
      obtain ⟨trip, lockout, -, station⟩ := h.lawful on
      exact ⟨trip, lockout, .inr rfl, station⟩
    · exact h
  · split
    · exact h.tripDone.kept
    · exact h
  · split
    · exact h.tripDone.kept
    · exact h
  · exact h

theorem CoilsKept.deriveBreaker (h : CoilsKept s) : CloseIdle (deriveBreaker s) := h.bothIdle.withBkc _

theorem CoilsKept.rackChange (h : CoilsKept s) : CoilsKept (rackChange s) := by
  refine h.atWork fun st => ?_
  split
  · exact h.deriveBreaker.kept
  · exact (h.bothIdle.withBkc _).kept

theorem CoilsKept.failBreaker (h : CoilsKept s) (st : Settings) : CoilsKept (failBreaker st s) := by
  have placed : CoilsKept (s.withSli (s.sli.placeBf st.station.sections)) :=
    h.steady (Steady.refl.withSli (s.sli.placeBf_conflict _))
  exact (placed.setLockout.withBkc _).kept

theorem CoilsKept.lockoutClear (h : CoilsKept s) (st : Settings) : CoilsKept (lockoutClear st s) := by
  have dropped : CoilsKept (dropLockout s) := by
    unfold dropLockout
    split
    · next set => exact ((h.idle (by simp [set])).withBkc _).kept
    · exact h
  unfold Machine.lockoutClear
  split
  · exact h
  · exact dropped.steady Steady.refl.tellLockoutClear

theorem CoilsKept.takeInput (h : CoilsKept s) (i : Input) (level : Bool) : CoilsKept (takeInput i level s) := by
  cases i
  case bkrClosed | bkrOpen => exact h.contactChange
  case rackedIn => exact h.rackChange
  case localOpen =>
    refine h.atWork fun st => ?_
    split
    · exact h.takeOpening _
    · exact h
  case localClose =>
    refine h.atWork fun st => ?_
    split
    · exact h.operatorClose st
    · exact h
  case lockoutReset =>
    refine h.atWork fun st => ?_
    split
    · exact h.lockoutClear st
    · exact h
  case extTrip => exact h.steady Steady.refl.extTripChange
  case genReady => exact h.steady Steady.refl.csqGenReady
  case gin1 | gin2 | gin3 | gin4 => exact h.steady (Steady.refl.generalInputChange _ _)
  all_goals exact h

theorem CoilsKept.debounced (h : CoilsKept s) (i : Input) : CoilsKept (debounced i s) := by
  have timed : CoilsKept (s.withSsc (s.ssc.setTimer i none)) := h.withSsc rfl rfl
  unfold Machine.debounced
  dsimp only
  split
  · exact timed
  · refine CoilsKept.takeInput (CoilsKept.steady ?_ (Steady.refl.inputEvent _ _)) _ _
    exact timed.withSsc rfl rfl

/-! ### Service states and the conflict of the link -/

/-- The end of START: no coil is energized, and a settings fault or PRESENCE with its settings follows (R195). -/
theorem CoilsKept.enterSettingsFault (h : CoilsKept s) (start : s.ssc.station = .start) :
    CoilsKept (enterSettingsFault s) := by
  have idle := h.idle_of_station (by simp [Ssc.closes, start])
  obtain ⟨-, -, ret, -⟩ := h.service
  have none_kept : s.ssc.returnState = none := by simpa [start] using ret
  have fault : CloseIdle (s.withSsc { s.ssc with station := .settingsFault, reading := false, readRetry := none }) :=
    ⟨idle.off, ⟨nofun, nofun, by simp [none_kept], by simp [none_kept]⟩, idle.diagnosed⟩
  exact (fault.steady Steady.refl.beginService).kept

theorem CoilsKept.failAttempt (h : CoilsKept s) (start : s.ssc.station = .start) : CoilsKept (failAttempt s) := by
  unfold Machine.failAttempt
  split
  · exact h.enterSettingsFault start
  · exact h.withSsc rfl rfl

theorem CoilsKept.enterPresence (h : CoilsKept s) (start : s.ssc.station = .start) (st : Settings) (clamped : Bool) :
    CoilsKept (enterPresence st clamped s) := by
  have idle := h.idle_of_station (by simp [Ssc.closes, start])
  obtain ⟨-, -, ret, -⟩ := h.service
  have none_kept : s.ssc.returnState = none := by simpa [start] using ret
  have begun : CloseIdle ((s.withSettings (some st)).withSsc { s.ssc with
      station := .presence, clamped := clamped, reading := false, readRetry := none, presenceTimer := s.after 100,
      runRequest := st.station.role == .generator && s.input .genReady }) :=
    ⟨idle.off, ⟨fun _ => rfl, nofun, by simp [none_kept], by simp [none_kept]⟩, idle.diagnosed⟩
  have announced := begun.steady (Steady.refl.withSli (x := Sli.startPresence _ (s.after 20)) (Sli.touch_conflict _ _))
  exact ((((announced.kept.deriveBreaker.withBkc _).steady (Steady.refl.withSyn _)).steady
    (Steady.refl.withCsq _)).steady Steady.refl.beginService).kept

/-- The entry into an address conflict, from any state after START (R97, R199). -/
theorem CoilsKept.enterConflict (h : CoilsKept s) (working : s.ssc.station ≠ .start) : CoilsKept (enterConflict s) := by
  unfold Machine.enterConflict
  split
  · exact h
  · next free =>
    obtain ⟨work, conflict, ret, other⟩ := h.service
    have outside : s.ssc.station ≠ .addressConflict := fun k => free (conflict k)
    have none_kept : s.ssc.returnState = none := by simpa [outside] using ret
    by_cases fault : s.ssc.station = .settingsFault
    · have idle := h.idle_of_station (by simp [Ssc.closes, fault])
      have entered : CloseIdle ((s.withSli (s.sli.enterConflict (s.after 1000))).withSsc s.ssc.enterConflict) := by
        refine ⟨idle.off, ⟨?_, fun _ => rfl, ?_, ?_⟩, idle.diagnosed⟩ <;>
          simp [Ssc.enterConflict, fault, StationState.atWork, none_kept]
      exact entered.kept
    · have told : s.ssc.enterConflict =
          { s.ssc with station := .addressConflict, returnState := some s.ssc.station } := by
        simp [Ssc.enterConflict, fault]
      have set : s.settings.isSome = true := by
        refine work ?_
        cases station : s.ssc.station <;> first | rfl | exact absurd station working | exact absurd station fault
      rw [told]
      refine (coilsKept_iff _).2 ⟨fun on => ?_, ⟨fun _ => set, fun _ => rfl, by simp, by simpa using outside⟩,
        h.diagnosed⟩
      obtain ⟨trip, lockout, state, auto | manual | ⟨k, -⟩⟩ := h.lawful on
      · exact ⟨trip, lockout, state, .inr (.inr ⟨rfl, .inl (congrArg some auto)⟩)⟩
      · exact ⟨trip, lockout, state, .inr (.inr ⟨rfl, .inr (congrArg some manual)⟩)⟩
      · exact absurd k outside

theorem serviceState_cases (st : Settings) : serviceState st = .auto ∨ serviceState st = .manual := by
  unfold serviceState
  split
  · exact .inl rfl
  · exact .inr rfl

theorem returnedState_ne_conflict {st : Settings} {warm : Nat} {r : StationState} (h : r ≠ .addressConflict) :
    returnedState st warm r ≠ .addressConflict := by
  unfold returnedState
  split
  · split
    · obtain e | e := serviceState_cases st <;> simp [e]
    · decide
  · split
    · obtain e | e := serviceState_cases st <;> simp [e]
    · decide
  · exact h

/-- The end of an address conflict: the link leaves it, and the station returns to the state in which it was entered, from
which the close coil was energized if it is (R99, R199). -/
theorem CoilsKept.leaveConflict (h : CoilsKept s) {x : Sli} :
    CoilsKept (leaveAddressConflict (s.withSli x)) := by
  obtain ⟨work, -, ret, other⟩ := h.service
  unfold leaveAddressConflict State.inForce
  split
  · next unset =>
    have unset : s.settings = none := unset
    have idle : s.ssc.station.atWork = false := by simpa [unset] using work
    have outside : s.ssc.station ≠ .addressConflict := fun k => by simp [k, StationState.atWork] at idle
    exact (coilsKept_iff _).2 ⟨h.lawful, ⟨work, fun k => absurd k outside, ret, other⟩, h.diagnosed⟩
  · next st set =>
    dsimp only
    split
    · next free =>
      have free : s.ssc.returnState = none := free
      have outside : s.ssc.station ≠ .addressConflict := fun k => by simp [free] at ret; exact ret k
      exact (coilsKept_iff _).2 ⟨h.lawful, ⟨work, fun k => absurd k outside, ret, other⟩, h.diagnosed⟩
    · next r hr =>
      have hr : s.ssc.returnState = some r := hr
      have set : s.settings = some st := set
      have away : r ≠ .addressConflict := fun k => other (hr.trans (congrArg some k))
      have left := returnedState_ne_conflict (st := st) (warm := s.cme.warmCount) away
      have inside : s.ssc.station = .addressConflict := ret.2 (by simp [hr])
      refine (coilsKept_iff _).2 ⟨fun on => ?_, ⟨fun _ => ?_, fun k => absurd k left, ?_, nofun⟩, h.diagnosed⟩
      · obtain ⟨trip, lockout, state, closes⟩ := h.lawful on
        refine ⟨trip, lockout, state, ?_⟩
        simp only [Ssc.closes, inside, hr, reduceCtorEq, false_or, true_and, Option.some.injEq] at closes
        obtain rfl | rfl := closes
        · exact .inl rfl
        · exact .inr (.inl rfl)
      · exact Option.isSome_of_eq_some set
      · simpa using left

/-- Of a line that it does not hear, and in START, the station takes no part. -/
theorem CoilsKept.hearing {act : State → State} (h : CoilsKept s)
    (ha : ∀ u, u.ssc.station ≠ .start → CoilsKept u → CoilsKept (act u)) : CoilsKept (s.hearing act) := by
  unfold State.hearing State.onLine
  split
  · exact h
  · next working =>
    dsimp only
    split
    · exact ha _ working (h.steady (Steady.refl.withSli rfl))
    · exact h

theorem CoilsKept.filtered {sender : StationNo} {act : State → State} (h : CoilsKept s)
    (ha : ∀ u, Steady u (act u)) : CoilsKept (filtered sender act s) := by
  refine h.hearing fun u working hu => ?_
  split_ifs
  · exact hu.enterConflict working
  · exact hu
  · exact hu.steady (ha u)

theorem CoilsKept.hears {r : Request} {act : State → State} (h : CoilsKept s)
    (ha : ∀ u, u.ssc.station ≠ .start → CoilsKept u → CoilsKept (act u)) : CoilsKept (s.hears r act) := by
  refine h.hearing fun u working hu => ?_
  split
  · exact hu
  · exact ha u working hu

/-- A request reaches its owner in a state other than START, SETTINGS_FAULT and ADDRESS_CONFLICT (R94). -/
theorem CoilsKept.intake {code : Byte} {known broadcastable : Bool} {r : Request} {owner : State → Answer}
    (h : CoilsKept s)
    (ha : ∀ u, u.ssc.station ∉ ([.start, .settingsFault, .addressConflict] : List StationState) → CoilsKept u →
      CoilsKept (owner u).state) :
    CoilsKept (intake code known broadcastable r owner s) := by
  refine h.hears fun u working hu => ?_
  split
  · have judged : CoilsKept (judge code known broadcastable false r owner u).state := by
      unfold judge
      split_ifs
      all_goals first
        | exact hu
        | skip
      next away =>
      simp only [Bool.not_false, Bool.true_and, Bool.or_eq_true, beq_iff_eq, not_or] at away
      exact ha u (by simp [working, away]) hu
    exact judged.steady (Steady.refl.withSli rfl)
  · exact hu

theorem CoilsKept.withForce {owner : Settings → State → Answer} (h : CoilsKept s)
    (ha : ∀ st, CoilsKept (owner st s).state) : CoilsKept (withForce owner s).state := by
  unfold Machine.withForce
  split
  · exact h
  · exact ha _

end Sys2Proof.Machine
end

section
/-! PROOFS. Every step keeps the coil law (R53): the commands that leave what it reads, and the others by what their
operations do to it. -/

namespace Sys2Proof.Machine

/-! ### The commands that leave what the law reads -/

theorem Steady.hearing {s t : State} {act : State → State} (h : Steady s t)
    (ha : ∀ u, Steady s u → Steady s (act u)) : Steady s (t.hearing act) := by
  unfold State.hearing State.onLine
  dsimp only
  split_ifs
  · exact h
  · exact ha _ (h.withSli rfl)
  · exact h

theorem Steady.onLine {s t : State} {act : State → State} (h : Steady s t) (ha : Steady s (act t)) :
    Steady s (t.onLine act) := by
  unfold State.onLine
  split
  · exact h
  · exact ha

theorem Steady.intake {s t : State} {code : Byte} {known broadcastable : Bool} {r : Request} {owner : State → Answer}
    (h : Steady s t) (ha : ∀ u, Steady s u → Steady s (owner u).state) :
    Steady s (intake code known broadcastable r owner t) := by
  unfold Machine.intake State.hears
  refine h.hearing fun u hu => ?_
  have judged : Steady s (judge code known broadcastable false r owner u).state := by
    unfold judge
    split_ifs <;> first | exact hu | exact ha u hu
  split
  · exact hu
  · dsimp only
    split
    · exact judged.withSli rfl
    · exact hu

theorem Steady.withForce {s t : State} {owner : Settings → State → Answer} (h : Steady s t)
    (ha : ∀ st, Steady s (owner st t).state) : Steady s (withForce owner t).state := by
  unfold Machine.withForce
  split
  · exact h
  · exact ha _

section peeled
variable {s t : State} (h : Steady s t) (st : Settings)
include h

theorem Steady.avrCheck (r : Record) : Steady s (avrCheck st r t) := h.only (Only.avrCheck st r (by decide) Only.refl)

theorem Steady.evaluatePermit (r : Record) : Steady s (evaluatePermit st r t) :=
  h.only (Only.evaluatePermit st r (by decide) (by decide) Only.refl)

theorem Steady.withDrc (x : Drc) : Steady s (t.withDrc x) := h.only (Only.withDrc (by decide) Only.refl x)

theorem Steady.keepSheds : Steady s (keepSheds st t) := h.only (Only.keepSheds st (by decide) Only.refl)

theorem Steady.feederDeadBus (r : Record) : Steady s (feederDeadBus st r t) :=
  h.only (Only.feederDeadBus st r (by decide) Only.refl)

theorem Steady.evaluateMonitor : Steady s (evaluateMonitor st t) :=
  h.only (Only.evaluateMonitor st (by decide) Only.refl)

theorem Steady.setMonitor (m : Monitor) : Steady s (t.setMonitor m) := h.withCsq _

theorem Steady.toCsq (x : CsqState) : Steady s (t.toCsq x) := h.withCsq _

theorem Steady.toBlocked : Steady s (toBlocked t) := h.withCsq _

theorem Steady.sequenceOpen : Steady s (sequenceOpen t) := (h.withCsq _).send _

theorem Steady.enterShed (cause : Option ShedCause) : Steady s (enterShed st cause t) :=
  h.only (Only.enterShed st cause (by decide) Only.refl)

theorem Steady.judgeShed : Steady s (judgeShed st t) := h.only (Only.judgeShed st (by decide) (by decide) Only.refl)

end peeled

theorem Steady.roleView {s t : State} (h : Steady s t) (st : Settings) : Steady s (roleView st t) :=
  h.only (Only.roleView st (by decide) (by decide) (by decide) (by decide) Only.refl)

/-- The requests to the sequencer and to the recorder leave what the breaker rests on. -/
theorem Steady.ownTransferTest {s t : State} (h : Steady s t) (r : Request) (st : Settings) :
    Steady s (ownTransferTest r st t).state := by
  unfold Machine.ownTransferTest
  split_ifs <;> first | exact h | exact h.transferTestStart | exact h.transferTestEnd

theorem Steady.ownInhibit {s t : State} (h : Steady s t) (r : Request) (st : Settings) :
    Steady s (ownInhibit r st t).state := by
  unfold Machine.ownInhibit
  split_ifs <;> first | exact h | exact h.setInhibit _

theorem Steady.ownRetransferNow {s t : State} (h : Steady s t) (r : Request) (st : Settings) :
    Steady s (ownRetransferNow r st t).state := by
  unfold Machine.ownRetransferNow
  split_ifs <;> first | exact h | exact h.retransferAtOnce

theorem Steady.ownCaptureTrigger {s t : State} (h : Steady s t) (r : Request) (st : Settings) :
    Steady s (ownCaptureTrigger r st t).state := by
  unfold Machine.ownCaptureTrigger
  split_ifs <;> first | exact h | exact h.takeTrigger st _ _

theorem Steady.ownDirectory {s t : State} (h : Steady s t) (r : Request) (st : Settings) :
    Steady s (ownDirectory r st t).state := by
  unfold Machine.ownDirectory
  split_ifs <;> first | exact h | exact h.withSli (Sli.placeData_conflict _ _)

theorem Steady.ownRead {s t : State} (h : Steady s t) (r : Request) : Steady s (ownRead r t).state := by
  unfold Machine.ownRead readBlock
  repeat' split
  all_goals first | exact h | exact h.withSli (Sli.placeData_conflict _ _)

theorem Steady.ownRelease {s t : State} (h : Steady s t) (r : Request) : Steady s (ownRelease r t).state := by
  unfold Machine.ownRelease
  repeat' split
  all_goals first | exact h | exact h.only (Only.withDrc (by decide) Only.refl _)

/-- The commands that write the breaker record, the coils, the service state, the settings or the conflict of the link. -/
def writesCoilLaw : Instr → Bool
  | .reset _ _ | .settingsNoAcknowledge | .settingsImageRead _ | .presenceExpiry | .sscCycleCompletion
  | .debounceExpiry _ | .overtempRise | .tripClaim _ _ | .openClaim _ | .closeClaim _ | .closePulseEnd
  | .closingTimerExpiry | .tripPulseEnd | .stuckTimerExpiry | .discrepancyTimerExpiry | .bfTimerExpiry
  | .bfRecheckExpiry | .lockoutPulseEnd | .periodTimerExpiry | .diagnosticRetryExpiry | .diagnosticStepEnd _
  | .cdsBreakerStateChange | .cdsStationStateChange => true
  | .arbitrationLost _ | .tripNoticeReceived _ _ _ | .bfTransferReceived _ _ | .claimReceived _ _
  | .claimWithdrawReceived _ | .reportReceived _ _ | .inputChangeReceived _ _ _ _
  | .captureTriggerEventReceived _ _ _ _ | .dataReceived _ _ _ | .presenceReceived _ _ | .conflictReceived _ _ => true
  | .openRequest _ | .closeRequest _ | .resetLockout _ | .setMode _ | .resetAlarm _ | .runDiagnostics _
  | .assignNumber _ => true
  | _ => false

/-- Every other command ends as every command ends, after an effect that leaves what the law reads: its operations are
peeled off from the outermost inwards. -/
theorem exec_steady (c : Instr) (s : State) (h : writesCoilLaw c = false) :
    ∃ u, exec c s = done s u ∧ Steady s u := by
  cases c
  case reset | settingsNoAcknowledge | settingsImageRead | presenceExpiry | sscCycleCompletion | debounceExpiry
    | overtempRise | tripClaim | openClaim | closeClaim | closePulseEnd | closingTimerExpiry | tripPulseEnd
    | stuckTimerExpiry | discrepancyTimerExpiry | bfTimerExpiry | bfRecheckExpiry | lockoutPulseEnd | periodTimerExpiry
    | diagnosticRetryExpiry | diagnosticStepEnd | cdsBreakerStateChange | cdsStationStateChange | arbitrationLost
    | tripNoticeReceived | bfTransferReceived | claimReceived | claimWithdrawReceived | reportReceived
    | inputChangeReceived | captureTriggerEventReceived | dataReceived | presenceReceived | conflictReceived
    | openRequest | closeRequest | resetLockout | setMode | resetAlarm | runDiagnostics | assignNumber => cases h
  -- measurement, peer entries, protection and load sharing write none of the blocks that the law reads
  case sampleStrobe | cmeCycleRecord | lscSlipCorrection | ptbMeasuredUpdate | overtempFall | freshnessTimerExpiry
    | lossTimerExpiry | conflictClearExpiry | pesConflictMarking | transferOriginExpiry | avrPulseEnd | avrSpacingExpiry
    | lscSynPublication | lscViewEvent | lscBreakerRecord | lscStationStateChange | shareIntervalExpiry
    | unloadTimerExpiry | overlapDeadlineExpiry | govBiasPeriodStart =>
    refine ⟨_, rfl, Steady.refl.only ?_⟩
    repeat' first
      | with_reducible exact Only.refl
      | assumption
      | decide
      | dsimp only
      | intro _
      | with_reducible first
        | apply Only.expire | apply Only.take | apply Only.inForce | apply Only.notifyAll | apply Only.withSiu | apply Only.withCme
        | apply Only.withPins | apply Only.publishView | apply Only.setEntry | apply Only.clearConflict
        | apply Only.withPtb | apply Only.publishPes | apply Only.removeOrigin | apply Only.withSyn
        | apply Only.lscEvent | apply Only.shareInterval | apply Only.endUnload | apply Only.overlapExpires
        | apply Only.overlapTest | apply Only.leaveConflict | apply Only.withLsc
      | split
  case settingsReadRetry => exact ⟨_, rfl, Steady.refl.expire fun u hu => hu.withSsc rfl rfl⟩
  case rawInputChange i level =>
    exact ⟨_, rfl, (Steady.refl.only (Only.withPins (by decide) Only.refl _)).withSsc rfl rfl⟩
  case presenceRepeatTimer =>
    exact ⟨_, rfl, Steady.refl.expire fun u hu => hu.withSli (Sli.touch_conflict _ _)⟩
  case conflictTimerExpiry =>
    refine ⟨_, rfl, Steady.refl.expire fun u hu => ?_⟩
    split
    · exact hu
    · exact hu.withSli (Sli.touch_conflict _ _)
  case ptbSourcePublication source =>
    have taken : Steady s (s.take (.ptb source)) := Steady.refl.take _
    refine ⟨_, rfl, ?_⟩
    dsimp only
    split
    · exact taken
    · cases source
      · exact taken.takeBreaker
      · exact taken.ownPartTaken _ _
      · exact taken.ownPartTaken _ _
      · exact taken.ownPartTaken _ _
  all_goals
    refine ⟨_, rfl, ?_⟩
    repeat' first
      | with_reducible exact Steady.refl
      | assumption
      | dsimp only
      | intro _
      | with_reducible first
        | apply Steady.expire | apply Steady.take | apply Steady.inForce
        -- link, requests and peer table
        | apply Steady.onLine | apply Steady.hearing | apply Steady.leaveFlight | apply Steady.intake
        | apply Steady.withForce | apply Steady.ownTransferTest | apply Steady.ownInhibit
        | apply Steady.ownRetransferNow | apply Steady.ownCaptureTrigger | apply Steady.ownDirectory
        | apply Steady.ownRead | apply Steady.ownRelease
        | apply Steady.placeReport | apply Steady.withSli
        -- protection and recorder
        | apply Steady.publishPes | apply Steady.pesFinish | apply Steady.withPes | apply Steady.takePassage
        | apply Steady.recording | apply Steady.levelTriggers | apply Steady.takeTrigger | apply Steady.withDrc
        -- synchronizer
        | apply Steady.judgeEligible | apply Steady.avrCheck | apply Steady.evaluatePermit | apply Steady.claimingCycle | apply Steady.claimingView
        | apply Steady.yieldedView | apply Steady.endTold | apply Steady.synCancel | apply Steady.giveUpClaim
        | apply Steady.withdrawClaim | apply Steady.leaveYielded | apply Steady.send | apply Steady.withSyn
        -- changeover sequencer
        | apply Steady.csqEvent | apply Steady.whenRunning | apply Steady.incomerEvaluated | apply Steady.roleRecord
        | apply Steady.roleView | apply Steady.takeOutcome | apply Steady.csqTick | apply Steady.derive
        | apply Steady.withdrawRequest | apply Steady.incomerDelayEnds | apply Steady.toReadyOrStarting
        | apply Steady.keepSheds | apply Steady.feederDeadBus | apply Steady.evaluateMonitor | apply Steady.toBlocked
        | apply Steady.sequenceOpen | apply Steady.enterShed | apply Steady.judgeShed | apply Steady.setMonitor
        | apply Steady.toCsq | apply Steady.run | apply Steady.withCsq
      | split

/-! ### The commands that write what the law reads -/

section owners
variable {s : State} (h : CoilsKept s)
include h

theorem CoilsKept.ownOpen (r : Request) (st : Settings) : CoilsKept (ownOpen r st s).state := by
  unfold Machine.ownOpen
  split_ifs
  · exact h
  · exact h
  · exact h
  · exact (h.steady (Steady.refl.only
      (Only.unloadOrder _ (by decide) (by decide) (by decide) Only.refl))).steady Steady.refl.tellOpenRequest
  · exact (h.takeOpening _).steady Steady.refl.tellOpenRequest

theorem CoilsKept.ownClose (r : Request) (st : Settings) : CoilsKept (ownClose r st s).state := by
  unfold Machine.ownClose
  split_ifs
  · exact h
  · exact h
  · exact h.operatorClose st

theorem CoilsKept.ownResetLockout (r : Request) (st : Settings) : CoilsKept (ownResetLockout r st s).state := by
  unfold Machine.ownResetLockout
  split_ifs
  · exact h
  · exact h
  · exact h
  · exact h.lockoutClear st

theorem CoilsKept.ownResetAlarm (r : Request) : CoilsKept (ownResetAlarm r s).state := by
  unfold Machine.ownResetAlarm
  split
  · exact h
  · exact CoilsKept.withBkc (h.steady (Steady.refl.csqResetAlarm.withSyn _)) rfl rfl

theorem CoilsKept.ownDiagnostics (r : Request) : CoilsKept (ownDiagnostics r s).state := by
  unfold Machine.ownDiagnostics
  cases testableCircuit s.bkc.state with
  | none => split_ifs <;> exact h -- a last-run record is no part of the law
  | some coil => split_ifs <;> first | exact h | exact h.beginRun coil

/-- SET_MODE leaves an energized close coil to AUTO and MANUAL: for TEST the breaker is open or out (R200). -/
theorem CoilsKept.setMode (away : s.ssc.station ∉ ([.start, .settingsFault, .addressConflict] : List StationState))
    {m : StationState} (named : m = .auto ∨ m = .manual ∨ m = .test) : CoilsKept (setMode m s).state := by
  simp only [List.mem_cons, List.not_mem_nil, or_false, not_or] at away
  obtain ⟨start, fault, outside⟩ := away
  obtain ⟨work, -, ret, other⟩ := h.service
  have set : s.settings.isSome = true := by
    refine work ?_
    cases station : s.ssc.station <;> first | rfl | exact absurd station start | exact absurd station fault
  have none_kept : s.ssc.returnState = none := by simpa [outside] using ret
  have passes : ServiceKept (s.withSsc { s.ssc with station := m }) := by
    refine ⟨fun _ => set, fun k => ?_, ?_, other⟩
    · obtain rfl | rfl | rfl := named <;> cases k
    · simp only [State.withSsc_ssc, none_kept]
      obtain rfl | rfl | rfl := named <;> simp
  unfold Machine.setMode
  split_ifs with _ _ closed
  · exact h
  · exact h
  · exact h
  · obtain rfl | rfl | rfl := named
    · exact (coilsKept_iff _).2 ⟨fun on => ⟨(h.lawful on).1, (h.lawful on).2.1, (h.lawful on).2.2.1, .inl rfl⟩,
        passes, h.diagnosed⟩
    · exact (coilsKept_iff _).2 ⟨fun on => ⟨(h.lawful on).1, (h.lawful on).2.1, (h.lawful on).2.2.1, .inr (.inl rfl)⟩,
        passes, h.diagnosed⟩
    · have idle : CloseIdle s := h.idle_of_state fun closing => by
        obtain k | k := closing <;> simp [k, BreakerState.isOpenOrOut] at closed
      exact CloseIdle.kept ⟨idle.off, passes, idle.diagnosed⟩

theorem CoilsKept.ownSetMode (away : s.ssc.station ∉ ([.start, .settingsFault, .addressConflict] : List StationState))
    (r : Request) : CoilsKept (ownSetMode r s).state := by
  have named {b : Byte} {m : StationState} (hm : modeOfByte b = some m) : m = .auto ∨ m = .manual ∨ m = .test := by
    unfold modeOfByte at hm
    split_ifs at hm <;> cases hm <;> simp
  unfold Machine.ownSetMode
  split
  · split
    · exact h.setMode away (named ‹_›)
    · exact h
  · exact h

theorem CoilsKept.ownAssign (r : Request) : CoilsKept (ownAssign r s).state := by
  have assigned (n : StationNo) : CoilsKept (assign n s) := by
    have own : CoilsKept (s.withSli { s.sli with ownNumber := n }) := h.steady (Steady.refl.withSli rfl)
    have numbered := own.steady
      (Steady.refl.only (Only.renumber s.sli.ownNumber n (by decide) (by decide) Only.refl))
    unfold assign
    dsimp only
    split
    · exact numbered.leaveConflict
    · exact numbered
  unfold Machine.ownAssign
  split
  · split
    · exact assigned _
    · exact h
  · exact h

end owners

/-- A command ends as every command ends, after an effect that keeps the coil law. -/
def EndsLawful (c : Instr) (s : State) : Prop := ∃ u, exec c s = done s u ∧ CoilsKept u

section commands
variable {s : State} (h : CoilsKept s)
include h

theorem settingsNoAcknowledge_endsLawful : EndsLawful .settingsNoAcknowledge s := by
  refine ⟨_, rfl, ?_⟩
  split
  · next reading => exact h.failAttempt (by simp [State.readingImage] at reading; exact reading.1)
  · exact h

theorem settingsImageRead_endsLawful (image : List Byte) : EndsLawful (.settingsImageRead image) s := by
  refine ⟨_, rfl, ?_⟩
  split
  · next reading =>
    have start : s.ssc.station = .start := by
      simp only [State.readingImage, Bool.and_eq_true, beq_iff_eq] at reading
      exact reading.1
    split
    · exact h.enterPresence start _ _
    · exact h.failAttempt start
    · exact h.enterSettingsFault start
  · exact h

/-- A passage from one state to another in neither of which the close coil is energized or a conflict stands. -/
theorem CoilsKept.withStation {x : Ssc} (ret : x.returnState = s.ssc.returnState) (from' : ¬ s.ssc.closes)
    (outside : s.ssc.station ≠ .addressConflict) (set : s.settings.isSome) (other : x.station ≠ .addressConflict) :
    CoilsKept (s.withSsc x) := by
  have idle := h.idle_of_station from'
  obtain ⟨-, -, back, away⟩ := h.service
  have none_kept : s.ssc.returnState = none := by simpa [outside] using back
  exact CloseIdle.kept ⟨idle.off, ⟨fun _ => set, fun k => absurd k other, by simp [other, ret, none_kept],
    by simp [ret, none_kept]⟩, idle.diagnosed⟩

theorem presenceExpiry_endsLawful : EndsLawful .presenceExpiry s := by
  refine ⟨_, rfl, h.expire fun u hu => ?_⟩
  by_cases presence : u.ssc.station = .presence
  · have set : u.settings.isSome = true := hu.service.1 (by simp [presence, StationState.atWork])
    exact hu.withStation rfl (by simp [Ssc.closes, presence]) (by simp [presence]) set (by simp [presence])
  · exact hu.withSsc (by simp [presence]) rfl

theorem sscCycleCompletion_endsLawful : EndsLawful .sscCycleCompletion s := by
  refine ⟨_, rfl, (h.take _).inForce fun st set => ?_⟩
  by_cases warm : s.ssc.station = .warmup ∧ s.cme.warmCount = 2
  · refine (h.take .sscRecord).withStation rfl ?_ ?_ ?_ ?_
    · simp [Ssc.closes, warm]
    · simp [warm]
    · exact Option.isSome_of_eq_some set
    · obtain e | e := serviceState_cases st <;> simp [warm, e]
  · exact (h.take _).withSsc (by simp [warm]) rfl

theorem closeClaim_endsLawful (purpose : ClosePurpose) : EndsLawful (.closeClaim purpose) s := by
  refine ⟨_, rfl, (h.take _).atWork fun st => ?_⟩
  split
  · next taken =>
    have closing := (h.take (.closeClaim purpose)).takeClose purpose taken
    cases purpose
    · exact closing.steady (Steady.refl.withSyn _)
    · exact closing.steady (Steady.refl.withSyn _)
    · exact closing.steady (Steady.refl.only (Only.tellFeederTaken (by decide) Only.refl))
  · cases purpose
    · exact (h.take _).steady (Steady.refl.only (Only.syncRefused (by decide) Only.refl))
    · exact (h.take _).steady Steady.refl.deadRefused
    · exact (h.take _).steady (Steady.refl.only (Only.tellFeederRefused (by decide) Only.refl))

theorem closingTimerExpiry_endsLawful : EndsLawful .closingTimerExpiry s := by
  refine ⟨_, rfl, h.expire fun u hu => ?_⟩
  have stopped : CoilsKept (u.withBkc { u.bkc with closingTimer := none }) := hu.withBkc rfl rfl
  dsimp only
  split
  · exact ((stopped.passTo (by decide)).withBkc _).kept
  · exact stopped

theorem stuckTimerExpiry_endsLawful : EndsLawful .stuckTimerExpiry s := by
  refine ⟨_, rfl, h.expire fun u hu => ?_⟩
  have stopped : CoilsKept (u.withBkc { u.bkc with stuckTimer := none }) := hu.withBkc rfl rfl
  dsimp only
  split_ifs
  · exact stopped
  · exact stopped.tripDone.kept
  · exact ((stopped.passTo (by decide)).withBkc _).kept

theorem discrepancyTimerExpiry_endsLawful : EndsLawful .discrepancyTimerExpiry s := by
  refine ⟨_, rfl, h.expire fun u hu => ?_⟩
  have stopped : CoilsKept (u.withBkc { u.bkc with discrepancyTimer := none }) := hu.withBkc rfl rfl
  dsimp only
  split
  · exact (stopped.passTo (by decide)).kept
  · exact stopped

theorem bfTimerExpiry_endsLawful : EndsLawful .bfTimerExpiry s := by
  refine ⟨_, rfl, h.expire fun u hu => ?_⟩
  have stopped : CoilsKept (u.withBkc { u.bkc with bfTimer := none }) := hu.withBkc rfl rfl
  refine stopped.inForce fun st _ => ?_
  split
  · exact stopped.failBreaker st
  · exact stopped

theorem bfRecheckExpiry_endsLawful : EndsLawful .bfRecheckExpiry s := by
  refine ⟨_, rfl, h.expire fun u hu => hu.inForce fun st _ => ?_⟩
  split <;> exact hu.withBkc rfl rfl

theorem periodTimerExpiry_endsLawful : EndsLawful .periodTimerExpiry s := by
  refine ⟨_, rfl, h.expire fun u hu => hu.inForce fun st _ => CoilsKept.timerStart ?_⟩
  exact hu.withCds rfl id hu.diagnosed

theorem diagnosticRetryExpiry_endsLawful : EndsLawful .diagnosticRetryExpiry s := by
  refine ⟨_, rfl, h.expire fun u hu => CoilsKept.timerStart ?_⟩
  exact hu.withCds rfl id hu.diagnosed

theorem diagnosticStepEnd_endsLawful (reading : Reading) : EndsLawful (.diagnosticStepEnd reading) s := by
  refine ⟨_, rfl, h.inForce fun st _ => ?_⟩
  split
  · exact h
  · next r _ => exact (h.steady (Steady.refl.reach r.due)).endStep st r reading

theorem cdsBreakerStateChange_endsLawful : EndsLawful .cdsBreakerStateChange s := by
  refine ⟨_, rfl, ?_⟩
  dsimp only
  split
  · exact (h.take _).abortRun
  · exact h.take _

theorem cdsStationStateChange_endsLawful : EndsLawful .cdsStationStateChange s := by
  refine ⟨_, rfl, (h.take _).inForce fun st _ => ?_⟩
  split
  · exact (h.take _).withCds rfl id h.diagnosed
  · exact h.take _

theorem overtempRise_endsLawful : EndsLawful .overtempRise s := by
  have raised : CoilsKept (s.withPins { s.pins with overTemp := true }) :=
    h.steady (Steady.refl.only (Only.withPins (by decide) Only.refl _))
  refine ⟨_, rfl, ?_⟩
  dsimp only
  split
  · exact raised.withCds (by simp) (by simp) raised.diagnosed.warm
  · exact raised

theorem arbitrationLost_endsLawful (inIdentity : Bool) : EndsLawful (.arbitrationLost inIdentity) s := by
  refine ⟨_, rfl, ?_⟩
  unfold State.onLine
  split
  · exact h
  · next working =>
    have landed : CoilsKept (s.withSli s.sli.land) := h.steady (Steady.refl.withSli rfl)
    dsimp only
    split
    · exact h
    · split
      · exact landed.enterConflict working
      · exact landed

theorem conflictReceived_endsLawful (identity : BitVec 48) (contested : Byte) :
    EndsLawful (.conflictReceived identity contested) s := by
  refine ⟨_, rfl, h.hearing fun u working hu => ?_⟩
  unfold conflictHeard
  split_ifs
  · exact hu
  · exact hu
  · exact hu.enterConflict working
  · exact hu.steady (Steady.refl.only (Only.conflictFrame _ (by decide) (by decide) Only.refl))

theorem claimReceived_endsLawful (sender : StationNo) (sections : Byte) :
    EndsLawful (.claimReceived sender sections) s :=
  ⟨_, rfl, h.filtered fun _ => Steady.synClaimFrame
    (Steady.refl.only (Only.claimFrame _ _ (by decide) (by decide) Only.refl)) _ _⟩

theorem claimWithdrawReceived_endsLawful (sender : StationNo) : EndsLawful (.claimWithdrawReceived sender) s :=
  ⟨_, rfl, h.filtered fun _ => Steady.synWithdrawFrame
    (Steady.refl.only (Only.claimFrame _ _ (by decide) (by decide) Only.refl)) _⟩

theorem assignNumber_endsLawful (r : Request) : EndsLawful (.assignNumber r) s := by
  refine ⟨_, rfl, h.hears fun u _ hu => ?_⟩
  have observed : CoilsKept (observeAssignment r u) :=
    hu.steady (Steady.refl.only (Only.observeAssignment r (by decide) (by decide) Only.refl))
  dsimp only
  split
  · refine CoilsKept.steady ?_ (Steady.refl.withSli rfl)
    unfold judge
    split_ifs <;> first | exact observed | exact observed.ownAssign r
  · exact observed

/-- Every command but RESET ends so. -/
theorem endsLawful {c : Instr} (hc : ∀ straps raw, c ≠ .reset straps raw) : EndsLawful c s := by
  cases writes : writesCoilLaw c
  · obtain ⟨u, hu, k⟩ := exec_steady c s writes
    exact ⟨u, hu, h.steady k⟩
  · cases c
    case reset straps raw => exact absurd rfl (hc straps raw)
    -- service
    case settingsNoAcknowledge => exact settingsNoAcknowledge_endsLawful h
    case settingsImageRead image => exact settingsImageRead_endsLawful h image
    case presenceExpiry => exact presenceExpiry_endsLawful h
    case sscCycleCompletion => exact sscCycleCompletion_endsLawful h
    case debounceExpiry i => exact ⟨_, rfl, h.expire fun u hu => hu.debounced i⟩
    -- breaker
    case tripClaim => exact ⟨_, rfl, (h.take _).atWork fun st => (h.take _).takeTrip _ st⟩
    case openClaim => exact ⟨_, rfl, (h.take _).atWork fun st => (h.take _).takeOpening _⟩
    case closeClaim purpose => exact closeClaim_endsLawful h purpose
    case closePulseEnd => exact ⟨_, rfl, h.expire fun u hu => hu.closeOff.kept⟩
    case closingTimerExpiry => exact closingTimerExpiry_endsLawful h
    case tripPulseEnd => exact ⟨_, rfl, h.expire fun u hu => hu.tripOff⟩
    case stuckTimerExpiry => exact stuckTimerExpiry_endsLawful h
    case discrepancyTimerExpiry => exact discrepancyTimerExpiry_endsLawful h
    case bfTimerExpiry => exact bfTimerExpiry_endsLawful h
    case bfRecheckExpiry => exact bfRecheckExpiry_endsLawful h
    case lockoutPulseEnd => exact ⟨_, rfl, h.expire fun u hu => hu.withBkc rfl rfl⟩
    -- coils
    case overtempRise => exact overtempRise_endsLawful h
    case periodTimerExpiry => exact periodTimerExpiry_endsLawful h
    case diagnosticRetryExpiry => exact diagnosticRetryExpiry_endsLawful h
    case diagnosticStepEnd reading => exact diagnosticStepEnd_endsLawful h reading
    case cdsBreakerStateChange => exact cdsBreakerStateChange_endsLawful h
    case cdsStationStateChange => exact cdsStationStateChange_endsLawful h
    -- frames
    case arbitrationLost inIdentity => exact arbitrationLost_endsLawful h inIdentity
    case tripNoticeReceived | captureTriggerEventReceived =>
      exact ⟨_, rfl, h.filtered fun _ => Steady.refl.peerTrigger _⟩
    case bfTransferReceived => exact ⟨_, rfl, h.filtered fun _ => Steady.refl.transferNotice _ _⟩
    case claimReceived sender sections => exact claimReceived_endsLawful h sender sections
    case claimWithdrawReceived sender => exact claimWithdrawReceived_endsLawful h sender
    case reportReceived => exact ⟨_, rfl, h.filtered fun _ => Steady.refl.reportHeard _ _⟩
    case inputChangeReceived | dataReceived | presenceReceived => exact ⟨_, rfl, h.filtered fun _ => Steady.refl⟩
    case conflictReceived identity contested => exact conflictReceived_endsLawful h identity contested
    -- requests
    case openRequest r => exact ⟨_, rfl, h.intake fun u _ hu => hu.withForce fun st => hu.ownOpen r st⟩
    case closeRequest r => exact ⟨_, rfl, h.intake fun u _ hu => hu.withForce fun st => hu.ownClose r st⟩
    case resetLockout r => exact ⟨_, rfl, h.intake fun u _ hu => hu.withForce fun st => hu.ownResetLockout r st⟩
    case setMode r => exact ⟨_, rfl, h.intake fun u away hu => hu.ownSetMode away r⟩
    case resetAlarm r => exact ⟨_, rfl, h.intake fun u _ hu => hu.ownResetAlarm r⟩
    case runDiagnostics r => exact ⟨_, rfl, h.intake fun u _ hu => hu.ownDiagnostics r⟩
    case assignNumber r => exact assignNumber_endsLawful h r
    all_goals cases writes

end commands

theorem exec_keeps_coilLaw {c : Instr} {s t : State} (h : CoilsKept s) (ht : exec c s = .next t) : CoilsKept t := by
  by_cases hc : ∀ straps raw, c ≠ .reset straps raw
  · obtain ⟨u, hu, k⟩ := endsLawful h hc
    exact k.steady (Steady.refl.done (hu.symm.trans ht))
  · push Not at hc
    obtain ⟨straps, raw, rfl⟩ := hc
    obtain rfl : _ = t := Host.Outcome.next.inj ((exec_reset straps raw s).symm.trans ht)
    have reset : CoilsKept (State.ofPins { s.pins with straps := straps, raw := raw }) := by
      refine CloseIdle.kept ⟨rfl, ⟨nofun, nofun, by simp [State.ofPins, Ssc.reset], nofun⟩, nofun, fun i f failed => ?_⟩
      simp [State.ofPins, Cds.reset] at failed
    exact reset.steady (Steady.refl.only
      (Only.withPending (by decide) (Only.withFree (by decide) Only.refl s.freeCount) s.pending))

end Sys2Proof.Machine

open Sys2Proof Sys2Proof.Machine

/-- Settles O22: the command at the front of the queue keeps the coil law, and so does a tick of the local time. -/
theorem everyStepKeepsTheCoilLaw : Obligations.EveryStepKeepsTheCoilLaw := by
  unfold Obligations.EveryStepKeepsTheCoilLaw
  intro s t h ht
  unfold step at ht
  split at ht
  · obtain rfl : s.tick = t := by simpa using ht
    exact h.steady (Steady.refl.only (Only.withTime (by decide) Only.refl _))
  · exact exec_keeps_coilLaw (h.steady (Steady.refl.only (Only.withPending (by decide) Only.refl _))) ht

end

section
/-! PROOFS. TRIP_CLAIM and OPEN_CLAIM in every breaker state (R54, R56, R58, R61, R62). -/

namespace Sys2Proof.Machine

/-- A state that differs in the listed fields alone, written out. -/
theorem Only.eq {fs : List Fld} {s t : State} (k : Only fs s t) :
    t =
      { localTime := if .localTime ∈ fs then t.localTime else s.localTime
        pins := if .pins ∈ fs then t.pins else s.pins
        settings := if .settings ∈ fs then t.settings else s.settings
        siu := if .siu ∈ fs then t.siu else s.siu
        cme := if .cme ∈ fs then t.cme else s.cme
        pes := if .pes ∈ fs then t.pes else s.pes
        bkc := if .bkc ∈ fs then t.bkc else s.bkc
        cds := if .cds ∈ fs then t.cds else s.cds
        sli := if .sli ∈ fs then t.sli else s.sli
        ptb := if .ptb ∈ fs then t.ptb else s.ptb
        syn := if .syn ∈ fs then t.syn else s.syn
        lsc := if .lsc ∈ fs then t.lsc else s.lsc
        csq := if .csq ∈ fs then t.csq else s.csq
        drc := if .drc ∈ fs then t.drc else s.drc
        ssc := if .ssc ∈ fs then t.ssc else s.ssc
        due := if .due ∈ fs then t.due else s.due
        freeCount := if .freeCount ∈ fs then t.freeCount else s.freeCount
        pending := if .pending ∈ fs then t.pending else s.pending } := by
  have field {α : Type} (f : Fld) (x y : α) (h : f.same s t → x = y) : x = if f ∈ fs then x else y := by
    split
    · rfl
    · exact h (k.get f ‹_›)
  rw [← field .localTime t.localTime s.localTime id, ← field .pins t.pins s.pins id,
    ← field .settings t.settings s.settings id, ← field .siu t.siu s.siu id, ← field .cme t.cme s.cme id,
    ← field .pes t.pes s.pes id, ← field .bkc t.bkc s.bkc id, ← field .cds t.cds s.cds id,
    ← field .sli t.sli s.sli id, ← field .ptb t.ptb s.ptb id, ← field .syn t.syn s.syn id,
    ← field .lsc t.lsc s.lsc id, ← field .csq t.csq s.csq id, ← field .drc t.drc s.drc id,
    ← field .ssc t.ssc s.ssc id, ← field .due t.due s.due id, ← field .freeCount t.freeCount s.freeCount id,
    ← field .pending t.pending s.pending id]

/-- What a drive writes of the breaker record: the state, its timers and the last purpose. -/
theorem driveOpen_bkc (purpose : Purpose) (s : State) :
    let b := (driveOpen purpose s).bkc
    b = { s.bkc with
      state := b.state, lastPurpose := b.lastPurpose, discrepancyTimer := b.discrepancyTimer
      closePulse := b.closePulse, closingTimer := b.closingTimer, tripPulse := b.tripPulse
      stuckTimer := b.stuckTimer } := by
  obtain closed | ⟨stuck, idle⟩ | rest := driveOpen_rows s.bkc
  · rw [driveOpen_of_closed closed]
    rfl
  · rw [driveOpen_of_stuck stuck idle, tripPulse_eq]
    rfl
  · rw [driveOpen_of_open rest]

/-- A drive starts no diagnostic run. -/
theorem driveOpen_run (purpose : Purpose) {s : State} (h : s.cds.run = none) : (driveOpen purpose s).cds.run = none := by
  obtain closed | ⟨stuck, idle⟩ | rest := driveOpen_rows s.bkc
  · simp [driveOpen_of_closed closed]
  · simp [driveOpen_of_stuck stuck idle]
  · rwa [driveOpen_of_open rest]

@[simp] theorem driveOpen_localTime (purpose : Purpose) (s : State) :
    (driveOpen purpose s).localTime = s.localTime :=
  (Only.driveOpen (fs := [.bkc, .cds]) purpose (by decide) (by decide) Only.refl).get .localTime (by decide)

@[simp] theorem synTrip_localTime (closing : Bool) (s : State) : (synTrip closing s).localTime = s.localTime :=
  (Only.synTrip (fs := [.due, .sli, .syn]) closing (by decide) (by decide) (by decide) Only.refl).get .localTime
    (by decide)

section rows
variable (purpose : Purpose) {s : State}

/-- The first row of R54, after the abort of a diagnostic run. -/
theorem driven_closed (closed : s.bkc.state ∈ ([.closed, .closing, .discrepant] : List BreakerState)) :
    let d := driveOpen purpose (abortRun s)
    d.bkc.state = .opening ∧ d.cds.tripOut = true ∧ d.cds.closeOut = false ∧
      d.bkc.tripPulse = some (s.localTime + 200) ∧ d.bkc.stuckTimer = some (s.localTime + 300) ∧
      d.bkc.closingTimer = none ∧ d.bkc.lastPurpose = some purpose := by
  rw [driveOpen_of_closed (by simpa using closed)]
  simp

/-- The row of a stuck breaker (R56). -/
theorem driven_stuck (stuck : s.bkc.state = .stuckClosed) :
    let d := driveOpen purpose (abortRun s)
    d.bkc.state = .stuckClosed ∧ (s.bkc.tripPulse = none → d.cds.tripOut = true ∧
      d.bkc.tripPulse = some (s.localTime + 200) ∧ d.bkc.lastPurpose = some purpose) := by
  cases idle : s.bkc.tripPulse with
  | none =>
    rw [driveOpen_of_stuck (by simpa using stuck) (by simpa using idle), tripPulse_eq]
    simp [stuck]
  | some due =>
    rw [driveOpen_of_open (.inr (by simp [stuck, idle]))]
    simp [stuck]

/-- The rows of a breaker that the claim leaves. -/
theorem driven_rest (rest : s.bkc.state ∈ ([.opening, .opened, .withdrawn] : List BreakerState) ∨
    (s.bkc.state = .stuckClosed ∧ s.bkc.tripPulse.isSome)) :
    let d := driveOpen purpose (abortRun s)
    d.bkc = s.bkc ∧ d.cds.tripOut = s.cds.tripOut := by
  rw [driveOpen_of_open (by simpa using rest)]
  simp

end rows

/-- A trip taken: the breaker as it is driven, with its cause recorded, lockout set and breaker failure armed. -/
theorem takeTrip_bkc (cause : TripCause) (st : Settings) (s : State) :
    (takeTrip cause st s).bkc =
      { (driveOpen .protection (abortRun s)).bkc with
        closePulse := none, lockout := true, lastTrip := some cause
        lockoutPulse := if s.bkc.lockout then s.bkc.lockoutPulse
          else some { onSet := true, due := s.localTime + 50 }
        bfTimer := if s.bkc.bfTimer.isSome then s.bkc.bfTimer
          else some { start := s.localTime, due := s.localTime + BitVec.ofNat 32 st.brk.bfMs } } := by
  have driven := driveOpen_bkc .protection (abortRun s)
  have lockout : (driveOpen .protection (abortRun s)).bkc.lockout = s.bkc.lockout := by rw [driven]; simp
  have pulse : (driveOpen .protection (abortRun s)).bkc.lockoutPulse = s.bkc.lockoutPulse := by rw [driven]; simp
  have armed : (driveOpen .protection (abortRun s)).bkc.bfTimer = s.bkc.bfTimer := by rw [driven]; simp
  have told := (Steady.refl (s := driveOpen .protection (abortRun s))).synTrip (s.bkc.state == .closing)
  unfold takeTrip
  simp only [armFailure_eq, setLockout_eq, State.withBkc_bkc, State.withBkc_localTime, State.withCds_localTime,
    synTrip_localTime, abortAndOpen, told.bkc, lockout, pulse, armed, driveOpen_localTime, abortRun_localTime]

theorem takeTrip_cds (cause : TripCause) (st : Settings) (s : State) :
    (takeTrip cause st s).cds = (driveOpen .protection (abortRun s)).cds.stopped .close := by
  have told := (Steady.refl (s := driveOpen .protection (abortRun s))).synTrip (s.bkc.state == .closing)
  unfold takeTrip
  simp only [armFailure_eq, setLockout_eq, State.withBkc_cds, State.withCds_cds, abortAndOpen, told.cds]

theorem takeOpening_bkc (purpose : Purpose) (s : State) :
    (takeOpening purpose s).bkc = (driveOpen purpose (abortRun s)).bkc :=
  Steady.refl.synCancel.bkc

theorem takeOpening_cds (purpose : Purpose) (s : State) :
    (takeOpening purpose s).cds = (driveOpen purpose (abortRun s)).cds :=
  Steady.refl.synCancel.cds

/-- A claim of a station at work with settings in force is taken. -/
theorem State.atWork_of_work {s : State} {st : Settings} {act : Settings → State → State}
    (set : s.settings = some st) (work : s.ssc.station.atWork = true) : s.atWork act = act st s := by
  simp [State.atWork, set, work]

/-- The fields that a trip or open claim writes. -/
def drivenFields : List Fld := [.bkc, .cds, .sli, .syn, .lsc, .due]

theorem drivenFields_eq {s t : State} (k : Only drivenFields s t) :
    t = { s with bkc := t.bkc, cds := t.cds, sli := t.sli, syn := t.syn, lsc := t.lsc, due := t.due } := by
  simpa [drivenFields] using k.eq

theorem tripClaim_taken {s : State} {st : Settings} (set : s.settings = some st) (work : s.ssc.station.atWork = true)
    (cause : ElementNo) (detail : Byte) :
    ∃ t, exec (.tripClaim cause detail) s = .next t ∧ Only drivenFields s t ∧
      t.bkc = (takeTrip { element := cause, detail := detail } st (s.take (.tripClaim cause detail))).bkc ∧
      t.cds = (takeTrip { element := cause, detail := detail } st (s.take (.tripClaim cause detail))).cds := by
  have taken : Only drivenFields s (takeTrip { element := cause, detail := detail } st
      (s.take (.tripClaim cause detail))) :=
    Only.takeTrip _ st (by decide) (by decide) (by decide) (by decide) (by decide)
      (Only.take _ (by decide) Only.refl)
  refine ⟨_, rfl, ?_⟩
  rw [State.atWork_of_work (s := s.take (.tripClaim cause detail)) set work]
  exact ⟨Only.publish s (by decide) (taken.settle (by decide) (by decide)), by simp, by simp⟩

theorem openClaim_taken {s : State} {st : Settings} (set : s.settings = some st) (work : s.ssc.station.atWork = true)
    (purpose : OpenPurpose) :
    ∃ t, exec (.openClaim purpose) s = .next t ∧ Only drivenFields s t ∧
      t.bkc = (driveOpen (openPurpose purpose) (abortRun (s.take (.openClaim purpose)))).bkc ∧
      t.cds = (driveOpen (openPurpose purpose) (abortRun (s.take (.openClaim purpose)))).cds := by
  have taken : Only drivenFields s (takeOpening (openPurpose purpose) (s.take (.openClaim purpose))) :=
    Only.takeOpening _ (by decide) (by decide) (by decide) (by decide) (by decide)
      (Only.take _ (by decide) Only.refl)
  refine ⟨_, rfl, ?_⟩
  rw [State.atWork_of_work (s := s.take (.openClaim purpose)) set work]
  exact ⟨Only.publish s (by decide) (taken.settle (by decide) (by decide)), by simp [takeOpening_bkc],
    by simp [takeOpening_cds]⟩

end Sys2Proof.Machine

open Sys2Proof Sys2Proof.Machine

/-- Settles O17: the table of R54 row by row, under the trip's own writes. -/
theorem tripAndOpenClaimsAreTaken : Obligations.TripAndOpenClaimsAreTaken := by
  unfold Obligations.TripAndOpenClaimsAreTaken
  constructor
  · intro s st cause detail set work
    obtain ⟨t, ht, frame, bkc, cds⟩ := tripClaim_taken set work cause detail
    have driven := driveOpen_bkc .protection (abortRun (s.take (.tripClaim cause detail)))
    rw [takeTrip_bkc] at bkc
    rw [takeTrip_cds] at cds
    refine ⟨t, ht, drivenFields_eq frame, by rw [bkc], by rw [bkc], by rw [bkc]; rfl, by rw [bkc]; rfl,
      by rw [cds]; simp, by rw [bkc], by rw [cds]; simpa using driveOpen_run _ (abortRun_run _), fun closed => ?_,
      fun stuck => ?_, fun rest => ?_, ?_⟩
    · obtain ⟨state, trip, -, pulse, timer, closing, purpose⟩ :=
        driven_closed .protection (s := s.take (.tripClaim cause detail)) closed
      exact ⟨by rw [bkc, state], by simpa [cds] using trip, by simpa [bkc] using pulse, by simpa [bkc] using timer,
        by simpa [bkc] using closing, by simpa [bkc] using purpose⟩
    · simpa [bkc, cds] using driven_stuck .protection (s := s.take (.tripClaim cause detail)) stuck
    · obtain ⟨record, trip⟩ := driven_rest .protection (s := s.take (.tripClaim cause detail)) rest
      rw [record] at bkc
      simpa [bkc, cds] using trip
    · rw [bkc, driven]
      simp
  · intro s st purpose set work
    obtain ⟨t, ht, frame, bkc, cds⟩ := openClaim_taken set work purpose
    have driven := driveOpen_bkc (openPurpose purpose) (abortRun (s.take (.openClaim purpose)))
    rw [← bkc] at driven
    refine ⟨t, ht, drivenFields_eq frame, by rw [driven]; simp, by rw [driven]; simp, by rw [driven]; simp,
      by rw [driven]; simp, by rw [driven]; simp,
      by rw [cds]; simpa using driveOpen_run _ (abortRun_run _), fun closed => ?_, fun stuck => ?_, fun rest => ?_⟩
    · rw [bkc, cds]
      exact driven_closed _ (s := s.take (.openClaim purpose)) closed
    · rw [bkc, cds]
      exact driven_stuck _ (s := s.take (.openClaim purpose)) stuck
    · rw [bkc, cds]
      exact driven_rest _ (s := s.take (.openClaim purpose)) rest

end

section
/-! PROOFS. CLOSE_CLAIM (R49 to R51): the checks, the closing that a taken claim starts, and what each claimant learns
(R128, R137, R138, R174). -/

namespace Sys2Proof.Machine

variable {s : State} {st : Settings} {purpose : ClosePurpose}

/-! ### The checks -/

/-- A condition on the latest record that is not WARMUP. -/
theorem goodRecord_any_iff (p : Record → Bool) :
    s.goodRecord.any p = true ↔ ∃ r, s.cme.record = some r ∧ r.warmup = false ∧ p r = true := by
  unfold State.goodRecord
  cases s.cme.record with
  | none => simp
  | some r => cases h : r.warmup <;> simp [Option.filter, h]

theorem purposeHolds_iff :
    s.purposeHolds st purpose = true ↔
      (purpose = .deadBus → ∃ r, s.cme.record = some r ∧ r.warmup = false ∧ r.bus = .dead) ∧
      (purpose = .feeder → ∃ r, s.cme.record = some r ∧ r.warmup = false ∧ r.bus = .live ∧
        (st.brk.lineVtFitted = true → r.line ≠ .live)) := by
  cases purpose
  · simp [State.purposeHolds]
  · simp [State.purposeHolds, goodRecord_any_iff]
  · have line (r : Record) : (!st.brk.lineVtFitted || r.line != .live) = true ↔
        (st.brk.lineVtFitted = true → r.line ≠ .live) := by
      cases st.brk.lineVtFitted <;> simp
    simp only [State.purposeHolds, goodRecord_any_iff, Bool.and_eq_true, beq_iff_eq, line]
    simp

/-- A close claim is taken exactly when every check holds (R49, R50). -/
theorem closeAnswer_taken_iff :
    s.closeAnswer st purpose = .taken ↔ s.generalCheck = none ∧ s.purposeHolds st purpose = true := by
  constructor
  · intro taken
    have passed := generalCheck_of_taken taken
    refine ⟨passed, ?_⟩
    by_contra fails
    simp [State.closeAnswer, passed, fails] at taken
  · rintro ⟨passed, holds⟩
    simp [State.closeAnswer, passed, holds]

/-! ### The closing -/

/-- A close taken: CLOSING, with the close pulse and the CLOSING timer started (R51). -/
theorem takeClose_eq :
    takeClose purpose st s = (s.withCds (energize .close s).cds).withBkc { s.bkc with
      state := .closing, discrepancyTimer := none, lastPurpose := some (closePurpose purpose)
      closePulse := some (s.localTime + BitVec.ofNat 32 st.brk.closePulseMs)
      closingTimer := some (s.localTime + 250) } := by
  unfold takeClose
  dsimp only
  rw [passTo_of_closing _ (.inl rfl), energize_eq]
  rfl

/-! ### What the claimant learns -/

@[simp] theorem Sli.begin_claimSlot (l : Sli) (identity : BitVec 48) (slot : Slot) :
    (l.begin identity slot).claimSlot = l.claimSlot := rfl

/-- The frame that begins at the end of a command leaves the claim slot. -/
@[simp] theorem settle_claimSlot (u : State) : (settle u).sli.claimSlot = u.sli.claimSlot := by
  rw [settle_sli]
  split <;> simp

/-- The synchronizer's record once a close claim is taken (R128, R137). -/
def Syn.claimTaken (y : Syn) : ClosePurpose → Syn
  | .sync => y.syncTaken
  | .deadBus => y.deadTaken
  | .feeder => y

/-- The sequencer's record once a close claim is taken (R174). -/
def Csq.claimTaken (c : Csq) (purpose : ClosePurpose) : Csq :=
  if purpose = .feeder ∧ c.state = .restoring then { c with restoreTaken := true } else c

theorem tellTaken_eq :
    tellTaken purpose s = (s.withSyn (s.syn.claimTaken purpose)).withCsq (s.csq.claimTaken purpose) := by
  cases purpose
  · rfl
  · rfl
  · by_cases restoring : s.csq.state = .restoring
    · simp only [tellTaken, tellFeederTaken, Csq.claimTaken, restoring, and_self, if_true]
      rfl
    · simp only [tellTaken, tellFeederTaken, Csq.claimTaken, restoring, and_false, if_false]
      rfl

/-- A SYNC claim taken is in flight, with the correction withdrawn (R128, R130). -/
theorem syncTaken_facts (y : Syn) :
    y.syncTaken.closeInFlight = true ∧ y.syncTaken.syncTimer = none ∧ y.syncTaken.correction = false ∧
      y.syncTaken.avrRaise = false ∧ y.syncTaken.avrLower = false ∧ y.syncTaken.state = y.state ∧
      y.syncTaken.request = y.request ∧ y.syncTaken.claim = y.claim ∧ y.syncTaken.refusalTimer = y.refusalTimer := by
  simp [Syn.syncTaken, Syn.avrOff, Syn.correction]

theorem deadTaken_of_won {y : Syn} {c : Claim} (h : y.claim = some c) (won : c.phase = .won) :
    y.deadTaken = { y with closeTaken := true, syncTimer := none } := by
  simp [Syn.deadTaken, h, won]

theorem deadTaken_of_not_won {y : Syn} (h : ∀ c, y.claim = some c → c.phase ≠ .won) : y.deadTaken = y := by
  cases hc : y.claim with
  | none => simp [Syn.deadTaken, hc]
  | some c => simp [Syn.deadTaken, hc, h c hc]

theorem deadRefused_of_not_won (h : ∀ c, s.syn.claim = some c → c.phase ≠ .won) : deadRefused s = s := by
  cases hc : s.syn.claim with
  | none => simp [deadRefused, hc]
  | some c => simp [deadRefused, hc, h c hc]

/-- A WON claim refused is given up, and the refusal wait starts (R138). -/
theorem deadRefused_of_won {c : Claim} (h : s.syn.claim = some c) (won : c.phase = .won) :
    deadRefused s = (s.withSli s.sli.giveUpClaim).withSyn
      { s.syn.dropClaim.resume with refusalTimer := s.after 1000 } := by
  simp [deadRefused, h, won, giveUpClaim]
  rfl

/-- With an empty claim slot a claim given up leaves its CLAIM_WITHDRAW there (R135). -/
theorem Sli.giveUpClaim_of_empty {l : Sli} (empty : l.claimSlot = none) (free : l.conflict = none) :
    l.giveUpClaim.claimSlot = some .withdraw := by
  simp [Sli.giveUpClaim, Sli.claimWaits, empty, Sli.placeClaim, Sli.whenOnAir, free]

theorem tellFeederRefused_of_restoring (set : s.settings = some st) (restoring : s.csq.state = .restoring) :
    (tellFeederRefused s).csq.state = .shed ∧ (tellFeederRefused s).csq.shedCause = s.csq.shedCause ∧
      (tellFeederRefused s).csq.restoreWait = some (s.localTime + 1000) ∧
      (tellFeederRefused s).csq.shedSettle = some (s.localTime + BitVec.ofNat 32 st.csq.shedSettleMs) := by
  simp [tellFeederRefused, set, restoring, enterShed, State.after]

theorem tellFeederRefused_of_not_restoring (h : s.csq.state ≠ .restoring) : tellFeederRefused s = s := by
  unfold tellFeederRefused State.inForce
  split <;> simp [h]

/-! ### The command -/

/-- The checks of R49 and R50 decide, and the claimant learns of it. -/
theorem closeClaim_effect (set : s.settings = some st) (work : s.ssc.station.atWork = true) :
    exec (.closeClaim purpose) s = done s
      (if s.closeAnswer st purpose = .taken then
        tellTaken purpose (takeClose purpose st (s.take (.closeClaim purpose)))
      else tellRefused purpose (s.take (.closeClaim purpose))) :=
  congrArg (done s) (State.atWork_of_work (s := s.take (.closeClaim purpose)) set work)

/-- The fields that a close claim writes, whatever comes of it. -/
theorem closeClaim_frame (set : s.settings = some st) (work : s.ssc.station.atWork = true) {t : State}
    (h : exec (.closeClaim purpose) s = .next t) : Only [.bkc, .cds, .sli, .syn, .lsc, .csq, .due] s t := by
  rw [closeClaim_effect set work] at h
  refine done_only (by decide) (by decide) (by decide) ?_ h
  split
  · exact Only.tellTaken _ (by decide) (by decide)
      (Only.takeClose _ _ (by decide) (by decide) (Only.take _ (by decide) Only.refl))
  · exact Only.tellRefused _ (by decide) (by decide) (by decide) (Only.take _ (by decide) Only.refl)

/-- A claim taken: the closing has started, and the claimant knows. -/
theorem closeClaim_taken (set : s.settings = some st) (work : s.ssc.station.atWork = true)
    (taken : s.closeAnswer st purpose = .taken) {t : State} (h : exec (.closeClaim purpose) s = .next t) :
    t.bkc = (takeClose purpose st s).bkc ∧ t.cds.closeOut = true ∧ t.cds.tripOut = s.cds.tripOut ∧ t.cds.run = none ∧
      t.sli.claimSlot = s.sli.claimSlot ∧
      t.syn = s.syn.claimTaken purpose ∧ t.csq = s.csq.claimTaken purpose := by
  rw [closeClaim_effect set work, if_pos taken, takeClose_eq, tellTaken_eq] at h
  obtain rfl := Host.Outcome.next.inj h
  rw [takeClose_eq]
  simp

/-- A claim refused: the breaker and the coils stand, and the claimant knows. -/
theorem closeClaim_refused (set : s.settings = some st) (work : s.ssc.station.atWork = true)
    (refused : s.closeAnswer st purpose ≠ .taken) {t : State} (h : exec (.closeClaim purpose) s = .next t) :
    t.bkc = s.bkc ∧ t.cds = s.cds ∧ t.sli.claimSlot = (tellRefused purpose (s.take (.closeClaim purpose))).sli.claimSlot ∧
      t.syn = (tellRefused purpose (s.take (.closeClaim purpose))).syn ∧
      t.csq = (tellRefused purpose (s.take (.closeClaim purpose))).csq := by
  rw [closeClaim_effect set work, if_neg refused] at h
  obtain rfl := Host.Outcome.next.inj h
  have told : Only [.sli, .syn, .csq, .due] s (tellRefused purpose (s.take (.closeClaim purpose))) :=
    Only.tellRefused _ (by decide) (by decide) (by decide) (Only.take _ (by decide) Only.refl)
  have bkc : (tellRefused purpose (s.take (.closeClaim purpose))).bkc = s.bkc := told.get .bkc (by decide)
  have cds : (tellRefused purpose (s.take (.closeClaim purpose))).cds = s.cds := told.get .cds (by decide)
  simpa using And.intro bkc cds

end Sys2Proof.Machine

open Sys2Proof Sys2Proof.Machine

/-- Settles O18: the checks decide, and each claimant takes the answer by its own record. -/
theorem closeClaimIsChecked : Obligations.CloseClaimIsChecked := by
  unfold Obligations.CloseClaimIsChecked
  intro s st purpose set work purposeCheck checks
  have answer : checks ↔ s.closeAnswer st purpose = .taken := by
    rw [closeAnswer_taken_iff, generalCheck_none_iff, purposeHolds_iff]
    simp only [checks, and_assoc]
    rfl
  obtain ⟨t, ht⟩ : ∃ t, exec (.closeClaim purpose) s = .next t := ⟨_, closeClaim_effect set work⟩
  have frame := closeClaim_frame set work ht
  refine ⟨t, ht, ?_, ?_, ?_, ?_, ?_, frame.get .localTime (by decide), frame.get .pes (by decide),
    frame.get .cme (by decide), frame.get .siu (by decide), frame.get .drc (by decide), frame.get .settings (by decide)⟩
  · intro passed
    obtain ⟨bkc, close, trip, run, -, -, -⟩ := closeClaim_taken set work (answer.1 passed) ht
    obtain ⟨-, -, lockout, -, -, idle, -⟩ := passed
    rw [bkc, takeClose_eq]
    exact ⟨rfl, close, trip.trans idle, run, rfl, rfl, rfl, lockout, rfl, rfl, rfl⟩
  · intro fails
    obtain ⟨bkc, cds, -⟩ := closeClaim_refused set work (mt answer.2 fails) ht
    exact ⟨bkc, cds⟩
  · rintro rfl
    by_cases passed : checks
    · obtain ⟨-, -, -, -, slot, syn, csq⟩ := closeClaim_taken set work (answer.1 passed) ht
      rw [syn]
      exact ⟨by simpa [Csq.claimTaken] using csq, slot, fun _ => syncTaken_facts s.syn, fun fails => absurd passed fails,
        fun fails => absurd passed fails⟩
    · obtain ⟨-, -, slot, syn, csq⟩ := closeClaim_refused set work (mt answer.2 passed) ht
      rw [syn, csq, slot]
      obtain ⟨held, e⟩ | ⟨free, e⟩ := syncRefused_cases (s.take (.closeClaim .sync))
      · refine ⟨by simp [tellRefused, e], by simp [tellRefused, e], fun k => absurd k passed, fun _ _ => ?_,
          fun _ free => ?_⟩
        · simp [tellRefused, e, Syn.syncRefused, State.after]
        · simp [free] at held
      · refine ⟨by simp [tellRefused, e], by simp [tellRefused, e], fun k => absurd k passed, fun _ held => ?_,
          fun _ _ => by simp [tellRefused, e]⟩
        have free : s.syn.request = none := free
        simp [free] at held
  · rintro rfl
    by_cases passed : checks
    · obtain ⟨-, -, -, -, slot, syn, csq⟩ := closeClaim_taken set work (answer.1 passed) ht
      have syn : t.syn = s.syn.deadTaken := syn
      refine ⟨by simpa [Csq.claimTaken] using csq, fun out => by rw [syn, deadTaken_of_not_won out],
        fun c hc won => ⟨fun _ => ?_, fun fails => absurd passed fails⟩⟩
      rw [syn, deadTaken_of_won hc won]
      exact ⟨hc, rfl, rfl, rfl, slot⟩
    · obtain ⟨-, -, slot, syn, csq⟩ := closeClaim_refused set work (mt answer.2 passed) ht
      simp only [tellRefused] at slot syn csq
      refine ⟨?_, fun out => ?_, fun c hc won => ⟨fun k => absurd k passed, fun _ => ?_⟩⟩
      · rw [csq]
        exact (Only.deadRefused (fs := [.sli, .syn]) (by decide) (by decide) Only.refl).get .csq (by decide)
      · rw [syn, deadRefused_of_not_won (s := s.take (.closeClaim .deadBus)) out]
        rfl
      · rw [deadRefused_of_won (s := s.take (.closeClaim .deadBus)) hc won] at slot syn
        rw [syn]
        exact ⟨rfl, rfl, rfl, rfl, rfl, rfl, fun empty free => slot.trans (Sli.giveUpClaim_of_empty empty free)⟩
  · rintro rfl
    by_cases passed : checks
    · obtain ⟨-, -, -, -, -, syn, csq⟩ := closeClaim_taken set work (answer.1 passed) ht
      exact ⟨syn, fun out => by simpa [Csq.claimTaken, out] using csq,
        fun restoring => ⟨fun _ => by simpa [Csq.claimTaken, restoring] using csq, fun fails => absurd passed fails⟩⟩
    · obtain ⟨-, -, -, syn, csq⟩ := closeClaim_refused set work (mt answer.2 passed) ht
      simp only [tellRefused] at syn csq
      refine ⟨?_, fun out => ?_, fun restoring => ⟨fun k => absurd k passed, fun _ => ?_⟩⟩
      · rw [syn]
        exact (Only.tellFeederRefused (fs := [.csq]) (by decide) Only.refl).get .syn (by decide)
      · rw [csq, tellFeederRefused_of_not_restoring (s := s.take (.closeClaim .feeder)) out]
        rfl
      · rw [csq]
        exact tellFeederRefused_of_restoring (s := s.take (.closeClaim .feeder)) set restoring

end

section
/-! PROOFS. The ends of the pulses and of the timers of a movement (R46, R51, R52, R55, R62, R71). -/

namespace Sys2Proof.Machine

variable {s u : State}

/-! ### The end of a command after such an event -/

/-- An effect that leaves the link and the station state leaves nothing to send. -/
theorem settle_sli_of_line (line : LineSettled s) (station : u.ssc.station = s.ssc.station) (sli : u.sli = s.sli) :
    (settle u).sli = s.sli := by
  rw [settle_sli, nextSlot_congr station sli, line.nextSlot, sli]

/-- An effect that leaves the breaker state besides leaves no ZERO condition to act on. -/
theorem settle_of_still (h : Settled s) (k : Only [.localTime, .bkc, .cds, .due] s u)
    (state : u.bkc.state = s.bkc.state) : settle u = u := by
  have ssc : u.ssc = s.ssc := k.get .ssc (by decide)
  have sli : u.sli = s.sli := k.get .sli (by decide)
  have lsc : u.lsc = s.lsc := k.get .lsc (by decide)
  have syn : u.syn = s.syn := k.get .syn (by decide)
  have zero : u.zeroHolds = s.zeroHolds :=
    zeroHolds_congr (k.get .settings (by decide)) (by rw [ssc]) state (by rw [syn])
  refine settle_of_settled ?_
  unfold Settled ZeroSettled LineSettled at *
  rwa [zero, lsc, ssc, sli]

/-- The outcome is then the effect, but for the ledger. -/
theorem done_of_still (h : Settled s) (k : Only [.localTime, .bkc, .cds, .due] s u)
    (state : u.bkc.state = s.bkc.state) : ∃ t, done s u = .next t ∧ t = u.withDue t.due := by
  refine ⟨_, rfl, ?_⟩
  rw [settle_of_still h k state]
  exact publish_eq s u

/-- An effect on the breaker and the time leaves a line that is settled, and may bring the load share controller to
ZERO. -/
theorem done_of_movement (line : LineSettled s) (k : Only [.localTime, .bkc, .cds, .due] s u) :
    ∃ t, done s u = .next t ∧ t = (u.withLsc t.lsc).withDue t.due := by
  have ssc : u.ssc = s.ssc := k.get .ssc (by decide)
  have sli : u.sli = s.sli := k.get .sli (by decide)
  refine ⟨_, rfl, ?_⟩
  rw [publish_eq, settle_eq, settle_sli_of_line line (by rw [ssc]) sli, ← sli]
  rfl

/-! ### The events -/

@[simp] theorem State.withBkc_contacts (x : Bkc) : (s.withBkc x).contacts = s.contacts := rfl

@[simp] theorem State.withTime_contacts (x : Time) : (s.withTime x).contacts = s.contacts := rfl

/-- A pulse that ran at its setting from start to end clears DRIVE_REDUCED (R71). -/
theorem Cds.stopped_of_out {c : Cds} {coil : Coil} (h : c.out coil = true) :
    c.stopped coil = { c.setOut coil false with reduced := c.lowered && c.reduced } := if_pos h

theorem closePulseEnd_effect {due : Time} (pulse : s.bkc.closePulse = some due) :
    exec .closePulseEnd s = done s (((s.reach due).withCds (s.cds.stopped .close)).withBkc
      { s.bkc with closePulse := none }) := by
  show done s (expire s.bkc.closePulse s closeOff) = _
  rw [pulse, expire_some, closeOff_eq]
  simp

theorem tripPulseEnd_effect {due : Time} (pulse : s.bkc.tripPulse = some due) :
    exec .tripPulseEnd s = done s (((s.reach due).withCds (s.cds.stopped .trip)).withBkc
      { s.bkc with tripPulse := none }) := by
  show done s (expire s.bkc.tripPulse s tripOff) = _
  rw [pulse, expire_some, tripOff_eq]
  simp

theorem lockoutPulseEnd_effect {p : LockoutPulse} (pulse : s.bkc.lockoutPulse = some p) :
    exec .lockoutPulseEnd s = done s ((s.reach p.due).withBkc { s.bkc with lockoutPulse := none }) := by
  show done s (expire (s.bkc.lockoutPulse.map fun p => p.due) s _) = _
  rw [pulse]
  simp

/-- CLOSING that does not end in time: OPEN, with FAILED_TO_CLOSE (R52). -/
theorem closingTimerExpiry_effect {due : Time} (timer : s.bkc.closingTimer = some due)
    (closing : s.bkc.state = .closing) :
    exec .closingTimerExpiry s = done s (((s.reach due).withCds (s.cds.stopped .close)).withBkc
      { s.bkc with
        state := .opened, failedToClose := true, closingTimer := none, closePulse := none
        discrepancyTimer := none }) := by
  show done s (expire s.bkc.closingTimer s _) = _
  rw [timer, expire_some, State.reach_eq]
  refine congrArg (done s) ((if_pos closing).trans ?_)
  rw [passTo_of_not_closing _ (by decide)]
  rfl

/-- OPENING that does not end in time: STUCK_CLOSED with its alarm (R55). -/
theorem stuckTimerExpiry_stuck {due : Time} (timer : s.bkc.stuckTimer = some due) (opening : s.bkc.state = .opening)
    (contacts : s.contacts ≠ .opened) :
    exec .stuckTimerExpiry s = done s (((s.reach due).withCds (s.cds.stopped .close)).withBkc
      { s.bkc with
        state := .stuckClosed, stuckAlarm := true, stuckTimer := none, closePulse := none
        discrepancyTimer := none }) := by
  show done s (expire s.bkc.stuckTimer s _) = _
  rw [timer, expire_some, State.reach_eq]
  refine congrArg (done s) ((if_neg (not_not.2 opening)).trans ((if_neg contacts).trans ?_))
  rw [passTo_of_not_closing _ (by decide)]
  rfl

/-- Contacts that show open at the expiry end the trip (notes/assumptions/48). -/
theorem stuckTimerExpiry_opened {due : Time} (timer : s.bkc.stuckTimer = some due) (opening : s.bkc.state = .opening)
    (contacts : s.contacts = .opened) :
    exec .stuckTimerExpiry s = done s (((s.reach due).withCds ((s.cds.stopped .trip).stopped .close)).withBkc
      { s.bkc with
        state := .opened, stuckTimer := none, tripPulse := none, closePulse := none, discrepancyTimer := none }) := by
  show done s (expire s.bkc.stuckTimer s _) = _
  rw [timer, expire_some, State.reach_eq]
  refine congrArg (done s) ((if_neg (not_not.2 opening)).trans ((if_pos contacts).trans ?_))
  rw [tripDone_eq]
  rfl

/-- Contacts that stay apart from the state: DISCREPANT (R46). -/
theorem discrepancyTimerExpiry_effect {due : Time} (timer : s.bkc.discrepancyTimer = some due)
    (state : s.bkc.state = .opened ∨ s.bkc.state = .closed) :
    exec .discrepancyTimerExpiry s = done s (((s.reach due).withCds (s.cds.stopped .close)).withBkc
      { s.bkc with state := .discrepant, discrepancyTimer := none, closePulse := none }) := by
  show done s (expire s.bkc.discrepancyTimer s _) = _
  rw [timer, expire_some, State.reach_eq]
  refine congrArg (done s) ((if_pos state).trans ?_)
  rw [passTo_of_not_closing _ (by decide)]
  rfl

/-- Such an effect writes the time, the breaker record and the coils alone. -/
theorem movement_only (due : Time) (c : Cds) (b : Bkc) :
    Only [.localTime, .bkc, .cds, .due] s (((s.reach due).withCds c).withBkc b) :=
  Only.withBkc (by decide) (Only.withCds (by decide) (Only.reach due (by decide) Only.refl) c) b

/-- The outcome of a movement: the breaker record and the coils as given, the time reached, and no more than ZERO. -/
theorem movement_outcome (line : LineSettled s) (due : Time) (c : Cds) (b : Bkc) :
    ∃ t, done s (((s.reach due).withCds c).withBkc b) = .next t ∧ t.bkc = b ∧ t.cds = c ∧
      t = { s with bkc := t.bkc, cds := t.cds, lsc := t.lsc, due := t.due, localTime := (s.reach due).localTime } := by
  obtain ⟨t, ht, e⟩ := done_of_movement line (movement_only due c b)
  have bkc : t.bkc = b := by rw [e]; rfl
  have cds : t.cds = c := by rw [e]; rfl
  refine ⟨t, ht, bkc, cds, ?_⟩
  rw [bkc, cds]
  rw [State.reach_eq] at e
  exact e

end Sys2Proof.Machine

open Sys2Proof Sys2Proof.Machine

/-- Settles O19: each end and expiry by its effect on the breaker record and the coils. -/
theorem breakerPulsesAndTimersEnd : Obligations.BreakerPulsesAndTimersEnd := by
  unfold Obligations.BreakerPulsesAndTimersEnd
  constructor
  · intro s settled
    refine ⟨fun due pulse on => ?_, fun due pulse on => ?_, fun p pulse => ?_⟩
    · obtain ⟨t, ht, e⟩ := done_of_still settled
        (movement_only due (s.cds.stopped .close) { s.bkc with closePulse := none }) rfl
      refine ⟨t, (closePulseEnd_effect pulse).trans ht, ?_⟩
      rw [Cds.stopped_of_out (coil := .close) on, State.reach_eq] at e
      exact e
    · obtain ⟨t, ht, e⟩ := done_of_still settled
        (movement_only due (s.cds.stopped .trip) { s.bkc with tripPulse := none }) rfl
      refine ⟨t, (tripPulseEnd_effect pulse).trans ht, ?_⟩
      rw [Cds.stopped_of_out (coil := .trip) on, State.reach_eq] at e
      exact e
    · have written : Only [.localTime, .bkc, .cds, .due] s
          ((s.reach p.due).withBkc { s.bkc with lockoutPulse := none }) :=
        Only.withBkc (by decide) (Only.reach _ (by decide) Only.refl) _
      obtain ⟨t, ht, e⟩ := done_of_still settled written rfl
      have idle : t.bkc.lockoutPulse = none := by rw [e]; rfl
      refine ⟨t, (lockoutPulseEnd_effect pulse).trans ht, by simp [State.lockoutSetOut, idle],
        by simp [State.lockoutClrOut, idle], ?_⟩
      rw [State.reach_eq] at e
      exact e
  · intro s due line
    refine ⟨fun timer closing => ?_, fun timer opening => ?_, fun timer state => ?_⟩
    · obtain ⟨t, ht, bkc, cds, e⟩ := movement_outcome line due _ _
      exact ⟨t, (closingTimerExpiry_effect timer closing).trans ht, e, bkc, by simp [cds], by simp [cds]⟩
    · by_cases contacts : s.contacts = .opened
      · obtain ⟨t, ht, bkc, cds, e⟩ := movement_outcome line due _ _
        exact ⟨t, (stuckTimerExpiry_opened timer opening contacts).trans ht, e, by simp [cds],
          fun k => absurd contacts k, fun _ => ⟨bkc, by simp [cds]⟩⟩
      · obtain ⟨t, ht, bkc, cds, e⟩ := movement_outcome line due _ _
        exact ⟨t, (stuckTimerExpiry_stuck timer opening contacts).trans ht, e, by simp [cds],
          fun _ => ⟨bkc, by simp [cds]⟩, fun k => absurd k contacts⟩
    · obtain ⟨t, ht, bkc, cds, e⟩ := movement_outcome line due _ _
      exact ⟨t, (discrepancyTimerExpiry_effect timer state).trans ht, e, bkc, by simp [cds], by simp [cds]⟩

end

section
/-! PROOFS. The BF timer and the re-check timer (R59, R60). -/

namespace Sys2Proof.Machine

variable {s u : State} {st : Settings}

/-- The current that keeps breaker failure: some phase of a record that is not WARMUP above the limit. -/
theorem phaseAbove_iff (limit : Nat) :
    s.phaseAbove limit = true ↔ ∃ r, s.cme.record = some r ∧ r.warmup = false ∧
      ∃ i : Fin 3, ∃ ms, r.ms[i.val + 4] = some ms ∧ limit < ms := by
  have phases (r : Record) : (r.ms[4].any (· > limit) || r.ms[5].any (· > limit) || r.ms[6].any (· > limit)) = true ↔
      ∃ i : Fin 3, ∃ ms, r.ms[i.val + 4] = some ms ∧ limit < ms := by
    simp only [Bool.or_eq_true, Option.any_eq_true, decide_eq_true_eq, gt_iff_lt, Fin.exists_fin_succ]
    simp [or_assoc]
  have any : s.phaseAbove limit = s.goodRecord.any fun r =>
      r.ms[4].any (· > limit) || r.ms[5].any (· > limit) || r.ms[6].any (· > limit) := by
    unfold State.phaseAbove
    cases s.goodRecord <;> rfl
  rw [any, goodRecord_any_iff]
  simp only [phases]

/-- The breaker fails with its contact closed or with that current (R59). -/
theorem breakerFailed_iff :
    s.breakerFailed st = true ↔ s.input .bkrClosed = true ∨ s.phaseAbove st.brk.bfpuSquared = true := by
  simp [State.breakerFailed]

theorem isOpenOrOut_iff (b : BreakerState) : b.isOpenOrOut = true ↔ b = .opened ∨ b = .withdrawn := by
  cases b <;> simp [BreakerState.isOpenOrOut]

/-- Breaker failure: a BF_TRANSFER notice, the close coil idle, lockout and the BF flag set, the re-check running. -/
theorem failBreaker_eq :
    failBreaker st s = ((s.withSli (s.sli.placeBf st.station.sections)).withCds (s.cds.stopped .close)).withBkc
      { s.bkc with
        closePulse := none, lockout := true, bfFlag := true
        lockoutPulse := if s.bkc.lockout then s.bkc.lockoutPulse else some { onSet := true, due := s.localTime + 50 }
        recheckTimer := if s.bkc.recheckTimer.isSome then s.bkc.recheckTimer else some (s.localTime + 20) } := by
  unfold failBreaker
  rw [setLockout_eq]
  rfl

theorem Sli.placeBf_bfSlot (l : Sli) (x : SectionSet) (free : l.conflict = none) : (l.placeBf x).bfSlot = some x := by
  simp [Sli.placeBf, Sli.whenOnAir, free]

@[simp] theorem Sli.begin_bfSlot (l : Sli) (identity : BitVec 48) (slot : Slot) :
    (l.begin identity slot).bfSlot = l.bfSlot := rfl

@[simp] theorem settle_bfSlot (u : State) : (settle u).sli.bfSlot = u.sli.bfSlot := by
  rw [settle_sli]
  split <;> simp

/-- A frame that begins leaves the breaker, and no ZERO condition is left to act on where the breaker state stands. -/
theorem settle_of_placed (zero : ZeroSettled s) (k : Only [.localTime, .bkc, .cds, .sli, .due] s u)
    (state : u.bkc.state = s.bkc.state) : settle u = u.withSli (settle u).sli := by
  have ssc : u.ssc = s.ssc := k.get .ssc (by decide)
  have lsc : u.lsc = s.lsc := k.get .lsc (by decide)
  have syn : u.syn = s.syn := k.get .syn (by decide)
  have holds : u.zeroHolds = s.zeroHolds :=
    zeroHolds_congr (k.get .settings (by decide)) (by rw [ssc]) state (by rw [syn])
  have stands : (settle u).lsc = u.lsc := by
    rw [settle_lsc, holds, lsc]
    split
    · next zeros => exact zero zeros
    · rfl
  rw [settle_eq, stands]
  rfl

/-- The re-check clears the flag, or runs on (R60). -/
def recheck (st : Settings) (s : State) : Bkc :=
  if s.bkc.state.isOpenOrOut && !s.phaseAbove st.brk.bfpuSquared then
    { s.bkc with bfFlag := false, recheckTimer := none }
  else { s.bkc with recheckTimer := s.after 20 }

theorem bfRecheckExpiry_effect {due : Time} (set : s.settings = some st) (timer : s.bkc.recheckTimer = some due) :
    exec .bfRecheckExpiry s = done s ((s.reach due).withBkc (recheck st (s.reach due))) := by
  show done s (expire s.bkc.recheckTimer s _) = _
  rw [timer, expire_some, State.inForce_some (s := s.reach due) (st := st) (by simpa using set)]
  unfold recheck
  split <;> rfl

/-- The state in which the BF timer decides. -/
def atBfTimer (due : Time) (s : State) : State := (s.reach due).withBkc { s.bkc with bfTimer := none }

theorem bfTimerExpiry_effect {b : BfRun} (set : s.settings = some st) (timer : s.bkc.bfTimer = some b) :
    exec .bfTimerExpiry s = done s (if s.breakerFailed st then failBreaker st (atBfTimer b.due s)
      else atBfTimer b.due s) := by
  show done s (expire (s.bkc.bfTimer.map fun t => t.due) s _) = _
  rw [timer, Option.map_some, expire_some]
  have start : (s.reach b.due).withBkc { (s.reach b.due).bkc with bfTimer := none } = atBfTimer b.due s := by
    rw [State.reach_bkc]
    rfl
  have same : (atBfTimer b.due s).breakerFailed st = s.breakerFailed st := by
    unfold atBfTimer
    rw [State.reach_eq]
    rfl
  rw [start, State.inForce_some (s := atBfTimer b.due s) (st := st) (by simpa [atBfTimer] using set), same]

theorem atBfTimer_only (due : Time) : Only [.localTime, .bkc, .cds, .due] s (atBfTimer due s) :=
  Only.withBkc (by decide) (Only.reach due (by decide) Only.refl) _

end Sys2Proof.Machine

open Sys2Proof Sys2Proof.Machine

/-- Settles O20: the timers by the outcome of their judgement. -/
theorem breakerFailureIsDecided : Obligations.BreakerFailureIsDecided := by
  unfold Obligations.BreakerFailureIsDecided
  intro s st set settled current
  have above : s.phaseAbove st.brk.bfpuSquared = true ↔ current := phaseAbove_iff _
  refine ⟨fun b timer => ?_, fun due timer => ?_⟩
  · rw [bfTimerExpiry_effect set timer, ← above, ← breakerFailed_iff]
    by_cases failed : s.breakerFailed st = true
    · rw [if_pos failed]
      have written : Only [.localTime, .bkc, .cds, .sli, .due] s (failBreaker st (atBfTimer b.due s)) :=
        Only.failBreaker st (by decide) (by decide) (by decide)
          (Only.withBkc (by decide) (Only.reach _ (by decide) Only.refl) _)
      have stands := settle_of_placed settled.1 written (by rw [failBreaker_eq]; rfl)
      refine ⟨_, rfl, ?_, ?_, ?_, fun _ => ?_, fun k => absurd failed k⟩
      · simp [failBreaker_eq, atBfTimer]
      · simp [failBreaker_eq, atBfTimer]
      · rw [publish_eq, stands, failBreaker_eq, atBfTimer, State.reach_eq]
        rfl
      · refine ⟨by simp [failBreaker_eq], by simp [failBreaker_eq], by simp [failBreaker_eq], ?_, fun free => ?_⟩
        · simp only [publish_bkc, settle_bkc, failBreaker_eq, State.withBkc_bkc]
          split <;> simp [*]
        · simp [failBreaker_eq, atBfTimer, Sli.placeBf_bfSlot _ _ free]
    · rw [if_neg failed]
      obtain ⟨t, ht, e⟩ := done_of_still settled (atBfTimer_only b.due) rfl
      rw [atBfTimer, State.reach_eq] at e
      exact ⟨t, ht, by rw [e]; rfl, by rw [e]; rfl, by rw [e]; rfl, fun k => absurd k failed,
        fun _ => by rw [e]; exact ⟨rfl, rfl, rfl⟩⟩
  · have written : Only [.localTime, .bkc, .cds, .due] s ((s.reach due).withBkc (recheck st (s.reach due))) :=
      Only.withBkc (by decide) (Only.reach _ (by decide) Only.refl) _
    have state : (recheck st (s.reach due)).state = s.bkc.state := by
      unfold recheck
      split <;> simp
    have judged : recheck st (s.reach due) = if s.bkc.state.isOpenOrOut && !s.phaseAbove st.brk.bfpuSquared then
        { s.bkc with bfFlag := false, recheckTimer := none }
        else { s.bkc with recheckTimer := some ((s.reach due).localTime + 20) } := by
      unfold recheck
      rw [State.reach_eq]
      rfl
    have clears : (s.bkc.state.isOpenOrOut && !s.phaseAbove st.brk.bfpuSquared) = true ↔
        (s.bkc.state = .opened ∨ s.bkc.state = .withdrawn) ∧ ¬ current := by
      rw [Bool.and_eq_true, isOpenOrOut_iff, Bool.not_eq_true', ← above, Bool.not_eq_true]
    obtain ⟨t, ht, e⟩ := done_of_still settled written state
    have bkc : t.bkc = recheck st (s.reach due) := by rw [e]; rfl
    have time : t.localTime = (s.reach due).localTime := by rw [e]; rfl
    refine ⟨t, (bfRecheckExpiry_effect set timer).trans ht, ?_, fun h => ?_, fun h => ?_⟩
    · rw [bkc]
      rw [State.reach_eq] at e ⊢
      exact e
    · rw [bkc, judged, if_pos (clears.2 h)]
    · rw [bkc, judged, if_neg (mt clears.1 h), time]

end

section
/-! PROOFS. The contacts and the racking input (R45 to R48, R52, R55, R56). -/

namespace Sys2Proof.Machine

variable {s u : State} {st : Settings}

/-! ### DEBOUNCE_EXPIRY with a new level -/

/-- The state in which the blocks take a new level: the timer expired, the level debounced, its event placed. -/
def levelDebounced (i : Input) (due : Time) (s : State) : State :=
  inputEvent i s.pins.raw[inputIdx i] ((s.reach due).withSsc
    { s.ssc.setTimer i none with debounced := s.ssc.debounced.set (inputIdx i) s.pins.raw[inputIdx i] })

section level
variable {i : Input} {due : Time}

theorem debounceExpiry_effect (timer : s.ssc.debounceTimers[inputIdx i] = some due)
    (change : s.pins.raw[inputIdx i] ≠ s.input i) :
    exec (.debounceExpiry i) s = done s (takeInput i s.pins.raw[inputIdx i] (levelDebounced i due s)) := by
  have changed : s.pins.raw[inputIdx i] ≠ (s.reach due).input i := by simpa [State.input] using change
  show done s (expire _ s (debounced i)) = _
  rw [timer, expire_some]
  simp only [debounced, State.reach_pins, State.reach_ssc, if_neg changed]
  rfl

theorem levelDebounced_only : Only [.localTime, .ssc, .sli] s (levelDebounced i due s) :=
  Only.inputEvent _ _ (by decide) (Only.withSsc (by decide) (Only.reach _ (by decide) Only.refl) _)

theorem levelDebounced_steady : Steady s (levelDebounced i due s) :=
  Steady.inputEvent ((Steady.refl.reach due).withSsc (by simp [Ssc.setTimer]) (by simp [Ssc.setTimer])) _ _

theorem levelDebounced_ssc : (levelDebounced i due s).ssc = { s.ssc.setTimer i none with
    debounced := s.ssc.debounced.set (inputIdx i) s.pins.raw[inputIdx i] } :=
  (Only.inputEvent (fs := [.sli]) _ _ (by decide) Only.refl).get .ssc (by decide)

@[simp] theorem levelDebounced_localTime : (levelDebounced i due s).localTime = (s.reach due).localTime :=
  (Only.inputEvent (fs := [.sli]) _ _ (by decide) Only.refl).get .localTime (by decide)

@[simp] theorem levelDebounced_bkc : (levelDebounced i due s).bkc = s.bkc := levelDebounced_steady.bkc

@[simp] theorem levelDebounced_cds : (levelDebounced i due s).cds = s.cds := levelDebounced_steady.cds

/-- The input takes the raw level. -/
@[simp] theorem levelDebounced_input : (levelDebounced i due s).input i = s.pins.raw[inputIdx i] := by
  simp [State.input, levelDebounced_ssc]

/-- Every other input keeps its level. -/
theorem levelDebounced_input_other {j : Input} (other : j ≠ i) : (levelDebounced i due s).input j = s.input j := by
  have apart : inputIdx i ≠ inputIdx j := by
    revert other
    cases i <;> cases j <;> decide
  simp [State.input, levelDebounced_ssc, Ssc.setTimer, Fin.val_inj, apart]

/-- A block at work takes the level. -/
theorem levelDebounced_atWork (set : s.settings = some st) (work : s.ssc.station.atWork = true)
    (act : Settings → State → State) :
    (levelDebounced i due s).atWork act = act st (levelDebounced i due s) :=
  State.atWork_of_work (levelDebounced_steady.settings.trans set) (by rw [levelDebounced_steady.station, work])

end level

/-! ### A new contact position -/

/-- What a contact position makes of the breaker: by the state. -/
def contactsTaken (s : State) : State :=
  match s.bkc.state with
  | .opened => compareContacts .opened .closed .closed s.contacts s
  | .closed => compareContacts .closed .opened .opened s.contacts s
  | .discrepant =>
    match s.contacts with
    | .opened => followContacts .opened s
    | .closed => followContacts .closed s
    | _ => s
  | .closing =>
    if s.contacts = .closed then (passTo .closed s).withBkc { (passTo .closed s).bkc with closingTimer := none } else s
  | .opening | .stuckClosed => if s.contacts = .opened then tripDone s else s
  | .withdrawn => s

theorem contactChange_eq : contactChange s = s.atWork fun _ s => contactsTaken s := rfl

/-- The state follows the contacts (R46, R47). -/
theorem followContacts_bkc (x : BreakerState) :
    (followContacts x s).bkc = { s.bkc with
      state := x, lastPurpose := some .uncommanded, discrepancyTimer := none
      closePulse := (followContacts x s).bkc.closePulse } := by
  unfold followContacts
  by_cases closing : x = .closing ∨ x = .closed
  · rw [passTo_of_closing _ closing]
    rfl
  · rw [passTo_of_not_closing _ closing]
    rfl

theorem followContacts_opened_closeOut : (followContacts .opened s).cds.closeOut = false := by
  unfold followContacts
  rw [passTo_of_not_closing _ (by decide)]
  simp

/-- OPEN or CLOSED with contacts that show it. -/
theorem compareContacts_own (own other : ContactPosition) (x : BreakerState) :
    compareContacts own other x own s = s.withBkc { s.bkc with discrepancyTimer := none } := if_pos rfl

/-- OPEN or CLOSED with contacts that show the other. -/
theorem compareContacts_other {own other : ContactPosition} (apart : other ≠ own) (x : BreakerState) :
    compareContacts own other x other s = followContacts x s := (if_neg apart).trans (if_pos rfl)

/-- OPEN or CLOSED with contacts that show neither. -/
theorem compareContacts_neither {own other pos : ContactPosition} (h : pos = .transit ∨ pos = .contradictory)
    (own_ne : pos ≠ own) (other_ne : pos ≠ other) (x : BreakerState) :
    compareContacts own other x pos s = startDiscrepancy s := by
  have racked : pos ≠ .withdrawn := by
    rintro rfl
    simp at h
  simp [compareContacts, own_ne, other_ne, racked]

theorem startDiscrepancy_bkc :
    (startDiscrepancy s).bkc = { s.bkc with discrepancyTimer :=
      if s.bkc.discrepancyTimer.isSome then s.bkc.discrepancyTimer else some (s.localTime + 50) } := by
  unfold startDiscrepancy
  split <;> rfl

/-! The rows of the contact positions, by the state. -/

/-- OPEN or CLOSED with contacts that show it. -/
theorem contactsTaken_agreeing (h : (s.bkc.state = .opened ∧ s.contacts = .opened) ∨
    (s.bkc.state = .closed ∧ s.contacts = .closed)) :
    contactsTaken s = s.withBkc { s.bkc with discrepancyTimer := none } := by
  obtain ⟨state, shown⟩ | ⟨state, shown⟩ := h
  · simp [contactsTaken, state, shown, compareContacts_own]
  · simp [contactsTaken, state, shown, compareContacts_own]

/-- OPEN, CLOSED or DISCREPANT with contacts that show another of OPEN and CLOSED. -/
theorem contactsTaken_following {pos : ContactPosition} {x : BreakerState}
    (h : (pos = .closed ∧ x = .closed ∧ (s.bkc.state = .opened ∨ s.bkc.state = .discrepant)) ∨
      (pos = .opened ∧ x = .opened ∧ (s.bkc.state = .closed ∨ s.bkc.state = .discrepant)))
    (shown : s.contacts = pos) : contactsTaken s = followContacts x s := by
  obtain ⟨rfl, rfl, state | state⟩ | ⟨rfl, rfl, state | state⟩ := h
  · simp [contactsTaken, state, shown, compareContacts_other]
  · simp [contactsTaken, state, shown]
  · simp [contactsTaken, state, shown, compareContacts_other]
  · simp [contactsTaken, state, shown]

/-- OPEN or CLOSED with contacts that show neither: the discrepancy timer runs (R46). -/
theorem contactsTaken_discrepancy (state : s.bkc.state = .opened ∨ s.bkc.state = .closed)
    (shown : s.contacts = .transit ∨ s.contacts = .contradictory) : contactsTaken s = startDiscrepancy s := by
  have apart : s.contacts ≠ .opened ∧ s.contacts ≠ .closed := by
    obtain h | h := shown <;> simp [h]
  obtain state | state := state
  · simp [contactsTaken, state, compareContacts_neither shown apart.1 apart.2]
  · simp [contactsTaken, state, compareContacts_neither shown apart.2 apart.1]

/-- CLOSING with contacts that show closed: the close coil keeps its pulse (R52). -/
theorem contactsTaken_closed (state : s.bkc.state = .closing) (shown : s.contacts = .closed) :
    contactsTaken s = s.withBkc { s.bkc with state := .closed, discrepancyTimer := none, closingTimer := none } := by
  simp only [contactsTaken, state, shown, if_true, passTo_of_closing _ (.inr rfl)]
  rfl

/-- OPENING or STUCK_CLOSED with contacts that show open: the trip is over (R55, R56). -/
theorem contactsTaken_tripDone (state : s.bkc.state = .opening ∨ s.bkc.state = .stuckClosed)
    (shown : s.contacts = .opened) : contactsTaken s = tripDone s := by
  obtain state | state := state
  · simp [contactsTaken, state, shown]
  · simp [contactsTaken, state, shown]

/-- The positions that a state does not follow. -/
theorem contactsTaken_left
    (h : (s.bkc.state = .discrepant ∧ (s.contacts = .transit ∨ s.contacts = .contradictory)) ∨
      (s.bkc.state = .closing ∧ s.contacts ≠ .closed) ∨
      ((s.bkc.state = .opening ∨ s.bkc.state = .stuckClosed) ∧ s.contacts ≠ .opened) ∨ s.bkc.state = .withdrawn) :
    contactsTaken s = s := by
  obtain ⟨state, shown | shown⟩ | ⟨state, shown⟩ | ⟨state | state, shown⟩ | state := h
  · simp [contactsTaken, state, shown]
  · simp [contactsTaken, state, shown]
  · simp [contactsTaken, state, shown]
  · simp [contactsTaken, state, shown]
  · simp [contactsTaken, state, shown]
  · simp [contactsTaken, state]

/-- A contact position leaves lockout and the BF timer. -/
theorem contactsTaken_keeps :
    (contactsTaken s).bkc.lockout = s.bkc.lockout ∧ (contactsTaken s).bkc.bfTimer = s.bkc.bfTimer := by
  have compared (own other : ContactPosition) (x : BreakerState) (pos : ContactPosition) :
      (compareContacts own other x pos s).bkc.lockout = s.bkc.lockout ∧
        (compareContacts own other x pos s).bkc.bfTimer = s.bkc.bfTimer := by
    unfold compareContacts
    split
    · exact ⟨rfl, rfl⟩
    · split
      · rw [followContacts_bkc]
        exact ⟨rfl, rfl⟩
      · split
        · exact ⟨rfl, rfl⟩
        · rw [startDiscrepancy_bkc]
          exact ⟨rfl, rfl⟩
  cases state : s.bkc.state with
  | opened => simpa [contactsTaken, state] using compared _ _ _ _
  | closed => simpa [contactsTaken, state] using compared _ _ _ _
  | discrepant =>
    cases shown : s.contacts with
    | opened =>
      rw [contactsTaken_following (.inr ⟨rfl, rfl, .inr state⟩) shown, followContacts_bkc]
      exact ⟨rfl, rfl⟩
    | closed =>
      rw [contactsTaken_following (.inl ⟨rfl, rfl, .inr state⟩) shown, followContacts_bkc]
      exact ⟨rfl, rfl⟩
    | transit | contradictory | withdrawn => simp [contactsTaken, state, shown]
  | closing =>
    by_cases shown : s.contacts = .closed
    · simp [contactsTaken_closed state shown]
    · simp [contactsTaken_left (.inr (.inl ⟨state, shown⟩))]
  | opening =>
    by_cases shown : s.contacts = .opened
    · simp [contactsTaken_tripDone (.inl state) shown, tripDone_eq]
    · simp [contactsTaken_left (.inr (.inr (.inl ⟨.inl state, shown⟩)))]
  | stuckClosed =>
    by_cases shown : s.contacts = .opened
    · simp [contactsTaken_tripDone (.inr state) shown, tripDone_eq]
    · simp [contactsTaken_left (.inr (.inr (.inl ⟨.inr state, shown⟩)))]
  | withdrawn => simp [contactsTaken_left (.inr (.inr (.inr state)))]

/-- DEBOUNCE_EXPIRY of an auxiliary contact with a new level. -/
theorem debounceExpiry_contact {i : Input} {due : Time} (set : s.settings = some st)
    (work : s.ssc.station.atWork = true) (contact : i = .bkrClosed ∨ i = .bkrOpen)
    (timer : s.ssc.debounceTimers[inputIdx i] = some due) (change : s.pins.raw[inputIdx i] ≠ s.input i) :
    ∃ t, exec (.debounceExpiry i) s = .next t ∧ t.ssc = (levelDebounced i due s).ssc ∧
      t.localTime = (levelDebounced i due s).localTime ∧
      t.bkc = (contactsTaken (levelDebounced i due s)).bkc ∧ t.cds = (contactsTaken (levelDebounced i due s)).cds := by
  have takes : takeInput i s.pins.raw[inputIdx i] (levelDebounced i due s) =
      contactChange (levelDebounced i due s) := by
    obtain rfl | rfl := contact <;> rfl
  have changes : contactChange (levelDebounced i due s) = contactsTaken (levelDebounced i due s) := by
    rw [contactChange_eq, levelDebounced_atWork set work]
  have kept : Only [.bkc, .cds] (levelDebounced i due s) (contactsTaken (levelDebounced i due s)) := by
    rw [← changes]
    exact Only.contactChange (by decide) (by decide) Only.refl
  refine ⟨_, (debounceExpiry_effect timer change), ?_⟩
  rw [takes, changes]
  have ssc : (contactsTaken (levelDebounced i due s)).ssc = (levelDebounced i due s).ssc := kept.get .ssc (by decide)
  have time : (contactsTaken (levelDebounced i due s)).localTime = (levelDebounced i due s).localTime :=
    kept.get .localTime (by decide)
  exact ⟨by simp [ssc], by simp [time], by simp, by simp⟩

/-! ### The racking input -/

/-- The breaker out, or derived from its contacts (R45, R48). -/
theorem rackChange_eq (set : s.settings = some st) (work : s.ssc.station.atWork = true) :
    rackChange s = (bothIdle s).withBkc { (bothIdle s).bkc with
      state := if s.input .rackedIn then s.contacts.derived else .withdrawn } := by
  have idle : (bothIdle s).contacts = s.contacts := by rw [bothIdle_eq]; rfl
  unfold rackChange
  rw [State.atWork_of_work set work]
  split
  · dsimp only [deriveBreaker]
    rw [idle]
  · rfl

/-- The contact position rests on the debounced levels alone. -/
theorem contacts_congr {t : State} (h : t.ssc = s.ssc) : t.contacts = s.contacts := by
  unfold State.contacts State.input
  rw [h]

/-- The derivation with the breaker racked in (R45). -/
theorem contacts_derived (racked : s.input .rackedIn = true) :
    s.contacts.derived = match s.input .bkrClosed, s.input .bkrOpen with
      | false, true => .opened
      | true, false => .closed
      | _, _ => .discrepant := by
  unfold State.contacts
  rw [racked]
  cases s.input .bkrClosed <;> cases s.input .bkrOpen <;> rfl

end Sys2Proof.Machine

open Sys2Proof Sys2Proof.Machine

/-- Settles O21: the rows of the contact positions by the state, and the racking input by its level. -/
theorem breakerFollowsItsContacts : Obligations.BreakerFollowsItsContacts := by
  unfold Obligations.BreakerFollowsItsContacts
  constructor
  · intro s st i due set work contact timer change
    obtain ⟨t, ht, ssc, time, bkc, cds⟩ := debounceExpiry_contact set work contact timer change
    have input : t.input i = s.pins.raw[inputIdx i] := by
      rw [← levelDebounced_input (s := s) (i := i) (due := due)]
      simp only [State.input, ssc]
    have shown : t.contacts = (levelDebounced i due s).contacts := contacts_congr ssc
    have record : (levelDebounced i due s).bkc = s.bkc := levelDebounced_bkc
    have coils : (levelDebounced i due s).cds = s.cds := levelDebounced_cds
    refine ⟨t, ht, input, ?_⟩
    generalize levelDebounced i due s = u at *
    rw [← record, ← coils, shown, time, bkc, cds]
    refine ⟨contactsTaken_keeps.1, contactsTaken_keeps.2, fun state pos => ?_, fun state pos => ?_,
      fun state pos => ?_, fun agree => ?_, fun state pos => ?_, fun state pos => ?_, fun state pos => ?_,
      fun state pos => ?_, fun state => ⟨fun pos => ?_, fun pos => ?_⟩, fun state => ?_⟩
    · rw [contactsTaken_following (.inl ⟨rfl, rfl, .inl state⟩) pos, followContacts_bkc]
      exact ⟨rfl, rfl, rfl⟩
    · rw [contactsTaken_following (.inr ⟨rfl, rfl, .inl state⟩) pos, followContacts_bkc]
      exact ⟨rfl, followContacts_opened_closeOut, rfl, rfl⟩
    · rw [contactsTaken_discrepancy state pos, startDiscrepancy_bkc]
      exact ⟨rfl, rfl⟩
    · rw [contactsTaken_agreeing agree]
      rfl
    · obtain pos | pos := pos
      · rw [contactsTaken_following (.inr ⟨rfl, rfl, .inr state⟩) pos, followContacts_bkc, pos]
        exact ⟨rfl, rfl⟩
      · rw [contactsTaken_following (.inl ⟨rfl, rfl, .inr state⟩) pos, followContacts_bkc, pos]
        exact ⟨rfl, rfl⟩
    · rw [contactsTaken_left (.inl ⟨state, pos⟩)]
    · rw [contactsTaken_closed state pos]
      exact ⟨rfl, rfl, rfl, rfl⟩
    · rw [contactsTaken_left (.inr (.inl ⟨state, pos⟩))]
    · rw [contactsTaken_tripDone state pos, tripDone_eq]
      simp
    · rw [contactsTaken_left (.inr (.inr (.inl ⟨state, pos⟩)))]
    · rw [contactsTaken_left (.inr (.inr (.inr state)))]
  · intro s st due set work timer change
    have taken : takeInput .rackedIn s.pins.raw[inputIdx .rackedIn] (levelDebounced .rackedIn due s) =
        (bothIdle (levelDebounced .rackedIn due s)).withBkc { (bothIdle (levelDebounced .rackedIn due s)).bkc with
          state := if s.pins.raw[inputIdx .rackedIn] then (levelDebounced .rackedIn due s).contacts.derived
            else .withdrawn } := by
      rw [← levelDebounced_input (s := s) (i := .rackedIn) (due := due)]
      exact rackChange_eq (levelDebounced_steady.settings.trans set) (by rw [levelDebounced_steady.station, work])
    refine ⟨_, debounceExpiry_effect timer change, ?_⟩
    rw [taken, bothIdle_eq]
    have derived : s.pins.raw[inputIdx .rackedIn] = true → (levelDebounced .rackedIn due s).contacts.derived =
        match s.input .bkrClosed, s.input .bkrOpen with
          | false, true => .opened
          | true, false => .closed
          | _, _ => .discrepant := by
      intro racked
      rw [contacts_derived (by simpa using racked), levelDebounced_input_other (by decide),
        levelDebounced_input_other (by decide)]
    refine ⟨by simp, by simp, ?_, by simp, by simp, by simp, by simp, by simp, by simp, by simp, by simp, by simp⟩
    simp only [publish_bkc, settle_bkc, State.withBkc_bkc]
    split
    · next racked => exact derived racked
    · rfl

end

section
/-! PROOFS. What the sequencer's and the synchronizer's operations leave: the echo of the last request, and the latched
flags START_FAILED and BLOCKED. -/

namespace Sys2Proof.Machine

/-- The echo and the latched flags of the sequence stand as they stood. -/
structure Quiet (s t : State) : Prop where
  echo : t.sli.echo = s.sli.echo
  startFailed : t.csq.startFailed = s.csq.startFailed
  blocked : t.csq.blocked = s.csq.blocked

/-- The fields that hold none of them. -/
def mutedFields : List Fld :=
  [.localTime, .pins, .settings, .siu, .cme, .pes, .bkc, .cds, .ptb, .syn, .lsc, .drc, .ssc, .due, .freeCount, .pending]

variable {s t u : State}

theorem Quiet.refl : Quiet s s := ⟨rfl, rfl, rfl⟩

theorem Quiet.only (h : Quiet s t) (k : Only mutedFields t u) : Quiet s u := by
  have sli : u.sli = t.sli := k.get .sli (by decide)
  have csq : u.csq = t.csq := k.get .csq (by decide)
  exact ⟨by rw [sli, h.echo], by rw [csq, h.startFailed], by rw [csq, h.blocked]⟩

theorem Quiet.withSyn (h : Quiet s t) (x : Syn) : Quiet s (t.withSyn x) := h.only (Only.withSyn (by decide) Only.refl x)

theorem Quiet.send (h : Quiet s t) (d : Delivery) : Quiet s (t.send d) := h.only (Only.send d (by decide) Only.refl)

theorem Quiet.run (h : Quiet s t) (b : Bool) : Quiet s (t.run b) := h.only (Only.run b (by decide) Only.refl)

theorem Quiet.withSli (h : Quiet s t) {x : Sli} (echo : x.echo = t.sli.echo) : Quiet s (t.withSli x) :=
  ⟨echo.trans h.echo, h.startFailed, h.blocked⟩

theorem Quiet.withCsq (h : Quiet s t) (x : Csq) (startFailed : x.startFailed = t.csq.startFailed := by rfl)
    (blocked : x.blocked = t.csq.blocked := by rfl) : Quiet s (t.withCsq x) :=
  ⟨h.echo, startFailed.trans h.startFailed, blocked.trans h.blocked⟩

theorem Quiet.inForce {act : Settings → State → State} (h : Quiet s t) (ha : ∀ st, Quiet s (act st t)) :
    Quiet s (t.inForce act) := by
  unfold State.inForce
  split
  · exact h
  · exact ha _

/-! ### The link -/

@[simp] theorem Sli.touch_echo (l : Sli) (slot : Slot) : (l.touch slot).echo = l.echo := by
  unfold Sli.touch
  split
  · split <;> rfl
  · rfl

@[simp] theorem Sli.placeClaim_echo (l : Sli) (x : ClaimItem) : (l.placeClaim x).echo = l.echo := by
  unfold Sli.placeClaim Sli.whenOnAir
  split
  · rfl
  · exact l.touch_echo _

@[simp] theorem Sli.giveUpClaim_echo (l : Sli) : l.giveUpClaim.echo = l.echo := by
  unfold Sli.giveUpClaim
  split
  · exact l.touch_echo _
  · exact l.placeClaim_echo _

/-! ### The synchronizer -/

theorem Quiet.judgeEligible (h : Quiet s t) : Quiet s (judgeEligible t) := by
  refine h.inForce fun st => ?_
  split
  · exact (h.withSli (t.sli.placeClaim_echo _)).withSyn _
  · exact h

theorem Quiet.giveUpClaim (h : Quiet s t) : Quiet s (giveUpClaim t) := by
  unfold Machine.giveUpClaim
  split
  · exact (h.withSli t.sli.giveUpClaim_echo).withSyn _
  · exact h

theorem Quiet.endTold (h : Quiet s t) (o : SynOutcome) : Quiet s (endTold o t) := by
  have ended : Quiet s (endClaim o t) := by
    unfold endClaim
    split
    · exact h
    · split
      · exact h.withSyn _
      · exact h.giveUpClaim
  unfold Machine.endTold
  split
  · exact (ended.withSyn _).send _
  · exact h

theorem Quiet.takeRequest (h : Quiet s t) (requester : Requester) (st : Settings) :
    Quiet s (takeRequest requester st t) :=
  (h.withSyn _).judgeEligible

theorem Quiet.handRequest (h : Quiet s t) : Quiet s (handRequest t) := by
  have taken : Quiet s (sequenceRequest t) := by
    refine h.inForce fun st => ?_
    split
    · exact h
    · split
      · exact h.takeRequest _ _
      · exact h.withSyn _
  unfold Machine.handRequest
  split
  · exact h
  · exact taken.withCsq _

theorem Quiet.withdrawRequest (h : Quiet s t) : Quiet s (withdrawRequest t) := by
  have withdrawn : Quiet s (synWithdraw t) := by
    unfold synWithdraw
    split
    · exact h.endTold _
    · exact h
  exact withdrawn.withCsq _

/-! ### The sequencer -/

theorem Quiet.returnOrLost (h : Quiet s t) (st : Settings) : Quiet s (returnOrLost st t) := by
  unfold Machine.returnOrLost
  split <;> exact h.withCsq _

theorem Quiet.incomerTick (h : Quiet s t) (st : Settings) :
    Quiet s (incomerHand (incomerRunOut st (incomerMonitor st t))) := by
  have monitored : Quiet s (incomerMonitor st t) := by
    unfold incomerMonitor
    split
    · split
      · exact ((h.withCsq _).send _).returnOrLost st
      · exact h
    · split
      · exact ((h.withCsq _).send _).returnOrLost st
      · exact h
    · split
      · exact h.returnOrLost st
      · exact h
    · exact h
  have run_out : Quiet s (incomerRunOut st (incomerMonitor st t)) := by
    unfold incomerRunOut enterRetransfer
    dsimp only
    split_ifs
    · exact (monitored.withCsq _).handRequest
    · exact monitored.withCsq _
    · exact monitored
  unfold incomerHand
  split
  · exact run_out.handRequest
  · exact run_out

theorem Quiet.generatorTick (h : Quiet s t) (st : Settings) :
    Quiet s (generatorShown (generatorDelay st (generatorReady st (generatorStarting st t)))) := by
  have starting : Quiet s (generatorStarting st t) := by
    unfold generatorStarting
    split_ifs
    · exact h
    · exact h.withCsq _
    · exact h.withCsq _
    · exact h
  have ready : Quiet s (generatorReady st (generatorStarting st t)) := by
    unfold generatorReady
    split_ifs
    · exact starting
    · exact starting.withdrawRequest.withCsq _
    · exact starting.handRequest
    · exact starting
  have delayed : Quiet s (generatorDelay st (generatorReady st (generatorStarting st t))) := by
    unfold generatorDelay
    split_ifs
    · exact ready.withCsq _
    · exact ready.withCsq _
    · exact ready
    · exact ready
  unfold generatorShown
  split_ifs
  · exact delayed.withCsq _
  · exact delayed.withCsq _
  · exact delayed.withCsq _
  · exact delayed
  · exact delayed

theorem Quiet.tieTest (h : Quiet s t) (st : Settings) : Quiet s (tieTest st t) := by
  unfold Machine.tieTest
  split
  · split
    · exact (h.withCsq _).handRequest
    · exact h
  · split
    · exact h.withdrawRequest.withCsq _
    · exact h
  · exact h

theorem Quiet.csqTick (h : Quiet s t) (st : Settings) : Quiet s (csqTick st t) := by
  unfold Machine.csqTick
  split
  · split
    · exact h.incomerTick st
    · exact h.generatorTick st
    · exact h.tieTest st
    · unfold feederRestore
      split
      · exact (h.withCsq _).send _
      · exact h
  · exact h

/-- An event whose act on the running sequence is quiet. -/
theorem Quiet.sequenceTold {act : Settings → State → State} (h : Quiet s t) (ha : ∀ st, Quiet s (act st t)) :
    Quiet s (csqEvent (whenRunning act) t) := by
  refine h.inForce fun st => Quiet.csqTick ?_ st
  unfold whenRunning
  split
  · exact ha st
  · exact h

theorem Quiet.tellLockoutClear (h : Quiet s t) : Quiet s (tellLockoutClear t) := by
  refine h.sequenceTold fun st => ?_
  split_ifs
  · exact h
  · exact h.withCsq _
  · exact h.withCsq _

theorem Quiet.tellOpenRequest (h : Quiet s t) : Quiet s (tellOpenRequest t) := by
  refine h.sequenceTold fun st => ?_
  split
  · exact h.withCsq _
  · exact h

theorem Quiet.derive (h : Quiet s t) (st : Settings) : Quiet s (derive st t) := by
  unfold Machine.derive
  split
  · split_ifs
    · exact h.withCsq _
    · exact h.withCsq _
    · exact h.returnOrLost st
  · have online : Quiet s (enterOnline t) := ((h.withCsq _).run true).only (Only.onlineNotice (by decide) Only.refl)
    have starting : Quiet s (toReadyOrStarting st t) := by
      unfold toReadyOrStarting
      dsimp only
      split <;> exact (h.withCsq _).run true
    split_ifs
    · exact h.withCsq _
    · exact online
    · exact h.withCsq _
    · exact starting
    · exact h.withCsq _
    · exact h.withCsq _
  · split_ifs <;> exact h.withCsq _
  · split_ifs <;> exact h.withCsq _

/-- RESET_ALARM at the CSQ leaves the echo and no latched flag (R176). -/
theorem csqResetAlarm_quiet :
    Quiet (s.withCsq { s.csq with startFailed := false, blocked := false }) (csqResetAlarm s) := by
  refine Quiet.sequenceTold Quiet.refl fun st => ?_
  split
  · exact Quiet.refl.withCsq _
  · exact Quiet.refl.derive st
  · exact Quiet.refl

end Sys2Proof.Machine
end

section
/-! PROOFS. A request handed to its owner, and the answers of the breaker's requests and pushbuttons (R49, R50, R61 to R66,
R123, R131, R176). -/

namespace Sys2Proof.Machine

variable {s u : State} {st : Settings} {r : Request} {code : Byte} {broadcastable : Bool} {owner : State → Answer}
  {result : Result} {detail : Option EchoDetail}

/-! ### A request handed to its owner -/

theorem intake_handed (handed : Handed s r code broadcastable) :
    intake code true broadcastable r owner s = echoAnswer code r (owner s.heard) := by
  obtain ⟨station, watching, other, target, check, origin, number⟩ := handed
  have working : s.ssc.station ≠ .start := fun k => station (by simp [k])
  have header : ¬ r.header = s.heard.sli.ownNumber := other
  have mine : s.heard.targeted r = true := by
    have number : s.heard.sli.ownNumber = s.sli.ownNumber := rfl
    obtain ⟨-, own⟩ | ⟨all, -⟩ := target
    · simp [State.targeted, number, own]
    · simp [State.targeted, all]
  have agrees : checkAgrees r code = true := by simp [checkAgrees, check]
  have good : badOrigin r = false := by
    have bound : ¬ 31 < r.origin.toNat := by
      rw [number]
      exact Nat.not_lt.2 (Nat.lt_succ_iff.1 r.header.isLt)
    rw [badOrigin, beq_eq_false_iff_ne.2 origin, decide_eq_false bound, number]
    simp
  have cast : (r.target == 0 && !broadcastable) = false := by
    obtain ⟨own, -⟩ | ⟨-, all⟩ := target
    · rw [beq_eq_false_iff_ne.2 own, Bool.false_and]
    · rw [all, Bool.not_true, Bool.and_false]
  have fit : (s.heard.ssc.station == .settingsFault || s.heard.ssc.station == .addressConflict) = false := by
    simp only [List.mem_cons, List.not_mem_nil, or_false, not_or] at station
    obtain ⟨-, fault, conflict⟩ := station
    simpa using ⟨fault, conflict⟩
  unfold intake State.hears
  rw [State.hearing_of_watching working watching, if_neg header]
  simp only [mine, judge, agrees, good, cast, fit, Bool.not_true, Bool.not_false, Bool.and_false, Bool.false_eq_true,
    if_true, if_false]

/-- The state after a request that its owner has answered. -/
def replied (s : State) (r : Request) (code : Byte) (a : Answer) : State := publish s (settle (echoAnswer code r a))

theorem withForce_of_force {own : Settings → State → Answer} (set : s.settings = some st) :
    withForce own s.heard = own st s.heard := by
  have force : s.heard.settings = some st := set
  simp [withForce, force]

section replied
variable (a : Answer)

@[simp] theorem replied_bkc : (replied s r code a).bkc = a.state.bkc := by simp [replied, echoAnswer]

@[simp] theorem replied_cds : (replied s r code a).cds = a.state.cds := by simp [replied, echoAnswer]

@[simp] theorem replied_syn : (replied s r code a).syn = a.state.syn := by simp [replied, echoAnswer]

@[simp] theorem replied_csq : (replied s r code a).csq = a.state.csq := by simp [replied, echoAnswer]

/-- The load share controller stands but for a ZERO condition. -/
theorem replied_lsc (running : a.state.zeroHolds = false) : (replied s r code a).lsc = a.state.lsc := by
  have still : (echoAnswer code r a).zeroHolds = a.state.zeroHolds := rfl
  simp only [replied, publish_lsc, settle_lsc, still, running]
  rfl

end replied

/-- What begins on the line leaves the echo. -/
theorem settle_echo (v : State) : (settle v).sli.echo = v.sli.echo := by
  rw [settle_sli]
  split <;> rfl

/-- An owner that leaves the echo has its answer shown. -/
theorem replied_answered {a : Answer} (echo : a.state.sli.echo = s.sli.echo) :
    Answered s (replied s r code a) r code a.result a.detail := by
  have shown : (replied s r code a).sli.echo = (echoAnswer code r a).sli.echo := by
    simp only [replied, publish_sli, settle_echo]
  unfold Answered
  rw [shown, ← echo]
  rfl

/-- A refusal changes nothing but the echo. -/
theorem replied_refused (settled : Settled s) :
    OnlyAnswered s (replied s r code (Answer.refuse s.heard result)) r code result none := by
  have still : settle (echoAnswer code r (Answer.refuse s.heard result)) =
      echoAnswer code r (Answer.refuse s.heard result) :=
    settle_of_settled ⟨settled.1, fun _ free _ => nomatch free⟩
  refine ⟨?_, replied_answered (a := Answer.refuse s.heard result) rfl⟩
  unfold replied
  rw [still, publish_eq, ← Sli.hear_eq_afterHearing]
  rfl

/-! ### The closing of an operator -/

/-- The two state checks of R49. -/
theorem generalCheck_of_state (h : s.bkc.state ≠ .opened ∨ ¬ (s.ssc.station = .auto ∨ s.ssc.station = .manual)) :
    s.generalCheck = some .refusedState := by
  unfold State.generalCheck
  obtain h | h := h
  · simp [h]
  · rw [not_or] at h
    simp [h]

theorem generalCheck_of_lockout (state : s.bkc.state = .opened)
    (ready : s.ssc.station = .auto ∨ s.ssc.station = .manual) (lockout : s.bkc.lockout = true) :
    s.generalCheck = some .refusedLockout := by
  have station : ¬ (s.ssc.station ≠ .auto ∧ s.ssc.station ≠ .manual) := by rwa [not_and_or, not_not, not_not]
  simp [State.generalCheck, state, station, lockout]

/-- The checks of the closing circuit. -/
theorem generalCheck_of_bay (state : s.bkc.state = .opened)
    (ready : s.ssc.station = .auto ∨ s.ssc.station = .manual) (lockout : s.bkc.lockout = false)
    (bay : ¬ (s.input .springOk = true ∧ s.bkc.closeCircuitFault = false ∧ s.cds.tripOut = false)) :
    s.generalCheck = some .refusedInterlock := by
  have station : ¬ (s.ssc.station ≠ .auto ∧ s.ssc.station ≠ .manual) := by rwa [not_and_or, not_not, not_not]
  unfold State.generalCheck
  rw [if_neg (not_not.2 state), if_neg station, lockout]
  cases spring : s.input .springOk <;> cases fault : s.bkc.closeCircuitFault <;> cases trip : s.cds.tripOut <;>
    simp_all

/-- A check that fails is the answer, and nothing is done. -/
theorem operatorClose_of_check (fails : s.generalCheck = some result) (refuses : result ≠ .taken) :
    operatorClose st s = (s, result) := by
  simp [operatorClose, State.closeAnswer, State.handedAnswer, fails, refuses]

theorem operatorClose_of_feeder (role : st.station.role = .feeder) (passes : s.generalCheck = none) :
    operatorClose st s = if s.purposeHolds st .feeder then (takeClose .feeder st s, .taken) else (s, .refusedInterlock) := by
  simp only [operatorClose, role, State.closeAnswer, passes]
  cases s.purposeHolds st .feeder <;> rfl

theorem operatorClose_of_other (role : st.station.role ≠ .feeder) (passes : s.generalCheck = none) :
    operatorClose st s = if s.operatorAnswer = .taken then (takeRequest .operator st s, .taken)
      else (s, s.operatorAnswer) := by
  simp only [operatorClose, role, State.handedAnswer, passes]
  by_cases taken : s.operatorAnswer = .taken
  · simp [taken]
  · simp [taken]

/-- The bus and the line of a FEEDER's closing (R50). -/
theorem purposeHolds_feeder : s.purposeHolds st .feeder = true ↔
    ∃ x, s.cme.record = some x ∧ x.warmup = false ∧ x.bus = .live ∧ (st.brk.lineVtFitted = true → x.line ≠ .live) := by
  simp [purposeHolds_iff]

theorem takeClose_echo : (takeClose .feeder st s).sli.echo = s.sli.echo := by
  rw [takeClose_eq]
  rfl

/-- A request taken: the SYN synchronizes, or claims at once (R123, R133). -/
theorem takeRequest_syn (requester : Requester) :
    let y := (takeRequest requester st s).syn
    y.attempt = 1 ∧ y.permitCount = 0 ∧ y.syncTimer = some (s.localTime + 60000) ∧
      (y.state = .synchronizing ∨ y.state = .claiming) ∧
      y.request = some { requester := requester, mode := s.correctionMode st.station } := by
  have judged (v : State) : (judgeEligible v).syn = v.syn ∨
      ∃ c, (judgeEligible v).syn = { v.syn.avrOff with state := .claiming, claim := some c } := by
    unfold judgeEligible State.inForce
    split
    · exact .inl rfl
    · dsimp only
      split
      · exact .inr ⟨_, rfl⟩
      · exact .inl rfl
  unfold takeRequest
  obtain e | ⟨c, e⟩ := judged (s.withSyn _) <;> rw [e]
  · exact ⟨rfl, rfl, rfl, .inl rfl, rfl⟩
  · exact ⟨rfl, rfl, rfl, .inr rfl, rfl⟩

/-! ### Lockout -/

/-- What stands against a lockout clear (R61). -/
theorem clearRefused_iff : s.clearRefused st = true ↔
    s.input .extTrip = true ∨ ∃ e : ElementNo, (s.pes.el e).state = .operated ∧ st.pes.action e = .trip := by
  have listed (e : ElementNo) : e ∈ allElements := by cases e <;> decide
  simp [State.clearRefused, tripOperated, listed]

/-- A lockout clear that nothing stands against. -/
theorem lockoutClear_of_free (free : s.clearRefused st = false) :
    lockoutClear st s = tellLockoutClear (dropLockout s) := by
  simp [lockoutClear, free]

theorem lockoutClear_bkc (free : s.clearRefused st = false) : (lockoutClear st s).bkc = (dropLockout s).bkc := by
  rw [lockoutClear_of_free free]
  exact Steady.refl.tellLockoutClear.bkc

theorem dropLockout_of_set (set : s.bkc.lockout = true) : dropLockout s = s.withBkc { s.bkc with
    lockout := false, lockoutPulse := some { onSet := false, due := s.localTime + 50 } } := if_pos set

theorem dropLockout_of_clear (clear : s.bkc.lockout = false) : dropLockout s = s := by
  simp [dropLockout, clear]

theorem dropLockout_only : Only [.bkc] s (dropLockout s) := Only.dropLockout (by decide) Only.refl

@[simp] theorem dropLockout_state : (dropLockout s).bkc.state = s.bkc.state := by
  unfold dropLockout
  split <;> rfl

/-- A feeder that stands TRIPPED goes on at a lockout clear (R172). -/
theorem tellLockoutClear_of_tripped (set : s.settings = some st) (role : st.station.role = .feeder)
    (auto : s.ssc.station = .auto) (tripped : s.csq.state = .tripped) :
    (tellLockoutClear s).csq.state = if s.bkc.state.countsClosed then .feederNormal else .openManual := by
  have running : s.sequencing = true := by simp [State.sequencing, auto, tripped]
  have quiet (x : CsqState) (away : x ≠ .shed) : (csqTick st (feederTo x s)).csq.state = x := by
    have restored : (feederTo x s).mayRestore st = false := by simp [State.mayRestore, feederTo, away]
    unfold csqTick
    split
    · rw [role]
      dsimp only [feederRestore]
      rw [if_neg (Bool.eq_false_iff.1 restored)]
      rfl
    · rfl
  unfold tellLockoutClear csqEvent
  rw [State.inForce_some set, whenRunning, if_pos running, if_neg (not_not.2 tripped)]
  split
  · exact quiet _ (by decide)
  · exact quiet _ (by decide)

end Sys2Proof.Machine
end

section
/-! PROOFS. The breaker's requests (R49, R50, R61, R62, R64 to R66, R123, R131, R176) and pushbuttons (R63). -/

namespace Sys2Proof.Machine

variable {s u : State} {st : Settings} {r : Request} {result : Result}

/-! ### OPEN -/

theorem openRequest_replied (set : s.settings = some st) (handed : Handed s r 0 false) :
    exec (.openRequest r) s = .next (replied s r 0 (ownOpen r st s.heard)) := by
  show done s (intake 0 true false r (withForce (ownOpen r)) s) = _
  rw [intake_handed handed, withForce_of_force set]
  rfl

theorem ownOpen_of_misfit (misfit : ¬ (r.args = [0] ∨ r.args = [1])) :
    ownOpen r st s = Answer.refuse s .badArgument := by
  rw [not_or] at misfit
  exact if_pos misfit

section fits
variable (fits : r.args = [0] ∨ r.args = [1])
include fits

theorem ownOpen_of_remote (remote : s.input .remotePermit = false) :
    ownOpen r st s = Answer.refuse s .refusedRemote := by
  have fit : ¬ (r.args ≠ [0] ∧ r.args ≠ [1]) := by rwa [not_and_or, not_not, not_not]
  simp only [ownOpen, fit, remote, Bool.not_false, if_true, if_false]

variable (remote : s.input .remotePermit = true)
include remote

theorem ownOpen_of_open (out : s.bkc.state = .opened ∨ s.bkc.state = .withdrawn) :
    ownOpen r st s = Answer.refuse s .refusedState := by
  have fit : ¬ (r.args ≠ [0] ∧ r.args ≠ [1]) := by rwa [not_and_or, not_not, not_not]
  simp only [ownOpen, fit, remote, (isOpenOrOut_iff _).2 out, Bool.not_true, Bool.false_eq_true, if_true, if_false]

section taken
variable (closed : ¬ (s.bkc.state = .opened ∨ s.bkc.state = .withdrawn))
include closed

/-- An OPEN taken is an unload order or an opening. -/
theorem ownOpen_of_in : ownOpen r st s = Answer.take (tellOpenRequest
      (if r.args = [0] ∧ st.station.role = .generator ∧ s.csq.state = .online then unloadOrder .request s
        else takeOpening .request s)) := by
  have fit : ¬ (r.args ≠ [0] ∧ r.args ≠ [1]) := by rwa [not_and_or, not_not, not_not]
  have isIn : ¬ s.bkc.state.isOpenOrOut = true := mt (isOpenOrOut_iff _).1 closed
  simp only [ownOpen, fit, remote, isIn, Bool.not_true, Bool.false_eq_true, if_false]
  split <;> rfl

theorem ownOpen_of_soft (soft : r.args = [0] ∧ st.station.role = .generator ∧ s.csq.state = .online) :
    ownOpen r st s = Answer.take (tellOpenRequest (unloadOrder .request s)) := by
  rw [ownOpen_of_in fits remote closed, if_pos soft]

theorem ownOpen_of_hard (hard : ¬ (r.args = [0] ∧ st.station.role = .generator ∧ s.csq.state = .online)) :
    ownOpen r st s = Answer.take (tellOpenRequest (takeOpening .request s)) := by
  rw [ownOpen_of_in fits remote closed, if_neg hard]

end taken

end fits

/-- An unload order writes the load share controller, and no more than its deliveries and the free values. -/
theorem unloadOrder_only (reason : UnloadReason) : Only [.lsc, .due, .freeCount] s (unloadOrder reason s) :=
  Only.unloadOrder reason (by decide) (by decide) (by decide) Only.refl

/-- An unload order to a generator that carries load starts the unload (R152). -/
theorem unloadOrder_of_carrying (set : s.settings = some st) (reason : UnloadReason) (zero : s.zeroHolds = false)
    (mode : s.lsc.mode = .softLoad ∨ s.lsc.mode = .share) :
    (unloadOrder reason s).lsc.mode = .unload ∧ (unloadOrder reason s).lsc.reason = some reason := by
  have tested : testZero s = s := by simp [testZero, zero]
  have carries : s.lsc.carrying = true := by obtain k | k := mode <;> simp [Lsc.carrying, k]
  have away : s.lsc.mode ≠ .hold := by obtain k | k := mode <;> simp [k]
  unfold unloadOrder lscEvent
  rw [tested, State.inForce_some set, if_pos carries, startUnload]
  simp [away]

/-- With the breaker in, the ZERO conditions rest on the settings and the station state alone. -/
theorem zeroHolds_of_in {t : State} (settings : t.settings = s.settings) (station : t.ssc.station = s.ssc.station)
    (bkc : t.bkc = s.bkc) (closed : ¬ (s.bkc.state = .opened ∨ s.bkc.state = .withdrawn)) :
    t.zeroHolds = s.zeroHolds := by
  have isIn : s.bkc.state.isOpenOrOut = false := Bool.eq_false_iff.2 (mt (isOpenOrOut_iff _).1 closed)
  simp [State.zeroHolds, settings, station, bkc, isIn]

/-- What an opening does to a breaker that is in, or OPENING already (R54). -/
theorem takeOpening_of_closed (purpose : Purpose)
    (closed : s.bkc.state ∈ ([.closed, .closing, .discrepant] : List BreakerState)) :
    let d := takeOpening purpose s
    d.bkc.state = .opening ∧ d.bkc.lastPurpose = some purpose ∧ d.cds.tripOut = true ∧ d.cds.closeOut = false ∧
      d.bkc.tripPulse = some (s.localTime + 200) ∧ d.bkc.stuckTimer = some (s.localTime + 300) := by
  obtain ⟨state, trip, close, pulse, timer, -, last⟩ := driven_closed purpose closed
  dsimp only
  rw [takeOpening_bkc, takeOpening_cds]
  exact ⟨state, last, trip, close, pulse, timer⟩

theorem takeOpening_of_rest (purpose : Purpose)
    (rest : s.bkc.state ∈ ([.opening, .opened, .withdrawn] : List BreakerState)) :
    (takeOpening purpose s).bkc = s.bkc := by
  rw [takeOpening_bkc]
  exact (driven_rest purpose (.inl rest)).1

/-- An opening is no trip: cause, lockout and breaker failure are left. -/
theorem takeOpening_keeps (purpose : Purpose) :
    (takeOpening purpose s).bkc.lastTrip = s.bkc.lastTrip ∧ (takeOpening purpose s).bkc.lockout = s.bkc.lockout ∧
      (takeOpening purpose s).bkc.bfTimer = s.bkc.bfTimer := by
  rw [takeOpening_bkc, driveOpen_bkc]
  simp

theorem Quiet.takeOpening {t : State} (h : Quiet s t) (purpose : Purpose) : Quiet s (takeOpening purpose t) :=
  (h.only (Only.abortAndOpen purpose (by decide) (by decide) Only.refl)).endTold _

/-- An unload order told to the sequence: the breaker stands, and a generator that carries load unloads (R64, R152). -/
theorem unloadTold (set : s.settings = some st) (closed : ¬ (s.bkc.state = .opened ∨ s.bkc.state = .withdrawn)) :
    let u := tellOpenRequest (unloadOrder .request s)
    Quiet s u ∧ u.bkc = s.bkc ∧ u.cds = s.cds ∧ u.zeroHolds = s.zeroHolds ∧
      ((s.lsc.mode = .softLoad ∨ s.lsc.mode = .share) → s.zeroHolds = false →
        u.lsc.mode = .unload ∧ u.lsc.reason = some .request) := by
  have quiet : Quiet s (tellOpenRequest (unloadOrder .request s)) :=
    (Quiet.refl.only (Only.unloadOrder .request (by decide) (by decide) (by decide) Only.refl)).tellOpenRequest
  have told : Only [.lsc, .due, .freeCount, .csq, .sli, .syn] s (tellOpenRequest (unloadOrder .request s)) :=
    Only.tellOpenRequest (by decide) (by decide) (by decide) (by decide)
      (Only.unloadOrder .request (by decide) (by decide) (by decide) Only.refl)
  have record : (tellOpenRequest (unloadOrder .request s)).bkc = s.bkc := told.get .bkc (by decide)
  have share : (tellOpenRequest (unloadOrder .request s)).lsc = (unloadOrder .request s).lsc :=
    (Only.tellOpenRequest (fs := [.csq, .due, .sli, .syn]) (by decide) (by decide) (by decide) (by decide)
      Only.refl).get .lsc (by decide)
  refine ⟨quiet, record, told.get .cds (by decide), zeroHolds_of_in (told.get .settings (by decide))
    (congrArg Ssc.station (told.get .ssc (by decide))) record closed, fun mode zero => ?_⟩
  rw [share]
  exact unloadOrder_of_carrying set .request zero mode

/-- An opening told to the sequence is an opening (R54, R64). -/
theorem openingTold :
    let u := tellOpenRequest (takeOpening .request s)
    Quiet s u ∧ u.bkc = (takeOpening .request s).bkc ∧ u.cds = (takeOpening .request s).cds := by
  have told : Steady (takeOpening .request s) (tellOpenRequest (takeOpening .request s)) := Steady.refl.tellOpenRequest
  exact ⟨(Quiet.refl.takeOpening .request).tellOpenRequest, told.bkc, told.cds⟩

/-! ### CLOSE -/

theorem closeRequest_replied (set : s.settings = some st) (handed : Handed s r 1 false) :
    exec (.closeRequest r) s = .next (replied s r 1 (ownClose r st s.heard)) := by
  show done s (intake 1 true false r (withForce (ownClose r)) s) = _
  rw [intake_handed handed, withForce_of_force set]
  rfl

theorem ownClose_of_misfit (misfit : r.args ≠ []) : ownClose r st s = Answer.refuse s .badArgument := by
  simp [ownClose, misfit]

theorem ownClose_of_remote (fits : r.args = []) (remote : s.input .remotePermit = false) :
    ownClose r st s = Answer.refuse s .refusedRemote := by
  simp [ownClose, fits, remote]

theorem ownClose_of_permit (fits : r.args = []) (remote : s.input .remotePermit = true) :
    ownClose r st s = { state := (operatorClose st s).1, result := (operatorClose st s).2, detail := none } := by
  simp [ownClose, fits, remote]

/-- A CLOSE that the operator's close refuses. -/
theorem ownClose_of_refused (fits : r.args = []) (remote : s.input .remotePermit = true)
    (refused : operatorClose st s = (s, result)) : ownClose r st s = Answer.refuse s result := by
  rw [ownClose_of_permit fits remote, refused]
  rfl

/-- A CLOSE that the operator's close takes. -/
theorem ownClose_of_taken (fits : r.args = []) (remote : s.input .remotePermit = true)
    (taken : operatorClose st s = (u, .taken)) : ownClose r st s = Answer.take u := by
  rw [ownClose_of_permit fits remote, taken]
  rfl

theorem generalCheck_ne_taken : s.generalCheck ≠ some .taken := by
  unfold State.generalCheck
  split_ifs <;> simp

/-- An operator's close that a check bars does nothing. -/
theorem operatorClose_of_barred (fails : s.generalCheck ≠ none) : (operatorClose st s).1 = s := by
  obtain ⟨result, check⟩ := Option.ne_none_iff_exists'.1 fails
  rw [operatorClose_of_check check fun taken => generalCheck_ne_taken (check.trans (congrArg some taken))]

/-- A station that is no FEEDER closes nothing by an operator's close: its SYN is asked. -/
theorem operatorClose_steady (role : st.station.role ≠ .feeder) : Steady s (operatorClose st s).1 := by
  simp only [operatorClose, role, if_false]
  split
  · exact Steady.refl.takeRequest _ _
  · exact Steady.refl

/-! ### RESET_LOCKOUT and RESET_ALARM -/

theorem resetLockout_replied (set : s.settings = some st) (handed : Handed s r 2 false) :
    exec (.resetLockout r) s = .next (replied s r 2 (ownResetLockout r st s.heard)) := by
  show done s (intake 2 true false r (withForce (ownResetLockout r)) s) = _
  rw [intake_handed handed, withForce_of_force set]
  rfl

theorem ownResetLockout_of_misfit (misfit : r.args ≠ []) : ownResetLockout r st s = Answer.refuse s .badArgument := by
  simp [ownResetLockout, misfit]

theorem ownResetLockout_of_remote (fits : r.args = []) (remote : s.input .remotePermit = false) :
    ownResetLockout r st s = Answer.refuse s .refusedRemote := by
  simp [ownResetLockout, fits, remote]

theorem ownResetLockout_of_standing (fits : r.args = []) (remote : s.input .remotePermit = true)
    (standing : s.clearRefused st = true) : ownResetLockout r st s = Answer.refuse s .refusedState := by
  simp [ownResetLockout, fits, remote, standing]

theorem ownResetLockout_of_free (fits : r.args = []) (remote : s.input .remotePermit = true)
    (free : s.clearRefused st = false) : ownResetLockout r st s = Answer.take (lockoutClear st s) := by
  simp [ownResetLockout, fits, remote, free]

theorem resetAlarm_replied (handed : Handed s r 4 true) :
    exec (.resetAlarm r) s = .next (replied s r 4 (ownResetAlarm r s.heard)) := by
  show done s (intake 4 true true r (ownResetAlarm r) s) = _
  rw [intake_handed handed]
  rfl

theorem ownResetAlarm_of_misfit (misfit : r.args ≠ []) : ownResetAlarm r s = Answer.refuse s .badArgument := by
  simp [ownResetAlarm, misfit]

theorem ownResetAlarm_of_fit (fits : r.args = []) : ownResetAlarm r s = Answer.take (resetAlarms s) := by
  simp [ownResetAlarm, fits]

theorem resetAlarms_bkc : (resetAlarms s).bkc = s.bkc.resetAlarm := by
  have kept : (csqResetAlarm s).bkc = s.bkc := Steady.refl.csqResetAlarm.bkc
  simp [resetAlarms, kept]

theorem resetAlarms_csq : (resetAlarms s).csq = (csqResetAlarm s).csq := rfl

theorem resetAlarms_syn : (resetAlarms s).syn = (csqResetAlarm s).syn.resetAlarm := rfl

theorem resetAlarms_sli : (resetAlarms s).sli = (csqResetAlarm s).sli := rfl

/-- RESET_ALARM finds no sequence to run where the sequence is inactive. -/
theorem csqResetAlarm_of_inactive (inactive : s.csq.state = .inactive) : (csqResetAlarm s).syn = s.syn := by
  have idle : (s.withCsq { s.csq with startFailed := false, blocked := false }).sequencing = false := by
    simp [State.sequencing, inactive]
  unfold csqResetAlarm csqEvent State.inForce
  split
  · rfl
  · simp [csqTick, whenRunning, idle]

/-! ### The pushbuttons -/

section buttons
variable {i : Input} {due : Time}

/-- DEBOUNCE_EXPIRY of a pushbutton: what the breaker controller makes of the new level. -/
theorem debounceExpiry_button (button : i ∈ ([.localOpen, .localClose, .lockoutReset] : List Input))
    (timer : s.ssc.debounceTimers[inputIdx i] = some due) (change : s.pins.raw[inputIdx i] ≠ s.input i) :
    ∃ t, exec (.debounceExpiry i) s = .next t ∧ t.input i = s.pins.raw[inputIdx i] ∧
      t.localTime = (s.reach due).localTime ∧
      (let v := takeInput i s.pins.raw[inputIdx i] (levelDebounced i due s)
       t.bkc = v.bkc ∧ t.cds = v.cds ∧ t.syn = v.syn ∧ t.csq = v.csq) := by
  have kept : Only [.bkc, .cds, .csq, .due, .sli, .syn] (levelDebounced i due s)
      (takeInput i s.pins.raw[inputIdx i] (levelDebounced i due s)) := by
    simp only [List.mem_cons, List.not_mem_nil, or_false] at button
    obtain rfl | rfl | rfl := button
    · exact Only.localOpen (by decide) (by decide) (by decide) (by decide) (by decide) Only.refl
    · exact Only.localClose (by decide) (by decide) (by decide) (by decide) Only.refl
    · exact Only.localLockoutReset (by decide) (by decide) (by decide) (by decide) (by decide) Only.refl
  have ssc := kept.get .ssc (by decide)
  have time := kept.get .localTime (by decide)
  dsimp only [Fld.same] at ssc time
  refine ⟨_, debounceExpiry_effect timer change, ?_, ?_, by simp⟩
  · refine Eq.trans (congrArg (fun c : Ssc => c.debounced[inputIdx i]) ?_) (levelDebounced_input (due := due))
    rw [publish_ssc, settle_ssc, ssc]
  · rw [publish_localTime, settle_localTime, time, levelDebounced_localTime]

variable (set : s.settings = some st) (work : s.ssc.station.atWork = true)
include set work

theorem takeInput_localOpen :
    takeInput .localOpen s.pins.raw[inputIdx .localOpen] (levelDebounced .localOpen due s) =
      if s.pins.raw[inputIdx .localOpen] = true then takeOpening .localButton (levelDebounced .localOpen due s)
      else levelDebounced .localOpen due s := by
  show localOpen _ = _
  rw [localOpen, levelDebounced_atWork set work, levelDebounced_input]

theorem takeInput_localClose :
    takeInput .localClose s.pins.raw[inputIdx .localClose] (levelDebounced .localClose due s) =
      if s.pins.raw[inputIdx .localClose] = true ∧ s.input .remotePermit = false then
        (operatorClose st (levelDebounced .localClose due s)).1
      else levelDebounced .localClose due s := by
  show localClose _ = _
  rw [localClose, levelDebounced_atWork set work, levelDebounced_input, levelDebounced_input_other (by decide)]
  refine if_congr ?_ rfl rfl
  rw [Bool.and_eq_true, Bool.not_eq_true']

theorem takeInput_lockoutReset :
    takeInput .lockoutReset s.pins.raw[inputIdx .lockoutReset] (levelDebounced .lockoutReset due s) =
      if s.pins.raw[inputIdx .lockoutReset] = true then lockoutClear st (levelDebounced .lockoutReset due s)
      else levelDebounced .lockoutReset due s := by
  show localLockoutReset _ = _
  rw [localLockoutReset, levelDebounced_atWork set work, levelDebounced_input]

omit set work

theorem levelDebounced_cme : (levelDebounced i due s).cme = s.cme := levelDebounced_only.get .cme (by decide)

theorem levelDebounced_pes : (levelDebounced i due s).pes = s.pes := levelDebounced_only.get .pes (by decide)

theorem levelDebounced_syn : (levelDebounced i due s).syn = s.syn := levelDebounced_only.get .syn (by decide)

theorem levelDebounced_csq : (levelDebounced i due s).csq = s.csq := levelDebounced_only.get .csq (by decide)

theorem levelDebounced_station : (levelDebounced i due s).ssc.station = s.ssc.station := levelDebounced_steady.station

/-- LOCAL_CLOSE bears on none of the checks of R49. -/
theorem levelDebounced_generalCheck : (levelDebounced .localClose due s).generalCheck = s.generalCheck := by
  have spring : (levelDebounced .localClose due s).input .springOk = s.input .springOk :=
    levelDebounced_input_other (by decide)
  simp only [State.generalCheck, levelDebounced_bkc, levelDebounced_cds, levelDebounced_station, spring]

end buttons

theorem operatorAnswer_taken_iff :
    s.operatorAnswer = .taken ↔ s.syn.state ≠ .syncFailed ∧ s.syn.request = none := by
  unfold State.operatorAnswer
  split_ifs with failed held
  · simp [failed]
  · simp [Option.isSome_iff_ne_none.1 held]
  · simp [failed, Option.not_isSome_iff_eq_none.1 held]

/-! ### The answers, request by request -/

/-- OPEN (R64). -/
theorem openRequest_answered (set : s.settings = some st) (handed : Handed s r 0 false) (settled : Settled s) :
     let fits : Prop := r.args = [0] ∨ r.args = [1]
     let soft : Prop := r.args = [0] ∧ st.station.role = .generator ∧ s.csq.state = .online
     let isOpen : Prop := s.bkc.state = .opened ∨ s.bkc.state = .withdrawn
     ∃ t, exec (.openRequest r) s = .next t ∧
       (¬ fits → OnlyAnswered s t r 0 .badArgument none) ∧
       (fits → s.input .remotePermit = false → OnlyAnswered s t r 0 .refusedRemote none) ∧
       (fits → s.input .remotePermit = true → isOpen → OnlyAnswered s t r 0 .refusedState none) ∧
       (fits → s.input .remotePermit = true → ¬ isOpen → Answered s t r 0 .taken none ∧
         t.bkc.lastTrip = s.bkc.lastTrip ∧ t.bkc.lockout = s.bkc.lockout ∧ t.bkc.bfTimer = s.bkc.bfTimer ∧
         (soft → t.bkc = s.bkc ∧ t.cds = s.cds ∧
           ((s.lsc.mode = .softLoad ∨ s.lsc.mode = .share) → s.zeroHolds = false →
             t.lsc.mode = .unload ∧ t.lsc.reason = some .request)) ∧
         (¬ soft → s.bkc.state ∈ ([.closed, .closing, .discrepant] : List BreakerState) →
           t.bkc.state = .opening ∧ t.bkc.lastPurpose = some .request ∧ t.cds.tripOut = true ∧
           t.cds.closeOut = false ∧ t.bkc.tripPulse = some (s.localTime + 200) ∧
           t.bkc.stuckTimer = some (s.localTime + 300)) ∧
         (¬ soft → s.bkc.state = .opening → t.bkc = s.bkc)) := by
  intro fits soft isOpen
  refine ⟨_, openRequest_replied set handed, fun misfit => ?_, fun fits remote => ?_, fun fits remote out => ?_,
    fun fits remote closed => ?_⟩
  · rw [ownOpen_of_misfit misfit]
    exact replied_refused settled
  · rw [ownOpen_of_remote (s := s.heard) fits remote]
    exact replied_refused settled
  · rw [ownOpen_of_open (s := s.heard) fits remote out]
    exact replied_refused settled
  · by_cases soft : r.args = [0] ∧ st.station.role = .generator ∧ s.csq.state = .online
    · obtain ⟨quiet, bkc, cds, zero, unloads⟩ := unloadTold (s := s.heard) set closed
      rw [ownOpen_of_soft (s := s.heard) fits remote closed soft]
      simp only [replied_bkc, replied_cds, Answer.take, bkc, cds]
      refine ⟨replied_answered quiet.echo, rfl, rfl, rfl, fun _ => ⟨rfl, rfl, fun mode idle => ?_⟩,
        fun hard => absurd soft hard, fun hard => absurd soft hard⟩
      rw [replied_lsc _ (zero.trans idle)]
      exact unloads mode idle
    · obtain ⟨quiet, bkc, cds⟩ := openingTold (s := s.heard)
      obtain ⟨trip, lockout, failure⟩ := takeOpening_keeps (s := s.heard) .request
      rw [ownOpen_of_hard (s := s.heard) fits remote closed soft]
      simp only [replied_bkc, replied_cds, Answer.take, bkc, cds]
      refine ⟨replied_answered quiet.echo, trip, lockout, failure, fun k => absurd k soft,
        fun _ state => takeOpening_of_closed (s := s.heard) .request state, fun _ state => ?_⟩
      exact takeOpening_of_rest (s := s.heard) .request (List.mem_cons.2 (.inl state))

/-- CLOSE with REMOTE_PERMIT (R49, R50, R65, R123). -/
theorem closeRequest_answered (set : s.settings = some st) (handed : Handed s r 1 false) (settled : Settled s)
    (fits : r.args = []) (remote : s.input .remotePermit = true) :
     let ready : Prop := s.ssc.station = .auto ∨ s.ssc.station = .manual
     let bay : Prop := s.input .springOk = true ∧ s.bkc.closeCircuitFault = false ∧ s.cds.tripOut = false
     let checks : Prop := s.bkc.state = .opened ∧ ready ∧ s.bkc.lockout = false ∧ bay
     let feeds : Prop := ∃ x, s.cme.record = some x ∧ x.warmup = false ∧ x.bus = .live ∧
       (st.brk.lineVtFitted = true → x.line ≠ .live)
     ∃ t, exec (.closeRequest r) s = .next t ∧
       (s.bkc.state ≠ .opened ∨ ¬ ready → OnlyAnswered s t r 1 .refusedState none) ∧
       (s.bkc.state = .opened → ready → s.bkc.lockout = true → OnlyAnswered s t r 1 .refusedLockout none) ∧
       (s.bkc.state = .opened → ready → s.bkc.lockout = false → ¬ bay →
         OnlyAnswered s t r 1 .refusedInterlock none) ∧
       (checks → st.station.role = .feeder → (¬ feeds → OnlyAnswered s t r 1 .refusedInterlock none) ∧
         (feeds → Answered s t r 1 .taken none ∧ t.bkc.state = .closing ∧ t.cds.closeOut = true ∧
           t.bkc.lastPurpose = some .feeder ∧
           t.bkc.closePulse = some (s.localTime + BitVec.ofNat 32 st.brk.closePulseMs) ∧
           t.bkc.closingTimer = some (s.localTime + 250))) ∧
       (checks → st.station.role ≠ .feeder → t.bkc = s.bkc ∧ t.cds = s.cds ∧
         (s.syn.state = .syncFailed → OnlyAnswered s t r 1 .refusedState none) ∧
         (s.syn.state ≠ .syncFailed → s.syn.request.isSome → OnlyAnswered s t r 1 .busy none) ∧
         (s.syn.state ≠ .syncFailed → s.syn.request = none → Answered s t r 1 .taken none ∧
           t.syn.attempt = 1 ∧ t.syn.permitCount = 0 ∧ t.syn.syncTimer = some (s.localTime + 60000) ∧
           (t.syn.state = .synchronizing ∨ t.syn.state = .claiming) ∧
           t.syn.request = some { requester := .operator, mode :=
             (if st.station.role = .generator ∧ s.ssc.station = .auto then .auto else .checkOnly) })) := by
  intro ready bay checks feeds
  have heard : s.heard.generalCheck = s.generalCheck := rfl
  have refuse {result : Result} (h : operatorClose st s.heard = (s.heard, result)) :
      OnlyAnswered s (replied s r 1 (ownClose r st s.heard)) r 1 result none := by
    rw [ownClose_of_refused (s := s.heard) fits remote h]
    exact replied_refused settled
  refine ⟨_, closeRequest_replied set handed, fun state => ?_, fun state ready lockout => ?_,
    fun state ready lockout bay => ?_, fun checks role => ⟨fun idle => ?_, fun feeds => ?_⟩, fun checks role => ?_⟩
  · exact refuse (operatorClose_of_check (heard.trans (generalCheck_of_state state)) (by decide))
  · exact refuse (operatorClose_of_check (heard.trans (generalCheck_of_lockout state ready lockout)) (by decide))
  · exact refuse (operatorClose_of_check (heard.trans (generalCheck_of_bay state ready lockout bay)) (by decide))
  · have passes : s.heard.generalCheck = none := heard.trans (generalCheck_none_iff.2 checks)
    refine refuse ?_
    rw [operatorClose_of_feeder role passes, if_neg (mt (purposeHolds_feeder (s := s.heard)).1 idle)]
  · have passes : s.heard.generalCheck = none := heard.trans (generalCheck_none_iff.2 checks)
    have taken : operatorClose st s.heard = (takeClose .feeder st s.heard, .taken) := by
      rw [operatorClose_of_feeder role passes, if_pos ((purposeHolds_feeder (s := s.heard)).2 feeds)]
    rw [ownClose_of_taken (s := s.heard) fits remote taken]
    refine ⟨replied_answered (takeClose_echo (s := s.heard)), ?_⟩
    simp only [replied_bkc, replied_cds, Answer.take, takeClose_eq]
    exact ⟨rfl, energize_close_closeOut _, rfl, rfl, rfl⟩
  · have passes : s.heard.generalCheck = none := heard.trans (generalCheck_none_iff.2 checks)
    have closes := operatorClose_of_other (s := s.heard) role passes
    have answer : s.heard.operatorAnswer = s.operatorAnswer := rfl
    have stands : Steady s.heard (operatorClose st s.heard).1 := operatorClose_steady role
    have refused (h : s.operatorAnswer ≠ .taken) :
        OnlyAnswered s (replied s r 1 (ownClose r st s.heard)) r 1 s.operatorAnswer none := by
      refine refuse ?_
      rw [closes, answer, if_neg h]
    refine ⟨?_, ?_, fun failed => ?_, fun ready held => ?_, fun ready free => ?_⟩
    · rw [ownClose_of_permit (s := s.heard) fits remote, replied_bkc]
      exact stands.bkc
    · rw [ownClose_of_permit (s := s.heard) fits remote, replied_cds]
      exact stands.cds
    · have result : s.operatorAnswer = .refusedState := if_pos failed
      rw [← result]
      exact refused (by simp [result])
    · have result : s.operatorAnswer = .busy := (if_neg ready).trans (if_pos held)
      rw [← result]
      exact refused (by simp [result])
    · have taken : operatorClose st s.heard = (takeRequest .operator st s.heard, .taken) := by
        rw [closes, answer, if_pos (operatorAnswer_taken_iff.2 ⟨ready, free⟩)]
      rw [ownClose_of_taken (s := s.heard) fits remote taken]
      obtain ⟨attempt, count, timer, state, request⟩ := takeRequest_syn (s := s.heard) (st := st) .operator
      refine ⟨replied_answered (Quiet.refl.takeRequest _ _).echo, ?_⟩
      simp only [replied_syn, Answer.take]
      exact ⟨attempt, count, timer, state, request⟩

/-- RESET_LOCKOUT (R61, R62, R66). -/
theorem resetLockout_answered (set : s.settings = some st) (handed : Handed s r 2 false) (settled : Settled s)
    (fits : r.args = []) :
     let standing : Prop := s.input .extTrip = true ∨
       ∃ e : ElementNo, (s.pes.el e).state = .operated ∧ st.pes.action e = .trip
     ∃ t, exec (.resetLockout r) s = .next t ∧
       (s.input .remotePermit = false → OnlyAnswered s t r 2 .refusedRemote none) ∧
       (s.input .remotePermit = true → standing → OnlyAnswered s t r 2 .refusedState none) ∧
       (s.input .remotePermit = true → ¬ standing → Answered s t r 2 .taken none ∧
         (s.bkc.lockout = true → t.bkc =
           { s.bkc with lockout := false, lockoutPulse := some { onSet := false, due := s.localTime + 50 } } ∧
           t.lockoutClrOut = true) ∧
         (s.bkc.lockout = false → t.bkc = s.bkc) ∧
         (st.station.role = .feeder → s.ssc.station = .auto → s.csq.state = .tripped →
           t.csq.state = if s.bkc.state.countsClosed then .feederNormal else .openManual)) := by
  intro standing
  refine ⟨_, resetLockout_replied set handed, fun remote => ?_, fun remote standing => ?_, fun remote free => ?_⟩
  · rw [ownResetLockout_of_remote (s := s.heard) fits remote]
    exact replied_refused settled
  · rw [ownResetLockout_of_standing (s := s.heard) fits remote (clearRefused_iff.2 standing)]
    exact replied_refused settled
  · have free : s.heard.clearRefused st = false := Bool.eq_false_iff.2 (mt clearRefused_iff.1 free)
    have quiet : Quiet s.heard (lockoutClear st s.heard) := by
      rw [lockoutClear_of_free free]
      exact (Quiet.refl.only (Only.dropLockout (by decide) Only.refl)).tellLockoutClear
    rw [ownResetLockout_of_free (s := s.heard) fits remote free]
    refine ⟨replied_answered quiet.echo, fun locked => ?_, fun clear => ?_, fun role auto tripped => ?_⟩
    · have record : (replied s r 2 (Answer.take (lockoutClear st s.heard))).bkc = { s.bkc with
          lockout := false, lockoutPulse := some { onSet := false, due := s.localTime + 50 } } := by
        rw [replied_bkc, Answer.take, lockoutClear_bkc free, dropLockout_of_set (s := s.heard) locked]
        rfl
      refine ⟨record, ?_⟩
      rw [State.lockoutClrOut, record]
      rfl
    · rw [replied_bkc, Answer.take, lockoutClear_bkc free, dropLockout_of_clear (s := s.heard) clear]
      rfl
    · have kept : Only [.bkc] s.heard (dropLockout s.heard) := dropLockout_only
      rw [replied_csq, Answer.take, lockoutClear_of_free free,
        tellLockoutClear_of_tripped ((kept.get .settings (by decide)).trans set) role
          ((congrArg Ssc.station (kept.get .ssc (by decide))).trans auto)
          ((congrArg Csq.state (kept.get .csq (by decide))).trans tripped), dropLockout_state]
      rfl

/-- RESET_ALARM (R66, R131, R176). -/
theorem resetAlarm_answered (handed : Handed s r 4 true) (settled : Settled s) :
     ∃ t, exec (.resetAlarm r) s = .next t ∧
       (r.args ≠ [] → OnlyAnswered s t r 4 .badArgument none) ∧
       (r.args = [] → Answered s t r 4 .taken none ∧ (s.settings.isSome → t.csq.startFailed = false ∧
           t.csq.blocked = false) ∧ t.syn.failedAlarm = false ∧
         (s.syn.state = .syncFailed → s.csq.state = .inactive → t.syn.state = .idle) ∧
         t.bkc = { s.bkc with failedToClose := false,
                              stuckAlarm := s.bkc.stuckAlarm && decide (s.bkc.state = .stuckClosed) }) := by
  refine ⟨_, resetAlarm_replied handed, fun misfit => ?_, fun fits => ?_⟩
  · rw [ownResetAlarm_of_misfit misfit]
    exact replied_refused settled
  · have quiet := csqResetAlarm_quiet (s := s.heard)
    rw [ownResetAlarm_of_fit fits]
    refine ⟨replied_answered (by rw [Answer.take, resetAlarms_sli, quiet.echo]; rfl), fun _ => ?_, ?_,
      fun failed inactive => ?_, ?_⟩
    · rw [replied_csq, Answer.take, resetAlarms_csq]
      exact ⟨quiet.startFailed, quiet.blocked⟩
    · rw [replied_syn, Answer.take, resetAlarms_syn]
      rfl
    · rw [replied_syn, Answer.take, resetAlarms_syn, csqResetAlarm_of_inactive (s := s.heard) inactive]
      exact if_pos failed
    · rw [replied_bkc, Answer.take, resetAlarms_bkc, ← Bool.beq_eq_decide_eq]
      rfl

/-! ### The pushbuttons, one by one -/

section pressed
variable {due : Time}

/-- What an effect that is the new level alone keeps. -/
theorem kept_of_levelDebounced {i : Input} {t : State} (bkc : t.bkc = (levelDebounced i due s).bkc)
    (cds : t.cds = (levelDebounced i due s).cds) (syn : t.syn = (levelDebounced i due s).syn)
    (csq : t.csq = (levelDebounced i due s).csq) :
    t.bkc = s.bkc ∧ t.cds = s.cds ∧ t.syn = s.syn ∧ t.csq = s.csq :=
  ⟨bkc.trans levelDebounced_bkc, cds.trans levelDebounced_cds, syn.trans levelDebounced_syn,
    csq.trans levelDebounced_csq⟩

variable (set : s.settings = some st) (work : s.ssc.station.atWork = true)
include set work

/-- LOCAL_OPEN (R63). -/
theorem localOpen_outcome (timer : s.ssc.debounceTimers[inputIdx .localOpen] = some due)
    (change : s.pins.raw[inputIdx .localOpen] ≠ s.input .localOpen) :
    ∃ t, exec (.debounceExpiry .localOpen) s = .next t ∧ t.input .localOpen = s.pins.raw[inputIdx .localOpen] ∧
      t.localTime = (s.reach due).localTime ∧
      (¬ s.pins.raw[inputIdx .localOpen] = true → t.bkc = s.bkc ∧ t.cds = s.cds ∧ t.syn = s.syn ∧ t.csq = s.csq) ∧
      (s.pins.raw[inputIdx .localOpen] = true → t.bkc.lockout = s.bkc.lockout ∧ t.bkc.lastTrip = s.bkc.lastTrip ∧
        t.bkc.bfTimer = s.bkc.bfTimer ∧
        (s.bkc.state ∈ ([.closed, .closing, .discrepant] : List BreakerState) →
          t.bkc.state = .opening ∧ t.bkc.lastPurpose = some .localButton ∧ t.cds.tripOut = true ∧
          t.cds.closeOut = false ∧ t.bkc.tripPulse = some (t.localTime + 200) ∧
          t.bkc.stuckTimer = some (t.localTime + 300)) ∧
        (s.bkc.state ∈ ([.opening, .opened, .withdrawn] : List BreakerState) → t.bkc = s.bkc)) := by
  obtain ⟨t, ht, input, time, bkc, cds, syn, csq⟩ := debounceExpiry_button (i := .localOpen) (by decide) timer change
  have taken := takeInput_localOpen (due := due) set work
  refine ⟨t, ht, input, time, fun idle => ?_, fun pressed => ?_⟩
  · rw [taken, if_neg idle] at bkc cds syn csq
    exact kept_of_levelDebounced bkc cds syn csq
  · rw [taken, if_pos pressed] at bkc cds
    obtain ⟨trip, lockout, failure⟩ := takeOpening_keeps (s := levelDebounced .localOpen due s) .localButton
    rw [bkc, cds, time, trip, lockout, failure]
    refine ⟨by simp, by simp, by simp, fun state => ?_, fun state => ?_⟩
    · simpa using takeOpening_of_closed (s := levelDebounced .localOpen due s) .localButton (by simpa using state)
    · simpa using takeOpening_of_rest (s := levelDebounced .localOpen due s) .localButton (by simpa using state)

/-- LOCAL_CLOSE (R49, R50, R63, R123). -/
theorem localClose_outcome (timer : s.ssc.debounceTimers[inputIdx .localClose] = some due)
    (change : s.pins.raw[inputIdx .localClose] ≠ s.input .localClose) :
    let pressed : Prop := s.pins.raw[inputIdx .localClose] = true
    let checks : Prop := s.bkc.state = .opened ∧ (s.ssc.station = .auto ∨ s.ssc.station = .manual) ∧
      s.bkc.lockout = false ∧ s.input .springOk = true ∧ s.bkc.closeCircuitFault = false ∧ s.cds.tripOut = false
    let feeds : Prop := ∃ x, s.cme.record = some x ∧ x.warmup = false ∧ x.bus = .live ∧
      (st.brk.lineVtFitted = true → x.line ≠ .live)
    let keeps : State → Prop := fun t => t.bkc = s.bkc ∧ t.cds = s.cds ∧ t.syn = s.syn ∧ t.csq = s.csq
    ∃ t, exec (.debounceExpiry .localClose) s = .next t ∧ t.input .localClose = s.pins.raw[inputIdx .localClose] ∧
      t.localTime = (s.reach due).localTime ∧ (¬ pressed → keeps t) ∧
      (s.input .remotePermit = true ∨ ¬ checks → keeps t) ∧
      (pressed → s.input .remotePermit = false → checks →
        (st.station.role = .feeder → (¬ feeds → keeps t) ∧
          (feeds → t.bkc.state = .closing ∧ t.cds.closeOut = true ∧ t.bkc.lastPurpose = some .feeder ∧
            t.bkc.closePulse = some (t.localTime + BitVec.ofNat 32 st.brk.closePulseMs) ∧
            t.bkc.closingTimer = some (t.localTime + 250))) ∧
        (st.station.role ≠ .feeder → t.bkc = s.bkc ∧ t.cds = s.cds ∧
          (s.syn.state = .syncFailed ∨ s.syn.request.isSome → t.syn = s.syn) ∧
          (s.syn.state ≠ .syncFailed → s.syn.request = none →
            t.syn.attempt = 1 ∧ t.syn.permitCount = 0 ∧ t.syn.syncTimer = some (t.localTime + 60000) ∧
            (t.syn.state = .synchronizing ∨ t.syn.state = .claiming) ∧
            t.syn.request = some { requester := .operator, mode :=
              (if st.station.role = .generator ∧ s.ssc.station = .auto then .auto else .checkOnly) }))) := by
  intro pressed checks feeds keeps
  obtain ⟨t, ht, input, time, bkc, cds, syn, csq⟩ := debounceExpiry_button (i := .localClose) (by decide) timer change
  have taken := takeInput_localClose (due := due) set work
  have kept (h : takeInput .localClose s.pins.raw[inputIdx .localClose] (levelDebounced .localClose due s) =
      levelDebounced .localClose due s) : t.bkc = s.bkc ∧ t.cds = s.cds ∧ t.syn = s.syn ∧ t.csq = s.csq := by
    rw [h] at bkc cds syn csq
    exact kept_of_levelDebounced bkc cds syn csq
  refine ⟨t, ht, input, time, fun idle => kept (taken.trans (if_neg fun k => idle k.1)), fun barred => kept ?_,
    fun pressed remote checks => ⟨fun role => ⟨fun idle => kept ?_, fun feeds => ?_⟩, fun role => ?_⟩⟩
  · obtain remote | fails := barred
    · exact taken.trans (if_neg fun k => by simp [remote] at k)
    · have bar : (levelDebounced .localClose due s).generalCheck ≠ none := fun k =>
        fails (generalCheck_none_iff.1 (levelDebounced_generalCheck.symm.trans k))
      rw [taken, operatorClose_of_barred bar, ite_self]
  · have passes := levelDebounced_generalCheck (due := due).trans (generalCheck_none_iff.2 checks)
    rw [taken, if_pos ⟨pressed, remote⟩, operatorClose_of_feeder role passes,
      if_neg (mt purposeHolds_feeder.1 (by rwa [levelDebounced_cme]))]
  · have passes := levelDebounced_generalCheck (due := due).trans (generalCheck_none_iff.2 checks)
    rw [taken, if_pos ⟨pressed, remote⟩, operatorClose_of_feeder role passes,
      if_pos (purposeHolds_feeder.2 (by rwa [levelDebounced_cme]))] at bkc cds
    rw [bkc, cds, time, takeClose_eq]
    simp [closePurpose]
  · have passes := levelDebounced_generalCheck (due := due).trans (generalCheck_none_iff.2 checks)
    have closes := operatorClose_of_other role passes
    have stands := operatorClose_steady (s := levelDebounced .localClose due s) role
    have answer : (levelDebounced .localClose due s).operatorAnswer = s.operatorAnswer := by
      simp only [State.operatorAnswer, levelDebounced_syn]
    rw [taken, if_pos ⟨pressed, remote⟩] at bkc cds syn
    refine ⟨bkc.trans (stands.bkc.trans levelDebounced_bkc), cds.trans (stands.cds.trans levelDebounced_cds),
      fun held => ?_, fun ready free => ?_⟩
    · have refused : s.operatorAnswer ≠ .taken := fun k => by
        obtain ⟨ready, free⟩ := operatorAnswer_taken_iff.1 k
        simp [ready, free] at held
      rw [syn, closes, answer, if_neg refused, levelDebounced_syn]
    · obtain ⟨attempt, count, timer, state, request⟩ :=
        takeRequest_syn (s := levelDebounced .localClose due s) (st := st) .operator
      rw [syn, closes, answer, if_pos (operatorAnswer_taken_iff.2 ⟨ready, free⟩), time]
      refine ⟨attempt, count, by simpa using timer, state, request.trans ?_⟩
      simp [State.correctionMode, levelDebounced_station]

/-- LOCKOUT_RESET (R61, R63). -/
theorem lockoutReset_outcome (timer : s.ssc.debounceTimers[inputIdx .lockoutReset] = some due)
    (change : s.pins.raw[inputIdx .lockoutReset] ≠ s.input .lockoutReset) :
    let standing : Prop := s.input .extTrip = true ∨
      ∃ e : ElementNo, (s.pes.el e).state = .operated ∧ st.pes.action e = .trip
    let keeps : State → Prop := fun t => t.bkc = s.bkc ∧ t.cds = s.cds ∧ t.syn = s.syn ∧ t.csq = s.csq
    ∃ t, exec (.debounceExpiry .lockoutReset) s = .next t ∧
      t.input .lockoutReset = s.pins.raw[inputIdx .lockoutReset] ∧ t.localTime = (s.reach due).localTime ∧
      (¬ s.pins.raw[inputIdx .lockoutReset] = true → keeps t) ∧
      (s.pins.raw[inputIdx .lockoutReset] = true → (standing → keeps t) ∧
        (¬ standing → s.bkc.lockout = true → t.bkc =
          { s.bkc with lockout := false, lockoutPulse := some { onSet := false, due := t.localTime + 50 } } ∧
          t.lockoutClrOut = true) ∧
        (¬ standing → s.bkc.lockout = false → t.bkc = s.bkc)) := by
  intro standing keeps
  obtain ⟨t, ht, input, time, bkc, cds, syn, csq⟩ := debounceExpiry_button (i := .lockoutReset) (by decide) timer change
  have taken := takeInput_lockoutReset (due := due) set work
  have stands : (levelDebounced .lockoutReset due s).clearRefused st = true ↔ (s.input .extTrip = true ∨
      ∃ e : ElementNo, (s.pes.el e).state = .operated ∧ st.pes.action e = .trip) := by
    rw [clearRefused_iff, levelDebounced_input_other (by decide), levelDebounced_pes]
  have kept (h : takeInput .lockoutReset s.pins.raw[inputIdx .lockoutReset] (levelDebounced .lockoutReset due s) =
      levelDebounced .lockoutReset due s) : t.bkc = s.bkc ∧ t.cds = s.cds ∧ t.syn = s.syn ∧ t.csq = s.csq := by
    rw [h] at bkc cds syn csq
    exact kept_of_levelDebounced bkc cds syn csq
  refine ⟨t, ht, input, time, fun idle => kept (taken.trans (if_neg idle)), fun pressed =>
    ⟨fun standing => kept ?_, fun free locked => ?_, fun free clear => ?_⟩⟩
  · rw [taken, if_pos pressed, lockoutClear, if_pos (stands.2 standing)]
  · rw [taken, if_pos pressed, lockoutClear_bkc (Bool.eq_false_iff.2 (mt stands.1 free)),
      dropLockout_of_set (by simpa using locked)] at bkc
    have record : t.bkc = { s.bkc with
        lockout := false, lockoutPulse := some { onSet := false, due := t.localTime + 50 } } := by
      rw [bkc, time]
      simp
    exact ⟨record, by rw [State.lockoutClrOut, record]; rfl⟩
  · rw [taken, if_pos pressed, lockoutClear_bkc (Bool.eq_false_iff.2 (mt stands.1 free)),
      dropLockout_of_clear (by simpa using clear), levelDebounced_bkc] at bkc
    exact bkc


end pressed

end Sys2Proof.Machine

open Sys2Proof Sys2Proof.Machine

/-- Settles O55: each request by the rows of its owner's answer, each pushbutton by what it does when pressed. -/
theorem breakerRequestsAreAnswered : Obligations.BreakerRequestsAreAnswered := by
  unfold Obligations.BreakerRequestsAreAnswered
  refine ⟨fun s st r set handed settled => ?_, fun s st r set handed settled fits remote => ?_,
    fun s st r set settled => ⟨fun handed => ?_, fun handed misfit => ?_⟩,
    ⟨fun s st r set handed settled fits => ?_, fun s r handed settled => ?_⟩,
    fun s st i due set work button timer change => ?_⟩
  · exact openRequest_answered set handed settled
  · exact closeRequest_answered set handed settled fits remote
  · refine ⟨_, closeRequest_replied set handed, fun misfit => ?_, fun fits remote => ?_⟩
    · rw [ownClose_of_misfit misfit]
      exact replied_refused settled
    · rw [ownClose_of_remote (s := s.heard) fits remote]
      exact replied_refused settled
  · refine ⟨_, resetLockout_replied set handed, ?_⟩
    rw [ownResetLockout_of_misfit misfit]
    exact replied_refused settled
  · exact resetLockout_answered set handed settled fits
  · exact resetAlarm_answered handed settled
  · simp only [List.mem_cons, List.not_mem_nil, or_false] at button
    obtain rfl | rfl | rfl := button
    · obtain ⟨t, ht, input, time, released, opens⟩ := localOpen_outcome set work timer change
      exact ⟨t, ht, input, time, released, fun pressed _ => opens pressed, nofun, nofun, nofun⟩
    · obtain ⟨t, ht, input, time, released, barred, closes⟩ := localClose_outcome set work timer change
      exact ⟨t, ht, input, time, released, nofun, fun _ _ => barred, fun pressed _ => closes pressed, nofun⟩
    · obtain ⟨t, ht, input, time, released, resets⟩ := lockoutReset_outcome set work timer change
      exact ⟨t, ht, input, time, released, nofun, nofun, nofun, fun pressed _ => resets pressed⟩
end

section
/-! PROOFS. The settings image (R196, R211, R212): its field records, the first check that fails, and the settings that a
good image puts in force. -/

namespace Sys2Proof.Machine

/-! ### The field records (R211) -/

/-- The last of the first `n` records that carries an identifier is programmed with a value. -/
theorem lastField_eq_some_iff (at' : Nat → Byte) (id : Nat) (v : Int) (n : Nat) :
    lastField at' id n = some v ↔ ∃ k, k < n ∧ (at' (4 + 6 * k)).toNat = id ∧
      (∀ j, k < j → j < n → (at' (4 + 6 * j)).toNat ≠ id) ∧ at' (5 + 6 * k) = 1 ∧
      v = (read32 at' (6 + 6 * k)).toInt := by
  induction n with
  | zero => simp [lastField]
  | succ n ih =>
    have offset (m : Nat) : 4 + 6 * n + m = 4 + m + 6 * n := by omega
    rw [lastField, offset, offset]
    by_cases named : (at' (4 + 6 * n)).toNat = id
    · rw [if_pos named]
      constructor
      · intro h
        split at h
        · next programmed => exact ⟨n, n.lt_succ_self, named, fun j above below => absurd below (by omega), programmed,
            (Option.some.inj h).symm⟩
        · cases h
      · rintro ⟨k, below, -, last, programmed, rfl⟩
        obtain rfl : k = n := by
          by_contra other
          exact last n (by omega) n.lt_succ_self named
        rw [if_pos programmed]
    · rw [if_neg named, ih]
      constructor
      · rintro ⟨k, below, carries, last, rest⟩
        refine ⟨k, by omega, carries, fun j above limit => ?_, rest⟩
        obtain rfl | apart := eq_or_ne j n
        · exact named
        · exact last j above (by omega)
      · rintro ⟨k, below, carries, last, rest⟩
        have apart : k ≠ n := by
          rintro rfl
          exact named carries
        exact ⟨k, by omega, carries, fun j above limit => last j above (by omega), rest⟩

section image
variable (image : List Byte)

theorem read16_toNat (at' : Nat → Byte) (i : Nat) :
    (read16 at' i).toNat = 256 * (at' i).toNat + (at' (i + 1)).toNat := by
  have low := (at' (i + 1)).isLt
  rw [read16, BitVec.toNat_append, ← Nat.shiftLeft_add_eq_or_of_lt low, Nat.shiftLeft_eq]
  omega

theorem imageLength_eq : imageLength image = headerLength image := read16_toNat _ _

theorem imageField_eq_some_iff (id : Nat) (v : Int) : imageField image id = some v ↔ Programmed image id v := by
  have value (k : Nat) : read32 (imageByte image) (6 + 6 * k) = imageByte image (6 + 6 * k) ++
      imageByte image (7 + 6 * k) ++ imageByte image (8 + 6 * k) ++ imageByte image (9 + 6 * k) := by
    rw [read32, Nat.add_right_comm 6 _ 1, Nat.add_right_comm 6 _ 2, Nat.add_right_comm 6 _ 3]
  unfold imageField
  simp only [lastField_eq_some_iff, imageLength_eq, value]
  rfl

/-! ### The first check that fails (R196) -/

theorem imageFormat_iff : imageFormat image = 0x4620 ↔ imageByte image 0 = 0x46 ∧ imageByte image 1 = 0x20 := by
  have high := (imageByte image 0).isLt
  have low := (imageByte image 1).isLt
  rw [imageFormat, read16_toNat, Nat.zero_add]
  constructor
  · intro h
    exact ⟨BitVec.eq_of_toNat_eq (by simp; omega), BitVec.eq_of_toNat_eq (by simp; omega)⟩
  · rintro ⟨high, low⟩
    rw [high, low]
    rfl

theorem lengthPermitted_iff (len : Nat) :
    lengthPermitted len = true ↔ 12 ≤ len ∧ len ≤ 774 ∧ ∃ k, 1 ≤ k ∧ len = 6 + 6 * k := by
  simp only [lengthPermitted, Bool.and_eq_true, decide_eq_true_eq, beq_iff_eq]
  constructor
  · rintro ⟨⟨low, high⟩, whole⟩
    exact ⟨low, high, (len - 6) / 6, by omega, by omega⟩
  · rintro ⟨low, high, k, -, rfl⟩
    exact ⟨⟨low, high⟩, by omega⟩

end image

/-- A role and every field that it requires (lines 4 and 5 of R196). -/
theorem required_iff (f : Nat → Option Int) (role : Role) :
    Required f role ↔ imageRole f = some role ∧ requiredProgrammed f role = true := by
  have named : imageRole f = some role ↔
      f 1 = some (match role with | .incomer => 0 | .generator => 1 | .tie => 2 | .feeder => 3) := by
    unfold imageRole
    cases code : f 1 with
    | none => simp
    | some v =>
      dsimp only
      split_ifs <;> cases role <;> simp_all
  refine and_congr named.symm ?_
  cases role <;> simp [requiredProgrammed, and_assoc]

/-! ### The rows of the table -/

/-- A number of the statement's table as a row of the model's. -/
def TableRow.asNumber (x : TableRow) : FieldRow := { id := x.id, kind := .number x.lo x.hi, uses := x.uses }

/-- A code of the statement's table as a row of the model's. -/
def TableRow.asCode (x : TableRow) : FieldRow := { id := x.id, kind := .code (x.hi + 1), uses := x.uses }

/-- The rows that the statement's table of numbers and codes leaves out. -/
def otherRows : List FieldRow :=
  [⟨1, .code 4, everyRole⟩, ⟨2, .code 2, [.incomer, .generator, .feeder]⟩, ⟨4, .number 100 32767, everyRole⟩,
   ⟨7, .number 1 2147483647, everyRole⟩, ⟨8, .number 1 65535, [.generator]⟩,
   ⟨26, .code 3, everyRole⟩, ⟨27, .code 3, everyRole⟩, ⟨28, .code 3, everyRole⟩, ⟨29, .code 3, everyRole⟩,
   ⟨54, .number 1 65535, everyRole⟩, ⟨55, .number 1 65535, everyRole⟩, ⟨56, .number 1 65535, everyRole⟩,
   ⟨57, .number 1 65535, everyRole⟩,
   ⟨11, .mask, everyRole⟩, ⟨103, .mask, everyRole⟩, ⟨104, .mask, everyRole⟩]

/-- Some settings, to read the constant columns of the table from. -/
def someSettings : Settings := settingsOf (fun _ => none) .tie

theorem numberRows_columns (st : Settings) :
    (numberRows st).map TableRow.asNumber = (numberRows someSettings).map TableRow.asNumber := by
  simp only [numberRows, TableRow.asNumber, List.map_append, List.map_cons, List.map_nil]

theorem codeRows_columns (st : Settings) :
    (codeRows st).map TableRow.asCode = (codeRows someSettings).map TableRow.asCode := by
  simp only [codeRows, TableRow.asCode, List.map_append, List.map_cons, List.map_nil, List.map_map,
    Function.comp_def]

/-- The two tables hold the same rows. -/
theorem fieldRows_listed :
    (∀ row ∈ fieldRows, row ∈ (numberRows someSettings).map TableRow.asNumber ++
      (codeRows someSettings).map TableRow.asCode ++ otherRows) ∧
    (∀ row ∈ (numberRows someSettings).map TableRow.asNumber ++ (codeRows someSettings).map TableRow.asCode ++ otherRows,
      row ∈ fieldRows) := by
  decide +kernel

theorem mem_fieldRows_iff (st : Settings) (row : FieldRow) :
    row ∈ fieldRows ↔ (∃ x ∈ numberRows st, x.asNumber = row) ∨ (∃ x ∈ codeRows st, x.asCode = row) ∨ row ∈ otherRows := by
  rw [← List.mem_map, ← List.mem_map, numberRows_columns, codeRows_columns, ← or_assoc, ← List.mem_append,
    ← List.mem_append]
  exact ⟨fieldRows_listed.1 row, fieldRows_listed.2 row⟩

/-- An identifier names one row. -/
theorem fieldRows_find : ∀ row ∈ fieldRows, fieldRows.find? (fun r => r.id == row.id) = some row := by decide +kernel

/-! ### The value of a field (R196) -/

section field
variable {f : Nat → Option Int} {role : Role} {dflt : Int} {row : FieldRow}

/-- A field that the image leaves, or that the role does not use, takes its default. -/
theorem settledField_default (listed : row ∈ fieldRows) (h : f row.id = none ∨ role ∉ row.uses) :
    settledField f role row.id dflt = dflt := by
  unfold settledField
  rw [fieldRows_find row listed]
  dsimp only
  split
  · next used =>
    obtain h | h := h
    · rw [h]
    · exact absurd (List.contains_iff_mem.1 used) h
  · rfl

/-- A programmed field that the role uses is settled by its kind. -/
theorem settledField_programmed (listed : row ∈ fieldRows) (used : role ∈ row.uses) {v : Int} (h : f row.id = some v) :
    settledField f role row.id dflt = row.kind.settle dflt v := by
  unfold settledField
  rw [fieldRows_find row listed]
  dsimp only
  rw [if_pos (List.contains_iff_mem.2 used), h]

/-- A kind whose values are not negative. -/
def FieldKind.natural : FieldKind → Bool
  | .number lo _ => decide (0 ≤ lo)
  | .code _ => true
  | .mask => false

theorem fieldRows_natural : ∀ row ∈ fieldRows, row.id ∈ [11, 74, 103, 104] ∨ row.kind.natural = true := by
  decide +kernel

theorem FieldKind.settle_nonneg {k : FieldKind} (natural : k.natural = true) {dflt v : Int} (h : 0 ≤ dflt) :
    0 ≤ k.settle dflt v := by
  cases k with
  | number lo hi => exact le_trans (of_decide_eq_true natural) (le_max_left _ _)
  | code n =>
    unfold FieldKind.settle
    dsimp only
    split
    · exact h
    · omega
  | mask => cases natural

/-- No field but the masks and the retransfer slip target holds a negative value. -/
theorem settledField_nonneg {id : Nat} (other : id ∉ [11, 74, 103, 104]) (h : 0 ≤ dflt) :
    0 ≤ settledField f role id dflt := by
  unfold settledField
  split
  · exact h
  · next row found =>
    have named : row.id = id := by simpa using List.find?_some found
    have natural := (fieldRows_natural row (List.mem_of_find?_eq_some found)).resolve_left (named ▸ other)
    split
    · split
      · exact h
      · exact FieldKind.settle_nonneg natural h
    · exact h

/-- A value read as a number. -/
theorem settledField_toNat {id : Nat} (other : id ∉ [11, 74, 103, 104]) (h : 0 ≤ dflt) :
    ((settledField f role id dflt).toNat : Int) = settledField f role id dflt :=
  Int.toNat_of_nonneg (settledField_nonneg other h)

end field

end Sys2Proof.Machine
end

section
/-! PROOFS. The values that an image puts in force (R196, R211): numbers and codes. -/

namespace Sys2Proof.Machine

/-! ### The settings in force -/

section force
variable (f : Nat → Option Int) (role : Role)

theorem settledFnom_cases : settledFnom f = 50 ∨ settledFnom f = 60 := by
  unfold settledFnom
  split
  · exact .inr rfl
  · exact .inl rfl

/-- Every number holds the value of its field. -/
theorem numberRows_values : ∀ x ∈ numberRows (settingsOf f role), x.value = settledField f role x.id x.dflt := by
  have under : ((settledFnom f * 1000 - 1000 : Nat) : Int) = (settledFnom f : Int) * 1000 - 1000 := by
    obtain h | h := settledFnom_cases f <;> rw [h] <;> rfl
  have above : ((settledFnom f * 1000 + 1000 : Nat) : Int) = (settledFnom f : Int) * 1000 + 1000 := by push_cast; rfl
  have counted {id : Nat} (n : Nat) (other : id ∉ [11, 74, 103, 104]) :
      ((settledField f role id n).toNat : Int) = settledField f role id n :=
    settledField_toNat other (Int.natCast_nonneg n)
  simp (disch := decide) only [numberRows, settingsOf, stationSettings, pesSettings, breakerSettings, synSettings,
    lscSettings, csqSettings, drcSettings, List.forall_mem_append, List.forall_mem_cons, settledField_toNat, counted]
  rw [under, above]
  simp

/-- A field of `n` codes holds one of them. -/
theorem settledField_code {row : FieldRow} {n dflt : Int} (listed : row ∈ fieldRows) (kind : row.kind = .code n)
    (h : 0 ≤ dflt ∧ dflt < n) : 0 ≤ settledField f role row.id dflt ∧ settledField f role row.id dflt < n := by
  by_cases used : role ∈ row.uses
  · cases programmed : f row.id with
    | none => rwa [settledField_default listed (.inl programmed)]
    | some v =>
      rw [settledField_programmed listed used programmed, kind, FieldKind.settle]
      split
      · exact h
      · omega
  · rwa [settledField_default listed (.inr used)]

/-- Bit k of the enables is field 16 + k. -/
theorem enables_getLsbD (vnom fnom k : Nat) (h : k < 10) :
    (pesSettings f role vnom fnom).enables.getLsbD k = ((settledField f role (16 + k) 1).toNat == 1) := by
  have bit (i : Nat) (b : Bool) : (bit1 b).getLsbD i = (decide (i = 0) && b) := by
    cases i <;> simp [bit1]
  unfold pesSettings
  simp only [BitVec.getLsbD_append, bit]
  interval_cases k <;> simp

/-- A set-or-clear value. -/
theorem flag_eq {x : Int} (h : 0 ≤ x ∧ x < 2) : (if (x.toNat == 1) = true then 1 else 0 : Int) = x := by
  obtain rfl | rfl : x = 0 ∨ x = 1 := by omega
  · rfl
  · rfl

theorem not_flag_eq {x : Int} (h : 0 ≤ x ∧ x < 2) : (if (!(x.toNat == 0)) = true then 1 else 0 : Int) = x := by
  obtain rfl | rfl : x = 0 ∨ x = 1 := by omega
  · rfl
  · rfl

theorem drive_eq {x : Int} (h : 0 ≤ x ∧ x < 3) :
    (match driveOfCode x with | .low => 0 | .normal => 1 | .high => 2 : Int) = x := by
  obtain rfl | rfl | rfl : x = 0 ∨ x = 1 ∨ x = 2 := by omega
  · rfl
  · rfl
  · rfl

/-- Every code holds the value of its field. -/
theorem codeRows_values : ∀ x ∈ codeRows (settingsOf f role), x.value = settledField f role x.id x.dflt := by
  have two (id : Nat) (dflt : Int) (h : 0 ≤ dflt ∧ dflt < 2)
      (listed : ∃ row ∈ fieldRows, row.id = id ∧ row.kind = .code 2) :
      0 ≤ settledField f role id dflt ∧ settledField f role id dflt < 2 := by
    obtain ⟨row, listed, rfl, kind⟩ := listed
    exact settledField_code f role listed kind h
  have drive := drive_eq (settledField_code f role (row := ⟨52, .code 3, everyRole⟩) (dflt := 1) (n := 3)
    (by decide +kernel) rfl (by decide))
  have listed : ∀ k < 10, ∃ row ∈ fieldRows, row.id = 16 + k ∧ row.kind = .code 2 := by decide +kernel
  have enables : ∀ k < 10, (if (settingsOf f role).pes.enables.getLsbD k = true then 1 else 0 : Int) =
      settledField f role (16 + k) 1 := by
    intro k below
    have bit := enables_getLsbD f role (stationSettings f role).vnom (stationSettings f role).fnom k below
    rw [← flag_eq (two _ 1 (by decide) (listed k below)), ← bit]
    rfl
  simp only [codeRows, List.forall_mem_append, List.forall_mem_cons, List.forall_mem_map, List.mem_range]
  refine ⟨⟨⟨not_flag_eq (two 9 0 (by decide) (by decide +kernel)), nofun⟩, enables⟩, ?_⟩
  refine ⟨flag_eq (two 51 0 (by decide) (by decide +kernel)), drive, flag_eq (two 64 1 (by decide) (by decide +kernel)), ?_⟩
  refine ⟨flag_eq (two 82 1 (by decide) (by decide +kernel)), flag_eq (two 86 0 (by decide) (by decide +kernel)), ?_⟩
  refine ⟨flag_eq (two 87 1 (by decide) (by decide +kernel)), flag_eq (two 102 0 (by decide) (by decide +kernel)), ?_⟩
  exact ⟨flag_eq (two 105 1 (by decide) (by decide +kernel)), nofun⟩

end force
end Sys2Proof.Machine
end

section
/-! PROOFS. The settings in force follow the table (R211, R23, R73, R196, R212). -/

namespace Sys2Proof.Machine

/-- A bit of a number taken as a word. -/
theorem getLsbD_ofInt {w k : Nat} (v : Int) (h : k < w) :
    (BitVec.ofInt w v).getLsbD k = decide (v / 2 ^ k % 2 = 1) := by
  obtain ⟨d, rfl⟩ : ∃ d, w = k + (d + 1) := ⟨w - k - 1, by omega⟩
  have word : v % 2 ^ (k + (d + 1)) / 2 ^ k % 2 = v / 2 ^ k % 2 := by
    have parts : v = v % 2 ^ (k + (d + 1)) + 2 * 2 ^ d * (v / 2 ^ (k + (d + 1))) * 2 ^ k := by
      rw [show (2 : Int) * 2 ^ d * (v / 2 ^ (k + (d + 1))) * 2 ^ k = 2 ^ (k + (d + 1)) * (v / 2 ^ (k + (d + 1))) by ring]
      exact (Int.emod_add_mul_ediv v _).symm
    conv_rhs => rw [parts, Int.add_mul_ediv_right _ _ (by positivity), mul_assoc, Int.add_mul_emod_self_left]
  have natural : 0 ≤ v % 2 ^ (k + (d + 1)) := Int.emod_nonneg _ (by positivity)
  rw [← word, BitVec.getLsbD, BitVec.toNat_ofInt, Nat.testBit_eq_decide_div_mod_eq, decide_eq_decide]
  zify
  rw [Int.toNat_of_nonneg (by exact_mod_cast natural)]

section follow
variable (f : Nat → Option Int) (role : Role)

theorem numberRows_follow : ∀ x ∈ numberRows (settingsOf f role),
    (f x.id = none ∨ role ∉ x.uses → x.value = x.dflt) ∧
      (role ∈ x.uses → ∀ v, f x.id = some v → x.value = toLimits x.lo x.hi v) := by
  intro x listed
  have row : x.asNumber ∈ fieldRows := (mem_fieldRows_iff _ _).2 (.inl ⟨x, listed, rfl⟩)
  rw [numberRows_values f role x listed]
  exact ⟨settledField_default (row := x.asNumber) row,
    fun used v h => settledField_programmed (row := x.asNumber) row used h⟩

theorem codeRows_lo (st : Settings) : ∀ x ∈ codeRows st, x.lo = 0 := by
  simp only [codeRows, List.forall_mem_append, List.forall_mem_cons, List.forall_mem_map]
  simp

theorem codeRows_follow : ∀ x ∈ codeRows (settingsOf f role),
    (f x.id = none ∨ role ∉ x.uses → x.value = x.dflt) ∧
      (role ∈ x.uses → ∀ v, f x.id = some v → x.value = if x.lo ≤ v ∧ v ≤ x.hi then v else x.dflt) := by
  intro x listed
  have row : x.asCode ∈ fieldRows := (mem_fieldRows_iff _ _).2 (.inr (.inl ⟨x, listed, rfl⟩))
  rw [codeRows_values f role x listed, codeRows_lo _ x listed]
  refine ⟨settledField_default (row := x.asCode) row, fun used v h => ?_⟩
  rw [show x.id = x.asCode.id from rfl, settledField_programmed row used h]
  show (if v < 0 ∨ x.hi + 1 ≤ v then x.dflt else v) = _
  split_ifs <;> omega

/-- A field that every role uses. -/
theorem settledField_every {row : FieldRow} {dflt : Int} (listed : row ∈ fieldRows) (uses : row.uses = everyRole) :
    settledField f role row.id dflt = match f row.id with | some v => row.kind.settle dflt v | none => dflt := by
  have used : role ∈ row.uses := by
    rw [uses]
    cases role <;> decide
  cases programmed : f row.id with
  | none => exact settledField_default listed (.inl programmed)
  | some v => exact settledField_programmed listed used programmed

theorem settledAction_eq {id : Nat} (listed : (⟨id, .code 3, everyRole⟩ : FieldRow) ∈ fieldRows) :
    settledAction f role id =
      let dflt : Action := match role with | .generator => .trip | .incomer => .source | .tie | .feeder => .disabled
      match f id with
      | some v =>
        if v = 0 then .trip
        else if v = 1 then (if role = .incomer then .source else .disabled)
        else if v = 2 then .disabled else dflt
      | none => dflt := by
  have value := settledField_every f role (dflt := defaultAction role) listed rfl
  unfold settledAction
  rw [value]
  cases f id with
  | none => cases role <;> rfl
  | some v =>
    simp only [FieldKind.settle]
    by_cases h : v < 0 ∨ 3 ≤ v
    · have h0 : v ≠ 0 := by omega
      have h1 : v ≠ 1 := by omega
      have h2 : v ≠ 2 := by omega
      cases role <;> simp [h, h0, h1, h2, defaultAction, actionOfCode]
    · obtain rfl | rfl | rfl : v = 0 ∨ v = 1 ∨ v = 2 := by omega
      · cases role <;> rfl
      · cases role <;> rfl
      · cases role <;> rfl

theorem rminGiven_bounds (id : Nat) : 1 ≤ rminGiven f id ∧ rminGiven f id ≤ 65535 := by
  unfold rminGiven
  cases f id with
  | none => exact ⟨by decide, by decide⟩
  | some v => simp [toLimits]

theorem rmaxGiven_bounds (id : Nat) : 1 ≤ rmaxGiven f id ∧ rmaxGiven f id ≤ 65535 := by
  unfold rmaxGiven
  cases f id with
  | none => exact ⟨by decide, by decide⟩
  | some v => simp [toLimits]

/-- A resistance pair as the image gives it. -/
def givenPair (a b : Nat) : Nat × Nat := ((rminGiven f a).toNat, (rmaxGiven f b).toNat)

theorem settledPair_eq (a b : Nat) :
    let p := settledPair (givenPair f a b).1 (givenPair f a b).2
    (p.1 : Int) = min 65534 (rminGiven f a) ∧
      (p.2 : Int) = max (rmaxGiven f b) (min 65534 (rminGiven f a) + 1) := by
  have low := rminGiven_bounds f a
  have high := rmaxGiven_bounds f b
  unfold settledPair givenPair
  dsimp only
  split_ifs <;> constructor <;> dsimp only <;> omega

/-- An override (R73). -/
theorem settledPair_overrides (a b : Nat) :
    (settledPair (givenPair f a b).1 (givenPair f a b).2 != givenPair f a b) = true ↔ rmaxGiven f b ≤ rminGiven f a := by
  have low := rminGiven_bounds f a
  have high := rmaxGiven_bounds f b
  rw [bne_iff_ne]
  unfold settledPair givenPair
  dsimp only
  split_ifs <;> simp only [ne_eq, Prod.mk.injEq, not_and, true_and, not_true_eq_false, false_iff] <;> omega

/-- The resistance limits as the image gives them. -/
theorem settledField_rmin {id : Nat} (listed : (⟨id, .number 1 65535, everyRole⟩ : FieldRow) ∈ fieldRows) :
    settledField f role id 20 = rminGiven f id := by
  refine (settledField_every f role (dflt := 20) listed rfl).trans ?_
  unfold rminGiven
  cases f id <;> rfl

theorem settledField_rmax {id : Nat} (listed : (⟨id, .number 1 65535, everyRole⟩ : FieldRow) ∈ fieldRows) :
    settledField f role id 1000 = rmaxGiven f id := by
  refine (settledField_every f role (dflt := 1000) listed rfl).trans ?_
  unfold rmaxGiven
  cases f id <;> rfl

theorem settledPairs_given :
    ((settledField f role 54 20).toNat, (settledField f role 55 1000).toNat) = givenPair f 54 55 ∧
      ((settledField f role 56 20).toNat, (settledField f role 57 1000).toNat) = givenPair f 56 57 := by
  rw [settledField_rmin f role (by decide +kernel), settledField_rmax f role (by decide +kernel),
    settledField_rmin f role (by decide +kernel), settledField_rmax f role (by decide +kernel)]
  exact ⟨rfl, rfl⟩

theorem pairRows_follow : ∀ x ∈ pairRows (settingsOf f role),
    (x.1 : Int) = min 65534 (rminGiven f x.2.2.1) ∧
      (x.2.1 : Int) = max (rmaxGiven f x.2.2.2) (min 65534 (rminGiven f x.2.2.1) + 1) := by
  obtain ⟨trip, close⟩ := settledPairs_given f role
  obtain ⟨rminTrip, rmaxTrip⟩ := Prod.mk.inj trip
  obtain ⟨rminClose, rmaxClose⟩ := Prod.mk.inj close
  simp only [pairRows, List.forall_mem_cons, settingsOf, breakerSettings, rminTrip, rmaxTrip, rminClose, rmaxClose]
  exact ⟨settledPair_eq f 54 55, settledPair_eq f 56 57, nofun⟩

theorem pairOverridden_iff :
    pairOverridden f role = true ↔ rmaxGiven f 55 ≤ rminGiven f 54 ∨ rmaxGiven f 57 ≤ rminGiven f 56 := by
  obtain ⟨trip, close⟩ := settledPairs_given f role
  obtain ⟨rminTrip, rmaxTrip⟩ := Prod.mk.inj trip
  obtain ⟨rminClose, rmaxClose⟩ := Prod.mk.inj close
  rw [← settledPair_overrides f 54 55, ← settledPair_overrides f 56 57, ← Bool.or_eq_true]
  simp only [pairOverridden, rminTrip, rmaxTrip, rminClose, rmaxClose]
  exact Iff.rfl

end follow

/-- A mask of a field that every role uses. -/
theorem settledField_mask {f : Nat → Option Int} {role : Role} {id : Nat} {dflt : Int}
    (listed : (⟨id, .mask, everyRole⟩ : FieldRow) ∈ fieldRows) : settledField f role id dflt = (f id).getD dflt := by
  refine (settledField_every f role (dflt := dflt) listed rfl).trans ?_
  cases f id <;> rfl

/-- A bit of a mask of a field that every role uses. -/
theorem mask_getLsbD {f : Nat → Option Int} {role : Role} {id w k : Nat} {dflt : Int} {bit : Bool}
    (listed : (⟨id, .mask, everyRole⟩ : FieldRow) ∈ fieldRows) (below : k < w) (h : decide (dflt / 2 ^ k % 2 = 1) = bit) :
    (BitVec.ofInt w (settledField f role id dflt)).getLsbD k =
      match f id with | some v => decide (v / 2 ^ k % 2 = 1) | none => bit := by
  rw [getLsbD_ofInt _ below, settledField_mask listed]
  cases f id with
  | none => exact h
  | some v => rfl

/-- The settings of an image follow the table (R211, R23, R73, R196, R212). -/
theorem settingsOf_follow (f : Nat → Option Int) (role : Role) : SettingsFollow f role (settingsOf f role) := by
  have every (id : Nat) (lo hi dflt : Int) (listed : (⟨id, .number lo hi, everyRole⟩ : FieldRow) ∈ fieldRows) (v : Int)
      (h : f id = some v) : settledField f role id dflt = toLimits lo hi v := by
    refine (settledField_every f role (dflt := dflt) listed rfl).trans ?_
    rw [show f (FieldRow.id ⟨id, .number lo hi, everyRole⟩) = some v from h]
    rfl
  have own (other : role ≠ .tie) : (stationSettings f role).sections =
      { a := !(stationSettings f role).sectionB, b := (stationSettings f role).sectionB } := if_neg other
  refine ⟨rfl, fun tie => if_pos tie, fun other => ⟨fun a => ?_, fun b => ?_⟩, rfl, fun v h => ?_, ?_,
    fun generator v h => ?_, numberRows_follow f role, codeRows_follow f role, ?_, pairRows_follow f role,
    fun k below => ?_, ?_, fun g below => ?_⟩
  · refine (own other).trans ?_
    simp [stationSettings, a]
  · refine (own other).trans ?_
    simp [stationSettings, b]
  · exact (settledField_toNat (by decide) (by decide)).trans (every 4 100 32767 100 (by decide +kernel) v h)
  · have limited := every 7 1 2147483647 1 (by decide +kernel)
    simp only [settingsOf, stationSettings]
    cases flp : f 7 with
    | none => rfl
    | some v => exact congrArg some ((settledField_toNat (by decide) (by decide)).trans (limited v flp))
  · refine (settledField_toNat (by decide) (by decide)).trans ?_
    exact settledField_programmed (row := ⟨8, .number 1 65535, [.generator]⟩) (by decide +kernel) (by simp [generator]) h
  · simp only [actionRows, List.forall_mem_cons]
    exact ⟨settledAction_eq f role (by decide +kernel), settledAction_eq f role (by decide +kernel),
      settledAction_eq f role (by decide +kernel), settledAction_eq f role (by decide +kernel), nofun⟩
  · refine mask_getLsbD (by decide +kernel) below ?_
    interval_cases k <;> rfl
  · have bit (k : Nat) (below : k < 8) : (BitVec.ofInt 8 (settledField f role 103 15)).getLsbD k =
        match f 103 with | some v => decide (v / 2 ^ k % 2 = 1) | none => decide (k < 4) := by
      refine mask_getLsbD (by decide +kernel) below ?_
      interval_cases k <;> rfl
    refine ⟨bit 0 (by decide), bit 1 (by decide), bit 2 (by decide), bit 3 (by decide), fun g below => ?_⟩
    refine Eq.trans ?_ (bit (4 + g) (by omega))
    simp [settingsOf, drcSettings, below]
  · refine mask_getLsbD (by decide +kernel) below ?_
    simp

end Sys2Proof.Machine
end

section
/-! PROOFS. CLAMPED, and the judgement of an image (R196). -/

namespace Sys2Proof.Machine

/-! ### CLAMPED (R196) -/

section clamps
variable (f : Nat → Option Int) (role : Role)

/-- A programmed value lies outside its limits. -/
def Outside (id : Nat) (lo hi : Int) : Prop := ∃ v, f id = some v ∧ (v < lo ∨ hi < v)

/-- A programmed value lies outside its row. -/
def RowOutside (row : FieldRow) : Prop := ∃ v, f row.id = some v ∧ row.kind.outside v = true

theorem rowOutside_number (id : Nat) (lo hi : Int) (uses : List Role) :
    RowOutside f ⟨id, .number lo hi, uses⟩ ↔ Outside f id lo hi := by
  simp [RowOutside, Outside, FieldKind.outside]

theorem rowOutside_code (id : Nat) (hi : Int) (uses : List Role) :
    RowOutside f ⟨id, .code (hi + 1), uses⟩ ↔ Outside f id 0 hi := by
  simp [RowOutside, Outside, FieldKind.outside]

theorem rowOutside_mask (id : Nat) (uses : List Role) : ¬ RowOutside f ⟨id, .mask, uses⟩ := by
  simp [RowOutside, FieldKind.outside]

theorem anyFieldOutside_iff :
    anyFieldOutside f role = true ↔ ∃ row ∈ fieldRows, role ∈ row.uses ∧ RowOutside f row := by
  unfold anyFieldOutside RowOutside
  simp only [List.any_eq_true, Bool.and_eq_true, List.contains_iff_mem]
  refine exists_congr fun row => and_congr_right fun _ => and_congr_right fun _ => ?_
  cases f row.id <;> simp

/-- The rows of the statement's table, and the others. -/
theorem fieldRows_outside_iff (st : Settings) : (∃ row ∈ fieldRows, role ∈ row.uses ∧ RowOutside f row) ↔
    (∃ x ∈ numberRows st ++ codeRows st, role ∈ x.uses ∧ Outside f x.id x.lo x.hi) ∨
      ∃ row ∈ otherRows, role ∈ row.uses ∧ RowOutside f row := by
  have number (x : TableRow) : RowOutside f x.asNumber ↔ Outside f x.id x.lo x.hi := rowOutside_number f _ _ _ _
  have code (x : TableRow) (listed : x ∈ codeRows st) : RowOutside f x.asCode ↔ Outside f x.id x.lo x.hi := by
    rw [codeRows_lo st x listed]
    exact rowOutside_code f _ _ _
  constructor
  · rintro ⟨row, listed, used, out⟩
    obtain ⟨x, hx, rfl⟩ | ⟨x, hx, rfl⟩ | other := (mem_fieldRows_iff st row).1 listed
    · exact .inl ⟨x, List.mem_append_left _ hx, used, (number x).1 out⟩
    · exact .inl ⟨x, List.mem_append_right _ hx, used, (code x hx).1 out⟩
    · exact .inr ⟨row, other, used, out⟩
  · rintro (⟨x, listed, used, out⟩ | ⟨row, other, used, out⟩)
    · obtain hx | hx := List.mem_append.1 listed
      · exact ⟨x.asNumber, (mem_fieldRows_iff st _).2 (.inl ⟨x, hx, rfl⟩), used, (number x).2 out⟩
      · exact ⟨x.asCode, (mem_fieldRows_iff st _).2 (.inr (.inl ⟨x, hx, rfl⟩)), used, (code x hx).2 out⟩
    · exact ⟨row, (mem_fieldRows_iff st row).2 (.inr (.inr other)), used, out⟩

/-- The other rows, written out, of an image that names a role. -/
theorem otherRows_outside_iff (named : ¬ Outside f 1 0 3) : (∃ row ∈ otherRows, role ∈ row.uses ∧ RowOutside f row) ↔
    (role ≠ .tie ∧ Outside f 2 0 1) ∨ Outside f 4 100 32767 ∨ Outside f 7 1 2147483647 ∨
      (role = .generator ∧ Outside f 8 1 65535) ∨
      (Outside f 26 0 2 ∨ Outside f 27 0 2 ∨ Outside f 28 0 2 ∨ Outside f 29 0 2) ∨
      (Outside f 54 1 65535 ∨ Outside f 55 1 65535 ∨ Outside f 56 1 65535 ∨ Outside f 57 1 65535) := by
  have every : role ∈ everyRole := by cases role <;> decide
  have sections : role ∈ ([.incomer, .generator, .feeder] : List Role) ↔ role ≠ .tie := by cases role <;> decide
  have code2 := rowOutside_code f (hi := 1)
  have code3 := rowOutside_code f (hi := 2)
  have code4 := rowOutside_code f (hi := 3)
  simp only [Int.reduceAdd] at code2 code3 code4
  simp only [otherRows, List.exists_mem_cons_iff, List.mem_singleton, exists_eq_left, every, sections, true_and,
    rowOutside_number, rowOutside_mask, code2, code3, code4, named, or_false, false_or, or_assoc]

theorem fnomOutside_iff : fnomOutside f = true ↔ ∃ v, f 3 = some v ∧ v ≠ 50 ∧ v ≠ 60 := by
  unfold fnomOutside
  cases f 3 <;> simp

theorem actionOverridden_iff : actionOverridden f role = true ↔
    role ≠ .incomer ∧ (f 26 = some 1 ∨ f 27 = some 1 ∨ f 28 = some 1 ∨ f 29 = some 1) := by
  have source (other : role ≠ .incomer) {id : Nat} (listed : (⟨id, .code 3, everyRole⟩ : FieldRow) ∈ fieldRows) :
      settledField f role id (defaultAction role) = 1 ↔ f id = some 1 := by
    have apart : defaultAction role ≠ 1 := by cases role <;> simp_all [defaultAction]
    rw [settledField_every f role (dflt := defaultAction role) listed rfl]
    cases f id with
    | none => simp [apart]
    | some v =>
      simp only [FieldKind.settle]
      split_ifs
      · simp only [apart, Option.some.injEq, false_iff]
        omega
      · simp
  unfold actionOverridden
  rw [Bool.and_eq_true, bne_iff_ne]
  refine and_congr_right fun other => ?_
  simp [source other (id := 26) (by decide +kernel), source other (id := 27) (by decide +kernel),
    source other (id := 28) (by decide +kernel), source other (id := 29) (by decide +kernel)]

/-- The clauses of the actions and of the resistance pairs, written out. -/
theorem actionRows_clamps (st : Settings) :
    (∃ x ∈ actionRows st, Outside f x.2 0 2 ∨ (role ≠ .incomer ∧ f x.2 = some 1)) ↔
      (Outside f 26 0 2 ∨ Outside f 27 0 2 ∨ Outside f 28 0 2 ∨ Outside f 29 0 2) ∨
        (role ≠ .incomer ∧ (f 26 = some 1 ∨ f 27 = some 1 ∨ f 28 = some 1 ∨ f 29 = some 1)) := by
  simp only [actionRows, List.exists_mem_cons_iff, List.mem_singleton, exists_eq_left]
  simp only [and_or_left]
  exact Iff.of_eq (by ac_rfl)

theorem pairRows_clamps (st : Settings) :
    (∃ x ∈ pairRows st, Outside f x.2.2.1 1 65535 ∨ Outside f x.2.2.2 1 65535 ∨
      rmaxGiven f x.2.2.2 ≤ rminGiven f x.2.2.1) ↔
      (Outside f 54 1 65535 ∨ Outside f 55 1 65535 ∨ Outside f 56 1 65535 ∨ Outside f 57 1 65535) ∨
        (rmaxGiven f 55 ≤ rminGiven f 54 ∨ rmaxGiven f 57 ≤ rminGiven f 56) := by
  simp only [pairRows, List.exists_mem_cons_iff, List.mem_singleton, exists_eq_left]
  exact Iff.of_eq (by ac_rfl)

/-- CLAMPED is set exactly as the table says. -/
theorem settingsClamped_iff (required : Required f role) :
    settingsClamped f role = true ↔ Clamps f role (settingsOf f role) := by
  have named : ¬ Outside f 1 0 3 := by
    rintro ⟨v, programmed, out⟩
    rw [required.1] at programmed
    cases role <;> simp at programmed <;> omega
  unfold settingsClamped
  rw [Bool.or_eq_true, Bool.or_eq_true, Bool.or_eq_true, anyFieldOutside_iff, fieldRows_outside_iff f role
    (settingsOf f role), otherRows_outside_iff f role named, fnomOutside_iff, actionOverridden_iff, pairOverridden_iff]
  show _ ↔ (∃ x ∈ numberRows (settingsOf f role) ++ codeRows (settingsOf f role),
      role ∈ x.uses ∧ Outside f x.id x.lo x.hi) ∨ (role ≠ .tie ∧ Outside f 2 0 1) ∨ _ ∨ Outside f 4 100 32767 ∨ Outside f 7 1 2147483647 ∨
    (role = .generator ∧ Outside f 8 1 65535) ∨
    (∃ x ∈ actionRows (settingsOf f role), Outside f x.2 0 2 ∨ (role ≠ .incomer ∧ f x.2 = some 1)) ∨
    (∃ x ∈ pairRows (settingsOf f role), Outside f x.2.2.1 1 65535 ∨ Outside f x.2.2.2 1 65535 ∨
      rmaxGiven f x.2.2.2 ≤ rminGiven f x.2.2.1)
  rw [actionRows_clamps, pairRows_clamps]
  exact Iff.of_eq (by ac_rfl)

end clamps
/-! ### The judgement (R196) -/

section judgement
variable (image : List Byte)

/-- The first two checks. -/
def HeaderGood : Prop :=
  (imageByte image 0 = 0x46 ∧ imageByte image 1 = 0x20) ∧
    (12 ≤ headerLength image ∧ headerLength image ≤ 774 ∧ ∃ k, 1 ≤ k ∧ headerLength image = 6 + 6 * k)

/-- The third check. -/
def CrcGood : Prop :=
  crc16 ((List.range (headerLength image - 2)).map (imageByte image)) =
    imageByte image (headerLength image - 2) ++ imageByte image (headerLength image - 1)

theorem headerGood_iff :
    HeaderGood image ↔ imageFormat image = 0x4620 ∧ lengthPermitted (imageLength image) = true := by
  rw [imageFormat_iff, lengthPermitted_iff, imageLength_eq]
  exact Iff.rfl

theorem crcGood_iff (header : HeaderGood image) : CrcGood image ↔ imageCrcAgrees image = true := by
  have low : 12 ≤ headerLength image := header.2.1
  have last : headerLength image - 2 + 1 = headerLength image - 1 := by omega
  rw [imageCrcAgrees, beq_iff_eq, imageCovered, imageLength_eq, read16, last]
  exact Iff.rfl

theorem judgeImage_of_header (bad : ¬ HeaderGood image) : judgeImage image = .badImage := by
  rw [headerGood_iff, not_and_or] at bad
  unfold judgeImage
  by_cases format : imageFormat image = 0x4620
  · have length : lengthPermitted (imageLength image) = false :=
      Bool.eq_false_iff.2 (bad.resolve_left (not_not.2 format))
    simp [format, length]
  · exact if_pos format

theorem judgeImage_of_crc (header : HeaderGood image) (bad : ¬ CrcGood image) : judgeImage image = .badCrc := by
  rw [crcGood_iff image header] at bad
  obtain ⟨format, length⟩ := (headerGood_iff image).1 header
  simp [judgeImage, format, length, bad]

theorem judgeImage_of_role (header : HeaderGood image) (crc : CrcGood image)
    (bad : ∀ role, ¬ Required (imageField image) role) : judgeImage image = .badImage := by
  rw [crcGood_iff image header] at crc
  obtain ⟨format, length⟩ := (headerGood_iff image).1 header
  simp only [judgeImage, format, length, crc]
  cases named : imageRole (imageField image) with
  | none => rfl
  | some role =>
    have missing : requiredProgrammed (imageField image) role ≠ true := fun k => bad role ((required_iff _ _).2 ⟨named, k⟩)
    simp [missing]

theorem judgeImage_of_good (header : HeaderGood image) (crc : CrcGood image) {role : Role}
    (required : Required (imageField image) role) :
    judgeImage image = .good (settingsOf (imageField image) role) (settingsClamped (imageField image) role) := by
  rw [crcGood_iff image header] at crc
  obtain ⟨format, length⟩ := (headerGood_iff image).1 header
  obtain ⟨named, programmed⟩ := (required_iff _ _).1 required
  simp [judgeImage, format, length, crc, named, programmed]

/-- The four outcomes of the judgement, each with its condition. -/
theorem judgeImage_cases :
    (¬ HeaderGood image ∧ judgeImage image = .badImage) ∨
      (HeaderGood image ∧ ¬ CrcGood image ∧ judgeImage image = .badCrc) ∨
      (HeaderGood image ∧ CrcGood image ∧ (∀ role, ¬ Required (imageField image) role) ∧
        judgeImage image = .badImage) ∨
      (HeaderGood image ∧ CrcGood image ∧ ∃ role, Required (imageField image) role ∧
        judgeImage image = .good (settingsOf (imageField image) role) (settingsClamped (imageField image) role)) := by
  by_cases header : HeaderGood image
  · by_cases crc : CrcGood image
    · by_cases role : ∃ role, Required (imageField image) role
      · obtain ⟨role, required⟩ := role
        exact .inr (.inr (.inr ⟨header, crc, role, required, judgeImage_of_good image header crc required⟩))
      · have none := not_exists.1 role
        exact .inr (.inr (.inl ⟨header, crc, none, judgeImage_of_role image header crc none⟩))
    · exact .inr (.inl ⟨header, crc, judgeImage_of_crc image header crc⟩)
  · exact .inl ⟨header, judgeImage_of_header image header⟩

theorem judgeImage_badImage_iff : judgeImage image = .badImage ↔
    ¬ HeaderGood image ∨ (CrcGood image ∧ ∀ role, ¬ Required (imageField image) role) := by
  obtain ⟨header, e⟩ | ⟨header, crc, e⟩ | ⟨header, crc, none, e⟩ | ⟨header, crc, role, required, e⟩ :=
    judgeImage_cases image
  · simp [header, e]
  · simp [header, crc, e]
  · exact ⟨fun _ => .inr ⟨crc, none⟩, fun _ => e⟩
  · rw [e]
    simp only [header, crc, not_true_eq_false, true_and, false_or, reduceCtorEq, false_iff, not_forall, not_not]
    exact ⟨role, required⟩

theorem judgeImage_badCrc_iff : judgeImage image = .badCrc ↔ HeaderGood image ∧ ¬ CrcGood image := by
  obtain ⟨header, e⟩ | ⟨header, crc, e⟩ | ⟨header, crc, none, e⟩ | ⟨header, crc, role, required, e⟩ :=
    judgeImage_cases image
  · simp [header, e]
  · simp [header, crc, e]
  · simp [crc, e]
  · simp [crc, e]

/-- A good image puts the settings of the table in force. -/
theorem judgeImage_good {st : Settings} {clamped : Bool} (good : judgeImage image = .good st clamped) :
    ∃ role, Required (imageField image) role ∧ SettingsFollow (imageField image) role st ∧
      (clamped = true ↔ Clamps (imageField image) role st) := by
  obtain ⟨-, e⟩ | ⟨-, -, e⟩ | ⟨-, -, -, e⟩ | ⟨-, -, role, required, e⟩ := judgeImage_cases image
  · cases e.symm.trans good
  · cases e.symm.trans good
  · cases e.symm.trans good
  · obtain ⟨rfl, rfl⟩ := ImageJudgement.good.inj (e.symm.trans good)
    exact ⟨role, required, settingsOf_follow _ role, settingsClamped_iff _ role required⟩

end judgement

end Sys2Proof.Machine
end

section
/-! PROOFS. The end of START (R195 to R197), the way into service (R198, R199, R203), the cubicle inputs (R201, R202) and
the ALARM output (R203). -/

namespace Sys2Proof.Machine

variable {s u : State} {st : Settings}

/-! ### The end of a command of the service controller -/

/-- A command that leaves what the ZERO conditions and the line read leaves nothing to do at its end. -/
theorem settle_of_service (h : Settled s) (k : Only [.localTime, .pins, .ssc, .due] s u)
    (station : u.ssc.station = s.ssc.station) : settle u = u := by
  have sli : u.sli = s.sli := k.get .sli (by decide)
  have lsc : u.lsc = s.lsc := k.get .lsc (by decide)
  have zero : u.zeroHolds = s.zeroHolds :=
    zeroHolds_congr (k.get .settings (by decide)) station (congrArg Bkc.state (k.get .bkc (by decide)))
      (congrArg Syn.state (k.get .syn (by decide)))
  refine settle_of_settled ?_
  unfold Settled ZeroSettled LineSettled at *
  rwa [zero, lsc, station, sli]

theorem done_of_service (h : Settled s) (k : Only [.localTime, .pins, .ssc, .due] s u)
    (station : u.ssc.station = s.ssc.station) : ∃ t, done s u = .next t ∧ t = u.withDue t.due := by
  refine ⟨_, rfl, ?_⟩
  rw [settle_of_service h k station]
  exact publish_eq s u

/-- A passage after START leaves a line that is settled, and may bring the load share controller to ZERO. -/
theorem done_of_passage (line : LineSettled s) (sli : u.sli = s.sli)
    (service : u.ssc.station ≠ .start → s.ssc.station ≠ .start) :
    ∃ t, done s u = .next t ∧ t = (u.withLsc t.lsc).withDue t.due := by
  have idle : u.nextSlot = none := by
    by_contra waits
    obtain ⟨slot, waits⟩ := Option.ne_none_iff_exists'.1 waits
    obtain ⟨away, free, flight, choice⟩ := nextSlot_some waits
    rw [sli] at free flight choice
    exact Option.some_ne_none slot (choice.symm.trans (line (service away) free flight))
  refine ⟨_, rfl, ?_⟩
  have link : (settle u).sli = u.sli := by rw [settle_sli, idle]
  rw [publish_eq, settle_eq, link]
  rfl

/-! ### The end of START -/

@[simp] theorem Lsc.toZero_shareTimer (l : Lsc) : l.toZero.shareTimer = l.shareTimer := rfl

@[simp] theorem settle_shareTimer (v : State) : (settle v).lsc.shareTimer = v.lsc.shareTimer := by
  rw [settle_lsc]
  split
  · rfl
  · rfl

section link
variable (l : Sli) (x : Report) (v : State)

/-- A report placed leaves the PRESENCE frame and its timer. -/
theorem Sli.placeReport_presence : (l.placeReport x).presenceSlot = l.presenceSlot ∧
    (l.placeReport x).presenceTimer = l.presenceTimer ∧ (l.placeReport x).presenceLeft = l.presenceLeft := by
  have touched : (l.touch .report).presenceSlot = l.presenceSlot ∧
      (l.touch .report).presenceTimer = l.presenceTimer ∧ (l.touch .report).presenceLeft = l.presenceLeft := by
    unfold Sli.touch
    repeat' split
    all_goals exact ⟨rfl, rfl, rfl⟩
  unfold Sli.placeReport Sli.whenOnAir
  split
  · exact ⟨rfl, rfl, rfl⟩
  · exact touched

theorem Sli.placeReport_isSome (free : l.conflict = none) : (l.placeReport x).reportSlot.isSome := by
  simp [Sli.placeReport, Sli.whenOnAir, free]

/-- A frame that begins leaves every item where it waits. -/
theorem settle_slots : (settle v).sli.presenceSlot = v.sli.presenceSlot ∧
    (settle v).sli.presenceTimer = v.sli.presenceTimer ∧ (settle v).sli.presenceLeft = v.sli.presenceLeft ∧
    (settle v).sli.reportSlot = v.sli.reportSlot := by
  rw [settle_sli]
  split
  · exact ⟨rfl, rfl, rfl, rfl⟩
  · exact ⟨rfl, rfl, rfl, rfl⟩

end link

theorem beginService_only : Only [.drc, .due, .lsc, .ptb, .sli] s (beginService s) :=
  Only.beginService (by decide) (by decide) (by decide) (by decide) (by decide) Only.refl

/-- What the end of START starts: the share interval, an add mark and the first report (R120, R141). -/
theorem beginService_starts (away : s.ssc.station ≠ .start) :
    (beginService s).ptb.reportTimer = some (s.localTime + 20) ∧ (beginService s).ptb.addMark = some s.localTime ∧
      (beginService s).lsc.shareTimer = some (s.localTime + 20) ∧
      ∃ x, (beginService s).sli = s.sli.placeReport x := by
  have viewed (v : State) : v.publishView = v.withDue v.publishView.due := State.notifyAll_eq _ v
  unfold beginService
  dsimp only
  rw [viewed, placeReport, if_neg (by exact away)]
  exact ⟨rfl, rfl, rfl, _, rfl⟩

/-- START that ends into SETTINGS_FAULT (R195, R197). -/
theorem enterSettingsFault_outcome : let t := publish s (settle (enterSettingsFault s))
    t.ssc.station = .settingsFault ∧ t.settings = s.settings ∧ t.ptb.reportTimer = some (s.localTime + 20) ∧
      t.ptb.addMark = some s.localTime := by
  obtain ⟨timer, mark, -, -⟩ := beginService_starts (s := s.withSsc { s.ssc with
    station := .settingsFault, reading := false, readRetry := none }) (by simp)
  have begun := Steady.refl.beginService (s := s.withSsc { s.ssc with
    station := .settingsFault, reading := false, readRetry := none })
  dsimp only
  simp only [publish_ssc, settle_ssc, publish_settings, settle_settings, publish_ptb, settle_ptb]
  exact ⟨begun.station, begun.settings, timer, mark⟩

/-- A read attempt that may be made again (R195). -/
theorem failAttempt_again (h : Settled s) (few : s.ssc.attempts < 3) :
    ∃ t, done s (failAttempt s) = .next t ∧ t = { s with due := t.due, ssc := t.ssc } ∧
      t.ssc = { s.ssc with reading := false, readRetry := some (s.localTime + 10) } := by
  have again : failAttempt s = s.withSsc { s.ssc with reading := false, readRetry := some (s.localTime + 10) } :=
    if_neg (by omega)
  rw [again]
  obtain ⟨t, ht, e⟩ := done_of_service (u := s.withSsc { s.ssc with reading := false, readRetry := some (s.localTime + 10) })
    h (Only.withSsc (by decide) Only.refl _) rfl
  have ssc : t.ssc = { s.ssc with reading := false, readRetry := some (s.localTime + 10) } := by rw [e]; rfl
  exact ⟨t, ht, by rw [ssc]; exact e, ssc⟩

/-- The breaker at the end of START: derived from its contacts, with lockout from LOCKOUT_IN (R45, R62). -/
theorem startBreaker_eq : startBreaker s =
    (((s.withCds ((s.cds.stopped .close).stopped .trip)).withBkc { s.bkc with
      tripPulse := none, closePulse := none, closingTimer := none, stuckTimer := none, discrepancyTimer := none
      state := s.contacts.derived, lockout := s.input .lockoutIn }).withSyn
        { s.syn with lockoutSeen := s.input .lockoutIn }).withCsq { s.csq with seenBreaker := s.contacts.derived } := by
  have derived : deriveBreaker s = (s.withCds ((s.cds.stopped .close).stopped .trip)).withBkc { s.bkc with
      tripPulse := none, closePulse := none, closingTimer := none, stuckTimer := none, discrepancyTimer := none
      state := s.contacts.derived } := by
    unfold deriveBreaker
    rw [bothIdle_eq]
    rfl
  unfold startBreaker
  rw [derived]
  rfl

/-- The state in which the station begins its service with a good image. -/
def imageInForce (st : Settings) (clamped : Bool) (s : State) : State :=
  let s1 := (s.withSettings (some st)).withSsc { s.ssc with
    station := .presence, clamped := clamped, reading := false, readRetry := none, presenceTimer := s.after 100,
    runRequest := st.station.role == .generator && s.input .genReady }
  startBreaker (s1.withSli (s1.sli.startPresence (s1.after 20)))

theorem enterPresence_eq (clamped : Bool) : enterPresence st clamped s = beginService (imageInForce st clamped s) := rfl

section good
variable (st s) (clamped : Bool)

/-- What a good image leaves before the service begins. -/
theorem imageInForce_fields :
    let v := imageInForce st clamped s
    v.settings = some st ∧ v.localTime = s.localTime ∧
      v.ssc = { s.ssc with
        station := .presence, clamped := clamped, reading := false, readRetry := none
        presenceTimer := some (s.localTime + 100)
        runRequest := st.station.role == .generator && s.input .genReady } ∧
      v.sli = s.sli.startPresence (some (s.localTime + 20)) ∧ v.cds = (s.cds.stopped .close).stopped .trip ∧
      v.bkc = { s.bkc with
        tripPulse := none, closePulse := none, closingTimer := none, stuckTimer := none, discrepancyTimer := none
        state := s.contacts.derived, lockout := s.input .lockoutIn } := by
  unfold imageInForce
  rw [startBreaker_eq]
  exact ⟨rfl, rfl, rfl, rfl, rfl, rfl⟩

theorem enterPresence_outcome : let t := publish s (settle (enterPresence st clamped s))
    t.settings = some st ∧ t.ssc.station = .presence ∧ t.ssc.clamped = clamped ∧
      t.ssc.presenceTimer = some (s.localTime + 100) ∧
      (t.ssc.runRequest = true ↔ st.station.role = .generator ∧ s.input .genReady = true) ∧
      t.bkc.lockout = s.input .lockoutIn ∧ t.bkc.state = s.contacts.derived ∧
      t.bkc.lockoutPulse = s.bkc.lockoutPulse ∧ t.cds.tripOut = false ∧ t.cds.closeOut = false ∧
      t.sli.presenceSlot = some .presence ∧ t.sli.presenceTimer = some (s.localTime + 20) ∧ t.sli.presenceLeft = 2 ∧
      (s.sli.conflict = none → t.sli.reportSlot.isSome) ∧
      t.ptb.reportTimer = some (s.localTime + 20) ∧ t.ptb.addMark = some s.localTime ∧
      t.lsc.shareTimer = some (s.localTime + 20) := by
  obtain ⟨settings, time, ssc, sli, cds, bkc⟩ := imageInForce_fields s st clamped
  obtain ⟨timer, mark, share, x, placed⟩ := beginService_starts (s := imageInForce st clamped s) (by rw [ssc]; simp)
  obtain ⟨slot, again, left⟩ := Sli.placeReport_presence (imageInForce st clamped s).sli x
  obtain ⟨waits, due, rest, report⟩ := settle_slots (enterPresence st clamped s)
  have kept : Only [.drc, .due, .lsc, .ptb, .sli] (imageInForce st clamped s) (enterPresence st clamped s) :=
    beginService_only
  have begunSettings : (enterPresence st clamped s).settings = some st := (kept.get .settings (by decide)).trans settings
  have begunSsc := Eq.trans (kept.get .ssc (by decide)) ssc
  have begunBkc := Eq.trans (kept.get .bkc (by decide)) bkc
  have begunCds := Eq.trans (kept.get .cds (by decide)) cds
  have begunSli : (enterPresence st clamped s).sli = (imageInForce st clamped s).sli.placeReport x := placed
  dsimp only
  simp only [publish_settings, settle_settings, publish_ssc, settle_ssc, publish_bkc, settle_bkc, publish_cds,
    settle_cds, publish_sli, publish_ptb, settle_ptb, publish_lsc, settle_shareTimer, waits, due, rest, report,
    begunSettings, begunSsc, begunBkc, begunCds, begunSli, slot, again, left]
  rw [sli]
  refine ⟨trivial, trivial, trivial, trivial, by simp, trivial, trivial, trivial, by simp, by simp, rfl, rfl, rfl,
    fun free => Sli.placeReport_isSome _ _ ?_, timer.trans ?_, mark.trans ?_, share.trans ?_⟩
  · simpa [Sli.startPresence, Sli.placePresence] using free
  · rw [time]
  · rw [time]
  · rw [time]

end good

/-! ### Into service (R198, R199, R203) -/

/-- A passage of the station state is published: to the peer table, and to the CSQ where it leads into AUTO. -/
theorem publish_passage {old s : State} (passes : old.ssc.station ≠ s.ssc.station) :
    .ptb .ssc ∈ (publish old s).due ∧ (s.ssc.station = .auto → .csqAutoEntry ∈ (publish old s).due) := by
  have sequence (v : State) {d : Delivery} (h : d ∈ v.due) : d ∈ (publishSequence old v).due := by
    unfold publishSequence
    split
    · exact h
    · exact State.mem_notify_due.2 (.inl h)
  have syn (v : State) {d : Delivery} (h : d ∈ v.due) : d ∈ (publishSyn old v).due := by
    unfold publishSyn
    split
    · exact h
    · exact State.mem_notifyAll_due.2 (.inl h)
  have lsc (v : State) {d : Delivery} (h : d ∈ v.due) : d ∈ (publishLsc old v).due := by
    unfold publishLsc
    split
    · exact h
    · exact State.mem_notify_due.2 (.inl h)
  have service : (publishBreaker old s).ssc = s.ssc := by
    rw [publishBreaker_eq]
    rfl
  have told : .ptb .ssc ∈ (publishStation old (publishBreaker old s)).due ∧
      (s.ssc.station = .auto → .csqAutoEntry ∈ (publishStation old (publishBreaker old s)).due) := by
    unfold publishStation
    rw [service, if_neg passes]
    refine ⟨State.mem_notify_due.2 (.inr rfl), fun auto => State.mem_notify_due.2 (.inl ?_)⟩
    simp [State.sendAll, auto]
  exact ⟨lsc _ (syn _ (sequence _ told.1)), fun auto => lsc _ (syn _ (sequence _ (told.2 auto)))⟩

/-- The ALARM conditions of the table (R203). -/
theorem alarm_iff : s.alarm = true ↔ s.ssc.station ≠ .start ∧ s.ssc.station ≠ .settingsFault ∧
    ¬ (s.bkc.state = .discrepant ∨ s.bkc.failedToClose = true ∨ s.bkc.stuckAlarm = true ∨
      s.cds.tripResult ∈ ([.openCircuit, .short, .highResistance, .driverFault] : List CircuitResult) ∨
      s.cds.closeResult ∈ ([.openCircuit, .short, .highResistance, .driverFault] : List CircuitResult) ∨
      s.csq.startFailed = true ∨ s.csq.blocked = true ∨ s.syn.failedAlarm = true ∨ s.ssc.convertersLost = true ∨
      s.ssc.station = .addressConflict) := by
  have faulty (x : CircuitResult) : x ∈ ([.openCircuit, .short, .highResistance, .driverFault] : List CircuitResult) ↔
      x.faulty = true := by
    cases x <;> decide
  have work : s.ssc.station.atWork = true ↔ s.ssc.station ≠ .start ∧ s.ssc.station ≠ .settingsFault := by
    cases s.ssc.station <;> decide
  rw [State.alarm, Bool.and_eq_true, work, and_assoc, faulty, faulty]
  refine and_congr_right fun start => and_congr_right fun fault => ?_
  have atWork : s.ssc.station.atWork = true := work.2 ⟨start, fault⟩
  simp [State.alarmCondition, atWork, and_assoc]

/-- A converter alarm keeps the ALARM output de-energized (R203). -/
theorem alarm_of_convertersLost (lost : s.ssc.convertersLost = true) : s.alarm = false := by
  rw [Bool.eq_false_iff, Ne, alarm_iff]
  simp [lost]

end Sys2Proof.Machine
end

section
/-! PROOFS. The cubicle inputs (R201, R202), the events of START and of the way into service, and what settles O60. -/

namespace Sys2Proof.Machine

variable {s u : State} {st : Settings}

/-! ### The cubicle inputs (R201, R202) -/

/-- What begins at the end of a command begins by the rule of the line (R83). -/
theorem lineTaken_settle (v : State) {t : State} (sli : t.sli = (settle v).sli) (station : t.ssc.station = v.ssc.station)
    (pins : t.pins = v.pins) : LineTaken v.sli t := by
  refine ⟨fun away free flight slot choice => ?_, fun stays => ?_⟩
  · have next : v.nextSlot = some slot := by
      rw [State.nextSlot, if_pos ⟨station ▸ away, free, flight⟩, choice]
    rw [sli, settle_sli, next, pins]
  · have idle : v.nextSlot = none := by
      unfold State.nextSlot
      obtain start | busy | flight | empty := stays
      · exact if_neg fun k => k.1 (station ▸ start)
      · exact if_neg fun k => by simp [busy] at k
      · exact if_neg fun k => by simp [k.2.2] at flight
      · rw [empty, ite_self]
    rw [sli, settle_sli, idle]

/-- A frame that begins leaves the event queue and the counts. -/
theorem settle_events (v : State) : (settle v).sli.events = v.sli.events ∧
    (settle v).sli.eventsLost = v.sli.eventsLost ∧ (settle v).sli.counters = v.sli.counters := by
  rw [settle_sli]
  split
  · exact ⟨rfl, rfl, rfl⟩
  · exact ⟨rfl, rfl, rfl⟩

/-- An event leaves the load share controller as it stood. -/
theorem settle_of_event (zero : ZeroSettled s) (k : Only [.localTime, .ssc, .sli, .due] s u)
    (station : u.ssc.station = s.ssc.station) : settle u = u.withSli (settle u).sli := by
  have lsc : u.lsc = s.lsc := k.get .lsc (by decide)
  have holds : u.zeroHolds = s.zeroHolds :=
    zeroHolds_congr (k.get .settings (by decide)) station (congrArg Bkc.state (k.get .bkc (by decide)))
      (congrArg Syn.state (k.get .syn (by decide)))
  have stands : (settle u).lsc = u.lsc := by
    rw [settle_lsc, holds, lsc]
    split
    · next zeros => exact zero zeros
    · rfl
  rw [settle_eq, stands]
  rfl

/-- The queue after an event: one longer, or full, with the event dropped (R92, R98). -/
theorem Sli.placeEvent_of_room {l : Sli} {x : EventItem} (free : l.conflict = none) (room : l.events.length < 8) :
    l.placeEvent x = { l with events := l.events ++ [x] } := by
  have roomy : ¬ (l.conflict.isSome = true ∨ 8 ≤ l.events.length) := by
    simp only [free, Option.isSome_none, Bool.false_eq_true, false_or]
    omega
  exact if_neg roomy

theorem Sli.placeEvent_of_full {l : Sli} {x : EventItem} (full : l.conflict.isSome ∨ 8 ≤ l.events.length) :
    l.placeEvent x = l.dropEvent := if_pos full

theorem Sli.dropEvent_dropped (l : Sli) : l.dropEvent.counters.dropped =
    if l.counters.dropped = 65535 then 65535 else l.counters.dropped + 1 := by
  show stopAt65535 l.counters.dropped = _
  unfold stopAt65535
  split
  · assumption
  · rfl

section level
variable {i : Input} {due : Time}

theorem levelDebounced_pins : (levelDebounced i due s).pins = s.pins := levelDebounced_only.get .pins (by decide)

theorem levelDebounced_sli (set : s.settings = some st) (work : s.ssc.station.atWork = true) :
    (levelDebounced i due s).sli = if st.station.changeMask.getLsbD (inputIdx i).val = true then
      s.sli.placeEvent (.inputChange i s.pins.raw[inputIdx i] (s.reach due).localTime) else s.sli := by
  unfold levelDebounced inputEvent
  rw [State.atWork_of_work (st := st) (by simpa using set) (by simpa [Ssc.setTimer] using work)]
  split
  · simp
  · simp

/-- DEBOUNCE_EXPIRY with the level as it stood (R201). -/
theorem debounceExpiry_of_level (timer : s.ssc.debounceTimers[inputIdx i] = some due)
    (same : s.pins.raw[inputIdx i] = s.input i) :
    exec (.debounceExpiry i) s = done s ((s.reach due).withSsc (s.ssc.setTimer i none)) := by
  have stands : s.pins.raw[inputIdx i] = (s.reach due).input i := by simpa [State.input] using same
  show done s (expire _ s (debounced i)) = _
  rw [timer, expire_some]
  simp only [debounced, State.reach_pins, State.reach_ssc, if_pos stands]

/-- An input that no block acts on at its change. -/
theorem takeInput_of_idle (idle : i ∈ ([.springOk, .remotePermit, .lockoutIn] : List Input)) (level : Bool) :
    takeInput i level s = s := by
  simp only [List.mem_cons, List.not_mem_nil, or_false] at idle
  obtain rfl | rfl | rfl := idle <;> rfl

/-- DEBOUNCE_EXPIRY of such an input with a new level: the level and its event alone. -/
theorem debounceExpiry_of_idle (zero : ZeroSettled s) (idle : i ∈ ([.springOk, .remotePermit, .lockoutIn] : List Input))
    (timer : s.ssc.debounceTimers[inputIdx i] = some due) (change : s.pins.raw[inputIdx i] ≠ s.input i) :
    ∃ t, exec (.debounceExpiry i) s = .next t ∧
      t = { s with ssc := t.ssc, sli := t.sli, due := t.due, localTime := (s.reach due).localTime } ∧
      t.ssc = (levelDebounced i due s).ssc ∧ t.sli = (settle (levelDebounced i due s)).sli := by
  have only : Only [.localTime, .ssc, .sli, .due] s (levelDebounced i due s) :=
    Only.inputEvent _ _ (by decide) (Only.withSsc (by decide) (Only.reach _ (by decide) Only.refl) _)
  have settled := settle_of_event zero only levelDebounced_steady.station
  have written : Only [.localTime, .ssc, .sli, .due] s (publish s (settle (levelDebounced i due s))) := by
    rw [settled]
    exact Only.publish s (by decide) (Only.withSli (by decide) only _)
  have time : (publish s (settle (levelDebounced i due s))).localTime = (s.reach due).localTime := by simp
  refine ⟨publish s (settle (levelDebounced i due s)), ?_, ?_, by simp, by simp⟩
  · rw [debounceExpiry_effect timer change, takeInput_of_idle idle]
    rfl
  · have frame := written.eq
    rw [time] at frame
    exact frame

end level

/-! ### The events of START -/

/-- A failed read attempt: a further one, or the third was the last (R195). -/
theorem failAttempt_outcome (h : Settled s) : ∃ t, done s (failAttempt s) = .next t ∧
    (s.ssc.attempts < 3 → t = { s with due := t.due, ssc := t.ssc } ∧
      t.ssc = { s.ssc with reading := false, readRetry := some (s.localTime + 10) }) ∧
    (3 ≤ s.ssc.attempts → t.ssc.station = .settingsFault ∧ t.settings = s.settings) := by
  by_cases few : s.ssc.attempts < 3
  · obtain ⟨t, ht, frame, ssc⟩ := failAttempt_again h few
    exact ⟨t, ht, fun _ => ⟨frame, ssc⟩, fun many => absurd few (by omega)⟩
  · have last : failAttempt s = enterSettingsFault s := if_pos (by omega)
    obtain ⟨station, settings, -, -⟩ := enterSettingsFault_outcome (s := s)
    rw [last]
    exact ⟨_, rfl, fun k => absurd k few, fun _ => ⟨station, settings⟩⟩

/-- A read image, by its judgement (R196). -/
theorem settingsImageRead_of_good {image : List Byte} {clamped : Bool} (reading : s.readingImage = true)
    (judged : judgeImage image = .good st clamped) :
    exec (.settingsImageRead image) s = done s (enterPresence st clamped s) := by
  show done s (if s.readingImage then _ else s) = _
  rw [if_pos reading, judged]

theorem settingsImageRead_of_badCrc {image : List Byte} (reading : s.readingImage = true)
    (judged : judgeImage image = .badCrc) : exec (.settingsImageRead image) s = done s (failAttempt s) := by
  show done s (if s.readingImage then _ else s) = _
  rw [if_pos reading, judged]

theorem settingsImageRead_of_badImage {image : List Byte} (reading : s.readingImage = true)
    (judged : judgeImage image = .badImage) : exec (.settingsImageRead image) s = done s (enterSettingsFault s) := by
  show done s (if s.readingImage then _ else s) = _
  rw [if_pos reading, judged]

theorem settingsReadRetry_effect {due : Time} (timer : s.ssc.readRetry = some due) :
    exec .settingsReadRetry s = done s ((s.reach due).withSsc
      { s.ssc with readRetry := none, reading := true, attempts := s.ssc.attempts + 1 }) := by
  show done s (expire s.ssc.readRetry s _) = _
  rw [timer, expire_some, State.reach_ssc]

theorem presenceExpiry_effect {due : Time} (timer : s.ssc.presenceTimer = some due) :
    exec .presenceExpiry s = done s ((s.reach due).withSsc { s.ssc with
      presenceTimer := none, station := if s.ssc.station = .presence then .warmup else s.ssc.station }) := by
  show done s (expire s.ssc.presenceTimer s _) = _
  rw [timer, expire_some, State.reach_ssc]

theorem serviceState_ne_warmup : serviceState st ≠ .warmup := by
  unfold serviceState
  split <;> decide

theorem sscCycleCompletion_effect (set : s.settings = some st) :
    exec .sscCycleCompletion s = done s ((s.take .sscRecord).withSsc { s.ssc with
      convertersLost := s.siu.status == some .lost
      station := if s.ssc.station = .warmup ∧ s.cme.warmCount = 2 then serviceState st else s.ssc.station }) := by
  show done s ((s.take .sscRecord).inForce _) = _
  rw [State.inForce_some (s := s.take .sscRecord) (st := st) set]
  rfl

/-- A further read attempt begins (R195). -/
theorem settingsReadRetry_outcome (settled : Settled s) {due : Time} (timer : s.ssc.readRetry = some due) :
    ∃ t, exec .settingsReadRetry s = .next t ∧
      t = { s with due := t.due, ssc := t.ssc, localTime := (s.reach due).localTime } ∧
      t.ssc = { s.ssc with readRetry := none, reading := true, attempts := s.ssc.attempts + 1 } := by
  have written : Only [.localTime, .pins, .ssc, .due] s ((s.reach due).withSsc
      { s.ssc with readRetry := none, reading := true, attempts := s.ssc.attempts + 1 }) :=
    Only.withSsc (by decide) (Only.reach _ (by decide) Only.refl) _
  obtain ⟨t, ht, e⟩ := done_of_service settled written rfl
  have ssc : t.ssc = { s.ssc with readRetry := none, reading := true, attempts := s.ssc.attempts + 1 } := by
    rw [e]
    rfl
  refine ⟨t, (settingsReadRetry_effect timer).trans ht, ?_, ssc⟩
  rw [ssc]
  rw [State.reach_eq] at e
  exact e

/-- PRESENCE ends (R198). -/
theorem presenceExpiry_outcome (line : LineSettled s) {due : Time} (timer : s.ssc.presenceTimer = some due) :
    ∃ t, exec .presenceExpiry s = .next t ∧
      t = { s with ssc := t.ssc, lsc := t.lsc, due := t.due, localTime := (s.reach due).localTime } ∧
      (s.ssc.station = .presence → t.ssc = { s.ssc with station := .warmup, presenceTimer := none }) ∧
      (s.ssc.station ≠ .presence → t.ssc = { s.ssc with presenceTimer := none }) := by
  obtain ⟨t, ht, e⟩ := done_of_passage (u := (s.reach due).withSsc { s.ssc with
    presenceTimer := none, station := if s.ssc.station = .presence then .warmup else s.ssc.station })
    line (by simp) fun away starts => away (by simp [starts])
  have ssc : t.ssc = { s.ssc with
      presenceTimer := none, station := if s.ssc.station = .presence then .warmup else s.ssc.station } := by
    rw [e]
    rfl
  refine ⟨t, (presenceExpiry_effect timer).trans ht, ?_, fun presence => ?_, fun other => ?_⟩
  · rw [ssc]
    rw [State.reach_eq] at e
    exact e
  · rw [ssc, if_pos presence]
  · rw [ssc, if_neg other]

/-- WARMUP ends with two full cycles, and the converter alarm follows the SIU (R198, R203). -/
theorem sscCycleCompletion_outcome (set : s.settings = some st) (line : LineSettled s) :
    ∃ t, exec .sscCycleCompletion s = .next t ∧
      t = { s with ssc := t.ssc, lsc := t.lsc, due := t.due } ∧
      (t.ssc.convertersLost = true ↔ s.siu.status = some .lost) ∧
      (s.ssc.station = .warmup → s.cme.warmCount = 2 →
        t.ssc.station = (if st.station.autoInService then .auto else .manual) ∧
        (st.station.autoInService = true → .csqAutoEntry ∈ t.due) ∧ .ptb .ssc ∈ t.due) ∧
      (s.ssc.station ≠ .warmup ∨ s.cme.warmCount ≠ 2 → t.ssc.station = s.ssc.station) ∧
      (t.ssc.convertersLost = true → t.alarm = false) := by
  obtain ⟨t, ht, e⟩ := done_of_passage (u := (s.take .sscRecord).withSsc { s.ssc with
    convertersLost := s.siu.status == some .lost
    station := if s.ssc.station = .warmup ∧ s.cme.warmCount = 2 then serviceState st else s.ssc.station })
    line (by simp) fun away starts => away (by simp [starts])
  have ssc : t.ssc = { s.ssc with
      convertersLost := s.siu.status == some .lost
      station := if s.ssc.station = .warmup ∧ s.cme.warmCount = 2 then serviceState st else s.ssc.station } := by
    rw [e]
    rfl
  refine ⟨t, (sscCycleCompletion_effect set).trans ht, ?_, by simp [ssc], fun warmup full => ?_, fun other => ?_,
    alarm_of_convertersLost⟩
  · rw [ssc]
    exact e
  · have station : t.ssc.station = serviceState st := by
      rw [ssc]
      exact if_pos ⟨warmup, full⟩
    have published := Host.Outcome.next.inj ht
    have entered : (settle ((s.take .sscRecord).withSsc { s.ssc with
        convertersLost := s.siu.status == some .lost
        station := if s.ssc.station = .warmup ∧ s.cme.warmCount = 2 then serviceState st
          else s.ssc.station })).ssc.station = serviceState st := by
      rw [settle_ssc]
      exact if_pos ⟨warmup, full⟩
    obtain ⟨told, auto⟩ := publish_passage (old := s) (entered.symm ▸ warmup ▸ serviceState_ne_warmup.symm)
    rw [published] at told auto
    exact ⟨station, fun service => auto (entered.trans (if_pos service)), told⟩
  · rw [ssc]
    refine if_neg ?_
    rwa [not_and_or]

/-- A raw level starts, keeps or stops the debounce timer (R201). -/
theorem rawInputChange_outcome (settled : Settled s) (i : Input) (level : Bool) :
    ∃ t, exec (.rawInputChange i level) s = .next t ∧
      t = { s with ssc := t.ssc, pins := t.pins, due := t.due } ∧
      t.pins.raw[inputIdx i] = level ∧ t.ssc.debounced = s.ssc.debounced ∧
      (level = s.input i → t.ssc.debounceTimers[inputIdx i] = none) ∧
      (level ≠ s.input i → s.ssc.debounceTimers[inputIdx i] = none → ∀ st, s.settings = some st →
        t.ssc.debounceTimers[inputIdx i] = some (s.localTime + BitVec.ofNat 32 st.station.debounceMs)) ∧
      (level ≠ s.input i → s.ssc.debounceTimers[inputIdx i] = none → s.settings = none →
        t.ssc.debounceTimers[inputIdx i] = some (s.localTime + 4)) ∧
      (level ≠ s.input i → s.ssc.debounceTimers[inputIdx i] ≠ none → t.ssc = s.ssc) := by
  obtain ⟨t, ht, e⟩ := done_of_service (u := (s.withPins { s.pins with raw := s.pins.raw.set (inputIdx i) level }).withSsc
    (s.ssc.setTimer i (s.debounceTimer i level))) settled
    (Only.withSsc (by decide) (Only.withPins (by decide) Only.refl _) _) rfl
  have ssc : t.ssc = s.ssc.setTimer i (s.debounceTimer i level) := by rw [e]; rfl
  have pins : t.pins = { s.pins with raw := s.pins.raw.set (inputIdx i) level } := by rw [e]; rfl
  have timer : t.ssc.debounceTimers[inputIdx i] = s.debounceTimer i level := by simp [ssc, Ssc.setTimer]
  refine ⟨t, ht, by rw [ssc, pins]; exact e, by simp [pins], by rw [ssc]; rfl, fun same => ?_,
    fun change idle st set => ?_, fun change idle unset => ?_, fun change running => ?_⟩
  · rw [timer]
    exact if_pos same
  · rw [timer, State.debounceTimer, if_neg change, idle]
    simp [State.after, State.debounceMs, set]
  · rw [timer, State.debounceTimer, if_neg change, idle]
    simp [State.after, State.debounceMs, unset]
  · have kept : s.debounceTimer i level = s.ssc.debounceTimers[inputIdx i] := by
      rw [State.debounceTimer, if_neg change, if_pos (Option.isSome_iff_ne_none.2 running)]
    rw [ssc, kept, Ssc.setTimer]
    simp

/-- The debounced level of an input that no block acts on, with its event (R201, R202). -/
theorem debounceExpiry_outcome (settled : Settled s) (set : s.settings = some st)
    (work : s.ssc.station.atWork = true) {i : Input} {due : Time}
    (timer : s.ssc.debounceTimers[inputIdx i] = some due)
    (idle : i ∈ ([.springOk, .remotePermit, .lockoutIn] : List Input)) :
    ∃ t, exec (.debounceExpiry i) s = .next t ∧
      t = { s with ssc := t.ssc, sli := t.sli, due := t.due, localTime := (s.reach due).localTime } ∧
      t.input i = s.pins.raw[inputIdx i] ∧ t.ssc.debounceTimers[inputIdx i] = none ∧
      (s.pins.raw[inputIdx i] = s.input i → t.sli = s.sli) ∧
      (s.pins.raw[inputIdx i] ≠ s.input i →
        (st.station.changeMask.getLsbD (inputIdx i).val = false → t.sli = s.sli) ∧
        (st.station.changeMask.getLsbD (inputIdx i).val = true →
          (s.sli.conflict = none → s.sli.events.length < 8 →
            LineTaken { s.sli with
              events := s.sli.events ++ [.inputChange i s.pins.raw[inputIdx i] t.localTime] } t) ∧
          (s.sli.conflict.isSome ∨ 8 ≤ s.sli.events.length →
            t.sli.events = s.sli.events ∧ t.sli.eventsLost = true ∧
            t.sli.counters.dropped =
              (if s.sli.counters.dropped = 65535 then 65535 else s.sli.counters.dropped + 1)))) := by
  by_cases same : s.pins.raw[inputIdx i] = s.input i
  · obtain ⟨t, ht, e⟩ := done_of_service (u := (s.reach due).withSsc (s.ssc.setTimer i none)) settled
      (Only.withSsc (by decide) (Only.reach _ (by decide) Only.refl) _) rfl
    have ssc : t.ssc = s.ssc.setTimer i none := by rw [e]; rfl
    have sli : t.sli = s.sli := by
      rw [e]
      simp
    refine ⟨t, (debounceExpiry_of_level timer same).trans ht, ?_, ?_, by simp [ssc, Ssc.setTimer], fun _ => sli,
      fun change => absurd same change⟩
    · rw [ssc, sli]
      rw [State.reach_eq] at e
      exact e
    · rw [same, State.input, ssc]
      rfl
  · obtain ⟨t, ht, frame, ssc, sli⟩ := debounceExpiry_of_idle settled.1 idle timer same
    have time : t.localTime = (s.reach due).localTime := by rw [frame]
    have pins : t.pins = (levelDebounced i due s).pins := by
      rw [levelDebounced_pins, frame]
    have taken := lineTaken_settle _ sli (congrArg Ssc.station ssc) pins
    obtain ⟨events, lost, counters⟩ := settle_events (levelDebounced i due s)
    have placed := levelDebounced_sli (i := i) (due := due) set work
    refine ⟨t, ht, frame, ?_, by simp [ssc, levelDebounced_ssc, Ssc.setTimer], fun k => absurd k same,
      fun _ => ⟨fun unmasked => ?_, fun masked => ⟨fun free room => ?_, fun full => ?_⟩⟩⟩
    · rw [← levelDebounced_input (due := due)]
      simp only [State.input, ssc]
    · rw [unmasked] at placed
      rw [sli]
      exact settle_sli_of_line settled.2 levelDebounced_steady.station placed
    · rw [if_pos masked, Sli.placeEvent_of_room free room, ← time] at placed
      rwa [placed] at taken
    · rw [if_pos masked, Sli.placeEvent_of_full full] at placed
      rw [sli, events, lost, counters, placed]
      exact ⟨rfl, rfl, Sli.dropEvent_dropped _⟩

end Sys2Proof.Machine

open Sys2Proof Sys2Proof.Machine

/-- Settles O60: the end of START by the judgement of the image, the way into service, the inputs, the settings image by
its table, and the ALARM output. -/
theorem stationStartsAndComesIntoService : Obligations.StationStartsAndComesIntoService := by
  unfold Obligations.StationStartsAndComesIntoService
  refine ⟨fun s image start settled => ?_, fun s st set line => ⟨fun due timer => ?_, ?_⟩,
    fun s i settled => ⟨fun level => ?_, fun st set due timer work idle => ?_⟩, fun image => ?_, fun s => alarm_iff⟩
  · refine ⟨fun reading => ?_, fun due timer => ?_, fun reading => ?_⟩
    · have attempt : s.readingImage = true := by simp [State.readingImage, start, reading]
      have failed : exec .settingsNoAcknowledge s = done s (failAttempt s) := congrArg (done s) (if_pos attempt)
      rw [failed]
      exact failAttempt_outcome settled
    · exact settingsReadRetry_outcome settled timer
    · have attempt : s.readingImage = true := by simp [State.readingImage, start, reading]
      cases judged : judgeImage image with
      | good st clamped =>
        have outcome := enterPresence_outcome s st clamped
        refine ⟨_, settingsImageRead_of_good attempt judged, fun k => ?_, fun k => ?_, fun st' clamped' same => ?_⟩
        · cases k
        · cases k
        · cases same
          exact outcome
      | badCrc =>
        obtain ⟨t, ht, failed⟩ := failAttempt_outcome settled
        refine ⟨t, (settingsImageRead_of_badCrc attempt judged).trans ht, fun _ => failed, fun k => ?_, fun _ _ k => ?_⟩
        · cases k
        · cases k
      | badImage =>
        have outcome := enterSettingsFault_outcome (s := s)
        refine ⟨_, settingsImageRead_of_badImage attempt judged, fun k => ?_, fun _ => outcome, fun _ _ k => ?_⟩
        · cases k
        · cases k
  · exact presenceExpiry_outcome line timer
  · exact sscCycleCompletion_outcome set line
  · exact rawInputChange_outcome settled i level
  · exact debounceExpiry_outcome settled set work timer idle
  · exact ⟨imageField_eq_some_iff image, by
      rw [judgeImage_badImage_iff, HeaderGood, not_and_or, or_assoc]
      exact Iff.rfl, (judgeImage_badCrc_iff image).trans and_assoc, fun st clamped good => judgeImage_good image good⟩

end

section
/-! PROOFS. The coil drivers between two directions of the breaker controller: the drive level (R70, R71), the start and
the abort of a diagnostic run (R72, R75), and the two timers (R76). -/

namespace Sys2Proof.Machine

variable {s u : State} {st : Settings} {c : Cds} {coil : Coil}

/-! ### The end of a command that leaves both coil outputs -/

/-- From the state that has the coil drivers already, only the other fields differ. -/
theorem Only.withCds_left {fs : List Fld} (k : Only (.cds :: fs) s u) : Only fs (s.withCds u.cds) u := by
  refine ⟨fun f => ?_⟩
  obtain listed | same := k.same f
  · obtain rfl | listed := List.mem_cons.1 listed
    · exact .inr rfl
    · exact .inl listed
  · refine .inr ?_
    cases f
    case cds => rfl
    all_goals exact same

/-- A command that writes the coil drivers and leaves both outputs has nothing to publish and nothing to settle (R44,
R68). -/
theorem done_of_coils_left (h : Settled s) (k : Only (.cds :: quietFields) s u) (trip : u.cds.tripOut = s.cds.tripOut)
    (close : u.cds.closeOut = s.cds.closeOut) : done s u = .next u := by
  have quiet : Only quietFields (s.withCds u.cds) u := k.withCds_left
  have settled : Settled u := Settled.of_quiet (s := s.withCds u.cds) h quiet
  have breaker : publishBreaker s u = publishBreaker (s.withCds u.cds) u := by simp [publishBreaker, trip, close]
  have told : publish s u = publish (s.withCds u.cds) u := by
    unfold publish
    rw [breaker]
    rfl
  rw [done, settle_of_settled settled, told, publish_of_quiet quiet]

/-! ### The drive level (R70, R71) -/

/-- A rise of the warning in a pulse, in closed form. -/
theorem Cds.warm_eq (c : Cds) : c.warm = { c with
    level := c.level.lower, lowered := c.lowered || c.level != .low, reduced := c.reduced || c.level != .low } := by
  unfold Cds.warm
  split
  · next low => cases c; simp_all [DriveLevel.lower]
  · next high => simp [high]

theorem Cds.anyOut_eq_false_iff : c.anyOut = false ↔ c.tripOut = false ∧ c.closeOut = false := by simp [Cds.anyOut]

theorem Cds.anyOut_eq_true (out : c.tripOut = true ∨ c.closeOut = true) : c.anyOut = true := by
  simpa [Cds.anyOut] using out

theorem overtempRise_next (h : Settled s) : exec .overtempRise s = .next
    ((s.withPins { s.pins with overTemp := true }).withCds (if s.cds.anyOut then s.cds.warm else s.cds)) := by
  have effect : exec .overtempRise s = done s
      ((s.withPins { s.pins with overTemp := true }).withCds (if s.cds.anyOut then s.cds.warm else s.cds)) := by
    refine congrArg (done s) ?_
    by_cases out : s.cds.anyOut = true
    · rw [if_pos out]
      exact if_pos out
    · rw [if_neg out]
      exact if_neg out
  rw [effect]
  refine done_of_coils_left h (Only.withCds (by decide) (Only.withPins (by decide) Only.refl _) _) ?_ ?_
  · dsimp only [State.withCds_cds]
    split <;> simp
  · dsimp only [State.withCds_cds]
    split <;> simp

/-- A coil that is idle has nothing to stop. -/
theorem Cds.stopped_of_idle (idle : c.out coil = false) : c.stopped coil = c := by simp [Cds.stopped, idle]

/-- An abort leaves DRIVE_REDUCED. -/
@[simp] theorem abortRun_reduced : (abortRun s).cds.reduced = s.cds.reduced := by
  unfold abortRun
  split <;> rfl

/-- The level at which a pulse begins: the setting, or one below it while the warning stands raised (R70). -/
theorem energize_trip_level (set : s.settings = some st) (idle : s.cds.tripOut = false) :
    let e := (energize .trip s).cds
    e.level = (if s.pins.overTemp then st.brk.driveLevel.lower else st.brk.driveLevel) ∧
      e.lowered = (s.pins.overTemp && st.brk.driveLevel != .low) ∧ e.reduced = (s.cds.reduced || e.lowered) := by
  have out : (abortRun s).cds.out .trip = false := (abortRun_tripOut s).trans idle
  have force : (abortRun s).settings = some st := by rw [abortRun_eq]; exact set
  have pins : (abortRun s).pins = s.pins := by rw [abortRun_eq]; rfl
  unfold energize
  simp only [out, Bool.false_eq_true, if_false, force, pins, State.withCds_cds, Cds.setOut, Cds.warm_eq]
  cases s.pins.overTemp <;> simp

/-- A trip of a closed breaker whose close coil is idle leaves the coil drivers of the pulse that it begins, from a state
with the settings, the warning, the trip output and DRIVE_REDUCED as they stood (R54, R69). -/
theorem takeTrip_cds_of_closed (cause : TripCause) (closed : s.bkc.state = .closed) (close : s.cds.closeOut = false) :
    ∃ v, (takeTrip cause st s).cds = (energize .trip v).cds ∧ v.settings = s.settings ∧ v.pins = s.pins ∧
      v.cds.tripOut = s.cds.tripOut ∧ v.cds.reduced = s.cds.reduced := by
  have still : (abortRun s).cds.stopped .close = (abortRun s).cds :=
    Cds.stopped_of_idle ((abortRun_closeOut s).trans close)
  have off : closeOff (abortRun s) = (abortRun s).withBkc { s.bkc with closePulse := none } := by
    rw [closeOff_eq, still, abortRun_bkc]
    rfl
  have pulse : (tripPulse .protection (abortRun s)).cds = (energize .trip (closeOff (abortRun s))).cds := rfl
  have idle : (energize .trip (closeOff (abortRun s))).cds.out .close = false := by
    rw [← pulse]
    exact tripPulse_closeOut _ _
  refine ⟨closeOff (abortRun s), ?_, ?_, ?_, ?_, ?_⟩
  · rw [takeTrip_cds, driveOpen_of_closed (by simp [closed])]
    simp only [State.withBkc_cds, State.withCds_cds]
    rw [pulse, Cds.stopped_of_idle idle, Cds.stopped_of_idle idle]
  · rw [off, abortRun_eq]; rfl
  · rw [off, abortRun_eq]; rfl
  · rw [off]; simp
  · rw [off]; simp

/-! ### The abort of a run (R75) -/

theorem abortRun_of_running {r : DiagRun} (running : s.cds.run = some r) : abortRun s = s.withCds { s.cds with
    run := none, steps := keptSteps s.cds.steps r.step, lastRun := s.runRecord r.circuit.runCircuit .aborted
    retryTimer := if s.cds.retryTimer.isSome then s.cds.retryTimer else s.after 1000 } := by
  simp [abortRun, running]

theorem keptSteps_get (steps : Vector StepResult 4) (k : Nat) (i : Fin 4) :
    (keptSteps steps k)[i] = if i.val + 1 < k then steps[i] else .notRun := by
  simp [keptSteps]

theorem cdsBreakerStateChange_effect : exec .cdsBreakerStateChange s = done s
    (if s.cds.run.any (fun r => r.startState != s.bkc.state) then abortRun (s.take .cdsBreaker)
      else s.take .cdsBreaker) := rfl

theorem cdsBreakerStateChange_left (h : Settled s) (left : ∀ r, s.cds.run = some r → r.startState = s.bkc.state) :
    exec .cdsBreakerStateChange s = .next (s.take .cdsBreaker) := by
  have still : ¬ s.cds.run.any (fun r => r.startState != s.bkc.state) = true := by
    cases running : s.cds.run with
    | none => simp
    | some r => simp [left r running]
  rw [cdsBreakerStateChange_effect, if_neg still]
  exact done_of_quiet h (Only.take _ (by decide) Only.refl)

theorem cdsBreakerStateChange_aborts (h : Settled s) {r : DiagRun} (running : s.cds.run = some r)
    (left : r.startState ≠ s.bkc.state) :
    exec .cdsBreakerStateChange s = .next (abortRun (s.take .cdsBreaker)) := by
  have aborts : s.cds.run.any (fun r => r.startState != s.bkc.state) = true := by simpa [running] using left
  rw [cdsBreakerStateChange_effect, if_pos aborts]
  exact done_of_coils_left h (Only.abortRun (by decide) (Only.take _ (by decide) Only.refl)) (by simp) (by simp)

/-! ### The start of a run (R72) -/

theorem testableCircuit_of_testable {b : BreakerState} (testable : b = .closed ∨ b = .opened) :
    testableCircuit b = some (if b = .closed then .trip else .close) := by
  obtain rfl | rfl := testable <;> rfl

theorem testableCircuit_of_untestable {b : BreakerState} (closed : b ≠ .closed) (opened : b ≠ .opened) :
    testableCircuit b = none := by
  cases b with
  | closed => contradiction
  | opened => contradiction
  | _ => rfl

theorem beginRun_eq (coil : Coil) (s : State) : beginRun coil s = s.withCds { s.cds with
    run := some { circuit := coil, startState := s.bkc.state, step := 1, due := s.localTime + 10 }
    steps := Vector.replicate 4 .notRun, retryTimer := none } := rfl

section start

/-- A start that finds a run in progress makes no second one (R76). -/
theorem timerStart_of_running (running : s.cds.run.isSome = true) : timerStart s = s := if_pos running

variable (none_runs : s.cds.run = none)
include none_runs

theorem timerStart_of_untestable (closed : s.bkc.state ≠ .closed) (opened : s.bkc.state ≠ .opened) :
    timerStart s = s.withCds { s.cds with lastRun := s.runRecord .noCircuit .notApplicable } := by
  simp [timerStart, none_runs, testableCircuit_of_untestable closed opened]

section testable
variable (testable : s.bkc.state = .closed ∨ s.bkc.state = .opened)
include testable

theorem timerStart_of_energized (out : s.cds.anyOut = true) :
    timerStart s = s.withCds { s.cds with
      lastRun := s.runRecord (if s.bkc.state = .closed then .trip else .close) .aborted
      retryTimer := s.after 1000 } := by
  have circuit : (if s.bkc.state = .closed then Coil.trip else .close).runCircuit =
      if s.bkc.state = .closed then .trip else .close := by split <;> rfl
  simp [timerStart, none_runs, testableCircuit_of_testable testable, out, circuit]

theorem timerStart_of_idle (idle : s.cds.anyOut = false) :
    timerStart s = beginRun (if s.bkc.state = .closed then .trip else .close) s := by
  simp [timerStart, none_runs, testableCircuit_of_testable testable, idle]

end testable

end start

/-- A start leaves the outputs and the period timer. -/
theorem timerStart_keeps (s : State) : (timerStart s).cds.tripOut = s.cds.tripOut ∧
    (timerStart s).cds.closeOut = s.cds.closeOut ∧ (timerStart s).cds.periodTimer = s.cds.periodTimer := by
  unfold timerStart
  split
  · exact ⟨rfl, rfl, rfl⟩
  · split
    · exact ⟨rfl, rfl, rfl⟩
    · split <;> exact ⟨rfl, rfl, rfl⟩

/-- A start by a timer is what the statements say a start is. -/
theorem timerStart_runStart (s : State) : RunStart s (timerStart s) := by
  have time : (timerStart s).localTime = s.localTime :=
    (Only.timerStart (fs := [.cds]) (by decide) Only.refl).get .localTime (by decide)
  refine ⟨fun running => ?_, fun none_runs => ⟨fun closed opened => ?_, fun testable out => ?_,
    fun testable trip close => ?_⟩⟩
  · rw [timerStart_of_running running]
    exact ⟨rfl, rfl, rfl⟩
  · rw [time, timerStart_of_untestable none_runs closed opened]
    exact ⟨none_runs, rfl⟩
  · rw [time, timerStart_of_energized none_runs testable (Cds.anyOut_eq_true out)]
    exact ⟨none_runs, rfl, rfl⟩
  · rw [time, timerStart_of_idle none_runs testable (Cds.anyOut_eq_false_iff.2 ⟨trip, close⟩), beginRun_eq]
    exact ⟨rfl, fun i => by simp, rfl, rfl⟩

theorem timerStart_eq (s : State) : timerStart s = s.withCds (timerStart s).cds := by
  unfold timerStart
  split
  · rfl
  · split
    · rfl
    · split <;> rfl

/-- The state at the expiry of one of the two timers, with the timers as the expiry leaves them. -/
def timerExpired (s : State) (due : Time) (period retry : Timer) : State :=
  (s.withTime (s.reach due).localTime).withCds { s.cds with periodTimer := period, retryTimer := retry }

section expired
variable (due : Time) (period retry : Timer)

/-- Such a start changes the time and the coil drivers alone, and is a start from the state before the expiry. -/
theorem timerStart_timerExpired (s : State) :
    let t := timerStart (timerExpired s due period retry)
    t = { s with cds := t.cds, due := t.due, localTime := (s.reach due).localTime } ∧ RunStart s t ∧
      t.cds.periodTimer = period := by
  obtain ⟨-, -, kept⟩ := timerStart_keeps (timerExpired s due period retry)
  refine ⟨?_, timerStart_runStart (timerExpired s due period retry), kept⟩
  rw [timerStart_eq]
  rfl

theorem done_timerExpired (h : Settled s) : done s (timerStart (timerExpired s due period retry)) =
    .next (timerStart (timerExpired s due period retry)) := by
  obtain ⟨trip, close, -⟩ := timerStart_keeps (timerExpired s due period retry)
  exact done_of_coils_left h
    (Only.timerStart (by decide) (Only.withCds (by decide) (Only.withTime (by decide) Only.refl _) _)) trip close

end expired

theorem periodTimerExpiry_next (h : Settled s) (set : s.settings = some st) {due : Time}
    (timer : s.cds.periodTimer = some due) :
    exec .periodTimerExpiry s = .next (timerStart (timerExpired s due
      (some ((s.reach due).localTime + BitVec.ofNat 32 (1000 * st.brk.diagPeriodS))) s.cds.retryTimer)) := by
  rw [← done_timerExpired _ _ _ h]
  show done s (expire s.cds.periodTimer s _) = _
  rw [timer, expire_some, State.inForce_some (by simpa using set), State.reach_eq]
  rfl

theorem diagnosticRetryExpiry_next (h : Settled s) {due : Time} (timer : s.cds.retryTimer = some due) :
    exec .diagnosticRetryExpiry s = .next (timerStart (timerExpired s due s.cds.periodTimer none)) := by
  rw [← done_timerExpired _ _ _ h]
  show done s (expire s.cds.retryTimer s _) = _
  rw [timer, expire_some, State.reach_eq]
  rfl

/-! ### The first passage into AUTO or MANUAL (R76) -/

theorem Delivery.cdsPassage_eq_none_iff (d : Delivery) : d.cdsPassage = none ↔ ∀ x, d ≠ .cdsStation x := by
  cases d <;> simp [Delivery.cdsPassage]

theorem findSome_cdsPassage_of_none {ds : List Delivery} (none_waits : ∀ x, .cdsStation x ∉ ds) :
    ds.findSome? Delivery.cdsPassage = none := by
  rw [List.findSome?_eq_none_iff]
  refine fun d listed => d.cdsPassage_eq_none_iff.2 fun x same => none_waits x ?_
  rwa [← same]

/-- The oldest change that waits is taken. -/
theorem cdsPassage_of_waiting {y : StationState} {before after : List Delivery}
    (due : s.due = before ++ .cdsStation y :: after) (oldest : ∀ x, .cdsStation x ∉ before) : s.cdsPassage = y := by
  have found : s.due.findSome? Delivery.cdsPassage = some y := by
    rw [due, List.findSome?_append, findSome_cdsPassage_of_none oldest]
    rfl
  simp [State.cdsPassage, found]

theorem cdsPassage_of_none (none_waits : ∀ x, .cdsStation x ∉ s.due) : s.cdsPassage = s.ssc.station := by
  simp [State.cdsPassage, findSome_cdsPassage_of_none none_waits]

/-- What a passage does to the coil drivers: the first into AUTO or MANUAL starts the period timer. -/
def passageTaken (s : State) (st : Settings) : Cds :=
  if s.cds.periodStarted = false ∧ (s.cdsPassage = .auto ∨ s.cdsPassage = .manual) then
    { s.cds with periodTimer := s.after (1000 * st.brk.diagPeriodS), periodStarted := true }
  else s.cds

theorem cdsStationStateChange_next (h : Settled s) (set : s.settings = some st) :
    exec .cdsStationStateChange s = .next ((s.take (.cdsStation s.cdsPassage)).withCds (passageTaken s st)) := by
  have effect : exec .cdsStationStateChange s =
      done s ((s.take (.cdsStation s.cdsPassage)).withCds (passageTaken s st)) := by
    show done s ((s.take (.cdsStation s.cdsPassage)).inForce _) = _
    rw [State.inForce_some (by simpa using set)]
    refine congrArg (done s) ?_
    unfold passageTaken
    by_cases first : s.cds.periodStarted = false ∧ (s.cdsPassage = .auto ∨ s.cdsPassage = .manual)
    · rw [if_pos first]
      exact if_pos first.symm
    · rw [if_neg first]
      exact if_neg (mt And.symm first)
  rw [effect]
  refine done_of_coils_left h (Only.withCds (by decide) (Only.take _ (by decide) Only.refl) _) ?_ ?_
  · dsimp only [State.withCds_cds, passageTaken]
    split <;> rfl
  · dsimp only [State.withCds_cds, passageTaken]
    split <;> rfl

end Sys2Proof.Machine

open Sys2Proof Sys2Proof.Machine

/-- Settles O23: each event by the next state it leaves, whose coil drivers are given in closed form. -/
theorem driveLevelAndDiagnosticsStart : Obligations.DriveLevelAndDiagnosticsStart := by
  unfold Obligations.DriveLevelAndDiagnosticsStart
  refine ⟨fun s settled => ⟨?_, ?_, fun st set cause detail work closed trip close => ?_⟩,
    fun s st due set settled => ⟨fun timer => ?_, fun timer => ?_⟩, fun s st set settled => ⟨?_, ?_⟩⟩
  · refine ⟨_, overtempRise_next settled, rfl, fun out => ?_, fun trip close => ?_⟩
    · rw [State.withCds_cds, if_pos (Cds.anyOut_eq_true out), Cds.warm_eq]
      refine ⟨fun low => ?_, fun normal => ?_, fun high => ?_⟩
      · rw [← Cds.warm_eq, Cds.warm, if_pos low]
      · simp [normal, DriveLevel.lower]
      · simp [high, DriveLevel.lower]
    · exact if_neg (by simp [Cds.anyOut_eq_false_iff.2 ⟨trip, close⟩])
  · exact ⟨_, done_of_quiet settled (Only.withPins (by decide) Only.refl _), rfl⟩
  · obtain ⟨t, ht, -, -, cds⟩ := tripClaim_taken set work cause detail
    obtain ⟨v, pulse, force, pins, out, reduced⟩ :=
      takeTrip_cds_of_closed (s := s.take (.tripClaim cause detail)) (st := st) { element := cause, detail := detail }
        closed close
    obtain ⟨level, lowered, set'⟩ := energize_trip_level (force.trans set) (out.trans trip)
    rw [pins] at level lowered
    rw [reduced] at set'
    rw [pulse] at cds
    refine ⟨t, ht, ?_⟩
    rw [cds]
    exact ⟨energize_trip_tripOut v, level, lowered, set'⟩
  · obtain ⟨frame, start, period⟩ := timerStart_timerExpired due
      (some ((s.reach due).localTime + BitVec.ofNat 32 (1000 * st.brk.diagPeriodS))) s.cds.retryTimer s
    refine ⟨_, periodTimerExpiry_next settled set timer, frame, start, ?_⟩
    rw [period, frame]
  · obtain ⟨frame, start, period⟩ := timerStart_timerExpired due s.cds.periodTimer none s
    refine ⟨_, diagnosticRetryExpiry_next settled timer, frame, start, period, fun running => ?_⟩
    rw [timerStart_of_running (s := timerExpired s due s.cds.periodTimer none) running]
    rfl
  · by_cases left : ∀ r, s.cds.run = some r → r.startState = s.bkc.state
    · exact ⟨_, cdsBreakerStateChange_left settled left, rfl, fun _ => rfl,
        fun r running => ⟨fun _ => rfl, fun away => absurd (left r running) away⟩⟩
    · push Not at left
      obtain ⟨r, running, away⟩ := left
      refine ⟨_, cdsBreakerStateChange_aborts settled running away, ?_, fun idle => ?_, fun r' running' => ?_⟩
      · rw [abortRun_eq]
        rfl
      · simp [idle] at running
      · obtain rfl : r = r' := Option.some.inj (running.symm.trans running')
        refine ⟨fun same => absurd same away, fun _ => ?_⟩
        rw [abortRun_of_running (s := s.take .cdsBreaker) running]
        exact ⟨rfl, rfl, keptSteps_get _ _, rfl, rfl, rfl⟩
  · refine ⟨_, cdsStationStateChange_next settled set, rfl, fun y => ?_⟩
    have acts (passed : s.cdsPassage = y) :
        (s.cds.periodStarted = false ∧ (y = .auto ∨ y = .manual) →
          (passageTaken s st).periodTimer = some (s.localTime + BitVec.ofNat 32 (1000 * st.brk.diagPeriodS)) ∧
            (passageTaken s st).periodStarted = true ∧ (passageTaken s st).run = s.cds.run) ∧
        (¬ (s.cds.periodStarted = false ∧ (y = .auto ∨ y = .manual)) → passageTaken s st = s.cds) := by
      unfold passageTaken
      rw [passed]
      refine ⟨fun first => ?_, fun later => if_neg later⟩
      rw [if_pos first]
      exact ⟨rfl, rfl, rfl⟩
    refine ⟨fun before after waits oldest => ?_, fun none_waits same => ?_⟩
    · have passed : s.cdsPassage = y := cdsPassage_of_waiting waits oldest
      refine ⟨acts passed, ?_⟩
      rw [State.withCds_due, State.take_due, passed, waits, List.erase_append_right _ (oldest y), List.erase_cons_head]
    · have passed : s.cdsPassage = y := (cdsPassage_of_none none_waits).trans same.symm
      exact ⟨acts passed, List.erase_of_not_mem (none_waits _)⟩

end

section
/-! PROOFS. DIAGNOSTIC_STEP_END (R73, R74, R77, R78): the result of a step, the summary of a run, and what a completed
run leaves in the coil drivers and in the breaker record. -/

namespace Sys2Proof.Machine

variable {s : State} {st : Settings} {r : DiagRun} {x : Reading} {steps : Vector StepResult 4} {result : StepResult}

/-! ### The summary of a run (R74) -/

/-- The summary is OK exactly when no step failed, since no finding is OK. -/
theorem runSummary_eq_ok_iff {xs : List StepResult} (findings : ∀ f, .fail f ∈ xs → f ≠ .ok) :
    runSummary xs = .ok ↔ ∀ f, .fail f ∉ xs := by
  induction xs with
  | nil => simp [runSummary]
  | cons x xs ih =>
    have rest := ih fun f listed => findings f (List.mem_cons_of_mem x listed)
    cases x with
    | fail g =>
      exact ⟨fun ok => absurd ok (findings g List.mem_cons_self),
        fun none_failed => absurd List.mem_cons_self (none_failed g)⟩
    | _ => simpa [runSummary] using rest

/-- Any other summary is the finding of the first step that failed. -/
theorem runSummary_first {xs : List StepResult} (failed : runSummary xs ≠ .ok) :
    ∃ i : Nat, xs[i]? = some (StepResult.fail (runSummary xs)) ∧ ∀ j < i, ∀ g, xs[j]? ≠ some (StepResult.fail g) := by
  induction xs with
  | nil => exact absurd rfl failed
  | cons x xs ih =>
    have later (passed : ∀ g, x ≠ .fail g) (same : runSummary (x :: xs) = runSummary xs) :
        ∃ i : Nat, (x :: xs)[i]? = some (StepResult.fail (runSummary (x :: xs))) ∧
          ∀ j < i, ∀ g, (x :: xs)[j]? ≠ some (StepResult.fail g) := by
      rw [same] at failed ⊢
      obtain ⟨i, found, before⟩ := ih failed
      refine ⟨i + 1, by simpa using found, fun j below g => ?_⟩
      cases j with
      | zero => simpa using passed g
      | succ j => simpa using before j (by omega) g
    cases x with
    | fail g => exact ⟨0, rfl, nofun⟩
    | _ => exact later nofun rfl

/-- The summary of the four steps. -/
theorem runSummary_steps (findings : ∀ (i : Fin 4) f, steps[i] = .fail f → f.faulty = true) :
    (runSummary steps.toList = .ok ↔ ∀ i : Fin 4, ∀ f, steps[i] ≠ .fail f) ∧
      (runSummary steps.toList ≠ .ok → ∃ i : Fin 4, steps[i] = .fail (runSummary steps.toList) ∧
        ∀ j : Fin 4, j < i → ∀ g, steps[j] ≠ .fail g) := by
  have listed (f : CircuitResult) : .fail f ∈ steps.toList ↔ ∃ i : Fin 4, steps[i] = .fail f := by
    simp [Vector.mem_toList_iff, Vector.mem_iff_getElem, Fin.exists_iff]
  constructor
  · rw [runSummary_eq_ok_iff fun f failed => ?_]
    · simp only [listed, not_exists]
      exact forall_comm
    · obtain ⟨i, hi⟩ := (listed f).1 failed
      rintro rfl
      exact nomatch findings i _ hi
  · intro failed
    obtain ⟨i, found, before⟩ := runSummary_first failed
    rw [Vector.getElem?_toList, Vector.getElem?_eq_some_iff] at found
    obtain ⟨bound, found⟩ := found
    refine ⟨⟨i, bound⟩, found, fun j below g same => before j below g ?_⟩
    rw [Vector.getElem?_toList, Vector.getElem?_eq_some_iff]
    exact ⟨j.isLt, same⟩

/-! ### The end of a step (R73) -/

/-- The table of R73, written out. -/
theorem stepResult_eq (b : BreakerSettings) (coil : Coil) {step : Nat} (first : 1 ≤ step) (last : step ≤ 4)
    (x : Reading) :
    let limits := match coil with
      | .trip => (b.rminTrip, b.rmaxTrip)
      | .close => (b.rminClose, b.rmaxClose)
    stepResult b coil step x =
      if step = 1 then (if x.heldAtSupply then .fail .short else .pass)
      else if step = 2 then (match x.pullDown with
        | .heldAtGround => .fail .short
        | .noContinuity => .fail .openCircuit
        | .followsCoil => .pass)
      else if step = 3 then (if x.ohms < limits.1 then .fail .short
        else if limits.2 < x.ohms then .fail .highResistance else .pass)
      else (if x.senseFault then .fail .driverFault else .pass) := by
  have steps : step = 1 ∨ step = 2 ∨ step = 3 ∨ step = 4 := by omega
  cases coil <;> obtain rfl | rfl | rfl | rfl := steps <;> rfl

/-- The present step gets its result, and the others keep theirs. -/
theorem steps_setIfInBounds_get (first : 1 ≤ r.step) (i : Fin 4) :
    (steps.setIfInBounds (r.step - 1) result)[i] = if i.val + 1 = r.step then result else steps[i] := by
  have same : r.step - 1 = i.val ↔ i.val + 1 = r.step := by omega
  simp [Vector.getElem_setIfInBounds, same]

theorem runEnds_iff {k : Nat} (last : k ≤ 4) : runEnds k result = true ↔ k = 4 ∨ (k ≤ 2 ∧ result ≠ .pass) := by
  have four : 4 ≤ k ↔ k = 4 := by omega
  simp [runEnds, four]

theorem diagnosticStepEnd_effect (set : s.settings = some st) (running : s.cds.run = some r) :
    exec (.diagnosticStepEnd x) s = done s (endStep st r x (s.reach r.due)) := by
  show done s (s.inForce _) = _
  rw [State.inForce_some set, running]

theorem endStep_of_ends (ends : runEnds r.step (stepResult st.brk r.circuit r.step x) = true) :
    endStep st r x s =
      completeRun r (s.cds.steps.setIfInBounds (r.step - 1) (stepResult st.brk r.circuit r.step x)) s := if_pos ends

theorem endStep_of_goes_on (goesOn : ¬ runEnds r.step (stepResult st.brk r.circuit r.step x) = true) :
    endStep st r x s = s.withCds { s.cds with
      run := some { r with step := r.step + 1, due := s.localTime + BitVec.ofNat 32 (stepMs (r.step + 1)) }
      steps := s.cds.steps.setIfInBounds (r.step - 1) (stepResult st.brk r.circuit r.step x) } := if_neg goesOn

/-! ### The completion of a run (R74, R77, R78) -/

theorem completeRun_of_trip (circuit : r.circuit = .trip) : completeRun r steps s = s.withCds { s.cds with
    run := none, steps := steps, tripResult := runSummary steps.toList
    lastRun := s.runRecord .trip (runSummary steps.toList).outcome } := by
  simp [completeRun, circuit, Coil.runCircuit]

theorem completeRun_of_close (circuit : r.circuit = .close) : completeRun r steps s =
    (s.withCds { s.cds with
      run := none, steps := steps, closeResult := runSummary steps.toList
      lastRun := s.runRecord .close (runSummary steps.toList).outcome }).withBkc
    { s.bkc with closeCircuitFault := faultAfter (runSummary steps.toList) s.bkc.closeCircuitFault } := by
  simp [completeRun, circuit, Coil.runCircuit]

/-- CLOSE_CIRCUIT_FAULT by the summary (R78). -/
theorem faultAfter_eq (summary : CircuitResult) (before : Bool) : faultAfter summary before =
    if summary = .openCircuit ∨ summary = .short then true else if summary = .ok then false else before := by
  cases summary <;> rfl

/-- What a completed run leaves: its summary as the circuit's result, the last-run record, and CLOSE_CIRCUIT_FAULT (R74,
R77, R78). -/
theorem completeRun_outcome (findings : ∀ (i : Fin 4) f, steps[i] = .fail f → f.faulty = true) :
    let u := completeRun r steps s
    u.cds.steps = steps ∧ u.cds.run = none ∧
      ∃ summary : CircuitResult, (summary = .ok ↔ ∀ i : Fin 4, ∀ f, steps[i] ≠ .fail f) ∧
        (summary ≠ .ok → ∃ i : Fin 4, steps[i] = .fail summary ∧ ∀ j : Fin 4, j < i → ∀ g, steps[j] ≠ .fail g) ∧
        u.cds.lastRun = some { circuit := r.circuit.runCircuit, outcome := summary.outcome, time := s.localTime } ∧
        (r.circuit = .trip → u.cds.tripResult = summary ∧ u.cds.closeResult = s.cds.closeResult ∧ u.bkc = s.bkc) ∧
        (r.circuit = .close → u.cds.closeResult = summary ∧ u.cds.tripResult = s.cds.tripResult ∧
          u.bkc = { s.bkc with closeCircuitFault :=
            if summary = .openCircuit ∨ summary = .short then true
            else if summary = .ok then false else s.bkc.closeCircuitFault }) := by
  obtain ⟨passed, failed⟩ := runSummary_steps findings
  cases circuit : r.circuit with
  | trip =>
    rw [completeRun_of_trip circuit]
    exact ⟨rfl, rfl, _, passed, failed, rfl, fun _ => ⟨rfl, rfl, rfl⟩, nofun⟩
  | close =>
    rw [completeRun_of_close circuit, faultAfter_eq]
    exact ⟨rfl, rfl, _, passed, failed, rfl, nofun, fun _ => ⟨rfl, rfl, rfl⟩⟩

/-- The end of a step writes the coil drivers and the breaker record, whose state it leaves. -/
theorem endStep_eq (st : Settings) (r : DiagRun) (x : Reading) (s : State) :
    endStep st r x s = (s.withCds (endStep st r x s).cds).withBkc (endStep st r x s).bkc ∧
      (endStep st r x s).bkc.state = s.bkc.state := by
  by_cases ends : runEnds r.step (stepResult st.brk r.circuit r.step x) = true
  · rw [endStep_of_ends ends]
    cases circuit : r.circuit with
    | trip => rw [completeRun_of_trip circuit]; exact ⟨rfl, rfl⟩
    | close => rw [completeRun_of_close circuit]; exact ⟨rfl, rfl⟩
  · rw [endStep_of_goes_on ends]
    exact ⟨rfl, rfl⟩

/-- The state with its local time brought to the end of the present step. -/
def stepReached (s : State) (r : DiagRun) : State := s.withTime (s.reach r.due).localTime

@[simp] theorem stepReached_cds (s : State) (r : DiagRun) : (stepReached s r).cds = s.cds := rfl

/-- The outcome of the command: the coil drivers and the breaker record of the end of the step, and the time reached. -/
theorem diagnosticStepEnd_next (h : Settled s) (set : s.settings = some st) (running : s.cds.run = some r) :
    ∃ t, exec (.diagnosticStepEnd x) s = .next t ∧
      t = { s with bkc := t.bkc, cds := t.cds, due := t.due, localTime := (s.reach r.due).localTime } ∧
      t.cds = (endStep st r x (stepReached s r)).cds ∧ t.bkc = (endStep st r x (stepReached s r)).bkc := by
  obtain ⟨written, state⟩ := endStep_eq st r x (stepReached s r)
  have only : Only [.localTime, .bkc, .cds, .due] s (endStep st r x (stepReached s r)) :=
    Only.endStep st r x (by decide) (by decide) (Only.withTime (by decide) Only.refl _)
  obtain ⟨t, ht, e⟩ := done_of_still h only state
  have cds : t.cds = (endStep st r x (stepReached s r)).cds := by rw [e]; rfl
  have bkc : t.bkc = (endStep st r x (stepReached s r)).bkc := by rw [e]; rfl
  refine ⟨t, ?_, ?_, cds, bkc⟩
  · rw [diagnosticStepEnd_effect set running, State.reach_eq]
    exact ht
  · rw [cds, bkc]
    rw [written] at e
    exact e

/-- The steps of a run keep to faulty findings as the present one ends (R73). -/
theorem endStep_findings (kept : DiagnosticsKept s) (i : Fin 4) (f : CircuitResult)
    (failed : (s.cds.steps.setIfInBounds (r.step - 1) (stepResult st.brk r.circuit r.step x))[i] = .fail f) :
    f.faulty = true :=
  Cds.Diagnosed.steps_set kept (fun _ => stepResult_faulty) i f failed

end Sys2Proof.Machine

open Sys2Proof Sys2Proof.Machine

/-- Settles O24: the result of the present step, and then the two ways on, by whether the step ends the run. -/
theorem diagnosticStepsAreJudged : Obligations.DiagnosticStepsAreJudged := by
  unfold Obligations.DiagnosticStepsAreJudged
  intro s st r x set running kept settled limits result
  obtain ⟨first, last⟩ := kept.1 r running
  have judged : stepResult st.brk r.circuit r.step x = result := stepResult_eq st.brk r.circuit first last x
  have findings := endStep_findings (st := st) (r := r) (x := x) kept
  obtain ⟨t, ht, frame, cds, bkc⟩ := diagnosticStepEnd_next (x := x) settled set running
  have time : t.localTime = (stepReached s r).localTime := by rw [frame]; rfl
  rw [judged] at findings
  refine ⟨t, ht, frame, ?_⟩
  rw [← runEnds_iff last, time, cds, bkc]
  by_cases ends : runEnds r.step result = true
  · rw [endStep_of_ends (by rwa [judged]), judged, stepReached_cds]
    obtain ⟨steps, run, outcome⟩ := completeRun_outcome (s := stepReached s r) (r := r) findings
    rw [steps]
    exact ⟨steps_setIfInBounds_get first, fun _ => ⟨run, outcome⟩, fun goesOn => absurd ends goesOn⟩
  · rw [endStep_of_goes_on (by rwa [judged]), judged]
    exact ⟨steps_setIfInBounds_get first, fun k => absurd k ends, fun _ => ⟨rfl, rfl, rfl, rfl, rfl⟩⟩

end

section
/-! PROOFS. What an incomer's sequence makes of the requests to it (R161, R162, R166): the tests of every event keep the
monitor, the transfer test and the inhibit, and each request leaves the state that its rule names. -/

namespace Sys2Proof.Machine

variable {s t : State} {st : Settings}

/-! ### What the tests of an incomer keep -/

/-- The source monitor with its timer, the transfer test and the inhibit. -/
def Csq.watch (c : Csq) : Monitor × Timer × Bool × Bool := (c.monitor, c.confirmTimer, c.transferTest, c.inhibit)

theorem Csq.watch_eq_iff (c d : Csq) : c.watch = d.watch ↔ c.monitor = d.monitor ∧ c.confirmTimer = d.confirmTimer ∧
    c.transferTest = d.transferTest ∧ c.inhibit = d.inhibit := by
  simp [Csq.watch]

/-- A request handed to the SYN is held, and the sequence's own record stands besides. -/
theorem handRequest_csq (s : State) : (handRequest s).csq = { s.csq with holding := (handRequest s).csq.holding } := by
  have kept : (sequenceRequest s).csq = s.csq :=
    (Only.sequenceRequest (fs := [.sli, .syn]) (by decide) (by decide) Only.refl).get .csq (by decide)
  unfold handRequest
  split
  · rfl
  · dsimp only [State.withCsq_csq]
    rw [kept]

theorem incomerHand_csq (s : State) : (incomerHand s).csq = { s.csq with holding := (incomerHand s).csq.holding } := by
  unfold incomerHand
  split
  · exact handRequest_csq s
  · rfl

theorem incomerHand_due (s : State) : (incomerHand s).due = s.due :=
  (Only.incomerHand (fs := [.csq, .sli, .syn]) (by decide) (by decide) (by decide) Only.refl).get .due (by decide)

theorem enterRetransfer_csq (st : Settings) (s : State) : (enterRetransfer st s).csq = { s.csq with
    state := .retransfer, mode := some (s.chooseMode st), retransferDelay := none, delayRunOut := false
    holding := (enterRetransfer st s).csq.holding } := by
  unfold enterRetransfer
  dsimp only
  split
  · exact handRequest_csq _
  · rfl

theorem returnOrLost_watch (st : Settings) (s : State) : (returnOrLost st s).csq.watch = s.csq.watch := by
  unfold returnOrLost
  split <;> rfl

theorem incomerMonitor_watch (st : Settings) (s : State) : (incomerMonitor st s).csq.watch = s.csq.watch := by
  unfold incomerMonitor
  split
  · split
    · exact returnOrLost_watch st _
    · rfl
  · split
    · exact returnOrLost_watch st _
    · rfl
  · split
    · exact returnOrLost_watch st s
    · rfl
  · rfl

theorem incomerRunOut_watch (st : Settings) (s : State) : (incomerRunOut st s).csq.watch = s.csq.watch := by
  unfold incomerRunOut
  split
  · rw [enterRetransfer_csq]
    rfl
  · rfl

theorem incomerHand_watch (s : State) : (incomerHand s).csq.watch = s.csq.watch := by
  rw [incomerHand_csq]
  rfl

/-- The tests of an incomer write neither the monitor nor the transfer test nor the inhibit. -/
theorem csqTick_watch (role : st.station.role = .incomer) (s : State) : (csqTick st s).csq.watch = s.csq.watch := by
  unfold csqTick
  rw [role]
  split
  · exact (incomerHand_watch _).trans ((incomerRunOut_watch st _).trans (incomerMonitor_watch st s))
  · rfl

/-! ### The tests of an incomer, by its state and its monitor -/

theorem csqTick_of_incomer (role : st.station.role = .incomer) (runs : s.sequencing = true) :
    csqTick st s = incomerHand (incomerRunOut st (incomerMonitor st s)) := by
  simp only [csqTick, runs, role, if_true]

/-- RETRANSFER is not entered from a state other than RETURNING, or at a monitor that is not HEALTHY (R162). -/
theorem incomerRunOut_of_not (h : s.csq.state ≠ .returning ∨ s.csq.delayRunOut = false ∨ s.csq.monitor ≠ .healthy) :
    incomerRunOut st s = s := by
  refine if_neg ?_
  rintro ⟨free, healthy⟩
  simp only [State.runOutFree, Bool.and_eq_true, beq_iff_eq] at free
  obtain ⟨⟨⟨returning, runOut⟩, -⟩, -⟩ := free
  obtain away | running | ill := h
  · exact away returning
  · exact nomatch running.symm.trans runOut
  · exact ill healthy

theorem returnOrLost_of_healthy (healthy : s.csq.monitor = .healthy) : returnOrLost st s = s.withCsq { s.csq with
    state := .returning, retransferDelay := s.after (1000 * st.csq.retransferDelayS), delayRunOut := false
    overlapBackup := none, mode := none } := if_pos healthy

theorem returnOrLost_of_ill (ill : s.csq.monitor ≠ .healthy) : returnOrLost st s = s.withCsq { s.csq with
    state := .sourceLost, retransferDelay := none, delayRunOut := false, overlapBackup := none, mode := none } :=
  if_neg ill

section tick
variable (role : st.station.role = .incomer) (auto : s.ssc.station = .auto)
include role auto

/-- NORMAL opens at a monitor that is FAILED, by the sequence's open claim (R162). -/
theorem csqTick_of_normal_failed (normal : s.csq.state = .incNormal) (failed : s.csq.monitor = .failed) :
    (csqTick st s).csq.state = .sourceLost ∧ .openClaim .sequence ∈ (csqTick st s).due := by
  have runs : s.sequencing = true := by simp [State.sequencing, auto, normal]
  have opens : incomerMonitor st s = returnOrLost st (sequenceOpen s) := by simp [incomerMonitor, normal, failed]
  have lost := returnOrLost_of_ill (s := sequenceOpen s) (st := st) (by simp [sequenceOpen, failed])
  rw [csqTick_of_incomer role runs, opens, lost, incomerRunOut_of_not (.inl (by simp)), incomerHand_csq,
    incomerHand_due]
  exact ⟨rfl, List.mem_append_right _ List.mem_cons_self⟩

/-- SOURCE_LOST ends at a monitor that is HEALTHY (R161, R162). -/
theorem csqTick_of_lost_healthy (lost : s.csq.state = .sourceLost) (healthy : s.csq.monitor = .healthy) :
    (csqTick st s).csq.state = .returning := by
  have runs : s.sequencing = true := by simp [State.sequencing, auto, lost]
  have returns : incomerMonitor st s = returnOrLost st s := by simp [incomerMonitor, lost, healthy]
  rw [csqTick_of_incomer role runs, returns, returnOrLost_of_healthy healthy,
    incomerRunOut_of_not (.inr (.inl (by simp))), incomerHand_csq]
  rfl

/-- RETURNING at a monitor that is not HEALTHY, and RETRANSFER, are left to the next evaluation of the monitor
(notes/assumptions/63). -/
theorem csqTick_of_returning
    (state : (s.csq.state = .returning ∧ s.csq.monitor ≠ .healthy) ∨ s.csq.state = .retransfer) :
    (csqTick st s).csq = { s.csq with holding := (csqTick st s).csq.holding } := by
  have runs : s.sequencing = true := by obtain ⟨k, -⟩ | k := state <;> simp [State.sequencing, auto, k]
  have left : incomerMonitor st s = s := by obtain ⟨k, -⟩ | k := state <;> simp [incomerMonitor, k]
  have stays : incomerRunOut st s = s := by
    obtain ⟨-, ill⟩ | away := state
    · exact incomerRunOut_of_not (.inr (.inr ill))
    · exact incomerRunOut_of_not (.inl (by simp [away]))
  rw [csqTick_of_incomer role runs, left, stays]
  exact incomerHand_csq s

end tick

/-! ### TRANSFER_TEST, RETRANSFER_INHIBIT and RETRANSFER_NOW (R161, R166) -/

theorem csqEvent_of_force (set : s.settings = some st) (act : Settings → State → State) :
    csqEvent act s = csqTick st (act st s) := State.inForce_some set

/-- The record at a START: the monitor is FAILED at once. -/
def startTested (s : State) : State :=
  (s.setMonitor .failed).withCsq { (s.setMonitor .failed).csq with transferTest := true }

/-- The record at an END: the monitor is what the SOURCE elements show. -/
def endTested (st : Settings) (s : State) : State :=
  (s.setMonitor (if s.sourcesDropped st then .healthy else .failed)).withCsq
    { (s.setMonitor (if s.sourcesDropped st then .healthy else .failed)).csq with transferTest := false }

theorem transferTestStart_of_tested (tested : s.csq.transferTest = true) : transferTestStart s = s := if_pos tested

theorem transferTestStart_of_untested (set : s.settings = some st) (untested : s.csq.transferTest = false) :
    transferTestStart s = csqTick st (startTested s) :=
  (if_neg (by simp [untested])).trans (csqEvent_of_force set _)

theorem transferTestEnd_of_untested (untested : s.csq.transferTest = false) : transferTestEnd s = s :=
  if_neg (by simp [untested])

theorem transferTestEnd_of_tested (set : s.settings = some st) (tested : s.csq.transferTest = true) :
    transferTestEnd s = csqTick st (endTested st s) :=
  (if_pos tested).trans (csqEvent_of_force set _)

theorem sourcesDropped_iff : s.sourcesDropped st = true ↔ ∀ e ∈ st.sourceElements, (s.pes.el e).state = .dropped := by
  simp [State.sourcesDropped]

theorem Quiet.transferTestStart (set : s.settings = some st) : Quiet s (transferTestStart s) := by
  cases tested : s.csq.transferTest with
  | true =>
    rw [transferTestStart_of_tested tested]
    exact Quiet.refl
  | false =>
    rw [transferTestStart_of_untested set tested]
    exact ((Quiet.refl.withCsq _).withCsq _).csqTick st

theorem Quiet.transferTestEnd (set : s.settings = some st) : Quiet s (transferTestEnd s) := by
  cases tested : s.csq.transferTest with
  | true =>
    rw [transferTestEnd_of_tested set tested]
    exact ((Quiet.refl.withCsq _).withCsq _).csqTick st
  | false =>
    rw [transferTestEnd_of_untested tested]
    exact Quiet.refl

section requests
variable (set : s.settings = some st) (role : st.station.role = .incomer)
include set role

/-- What a START leaves of the sequence (R161, R162). -/
theorem transferTestStart_outcome (auto : s.ssc.station = .auto) :
    let u := transferTestStart s
    u.csq.transferTest = true ∧
      (s.csq.transferTest = false → u.csq.monitor = .failed ∧ u.csq.confirmTimer = none ∧
        (s.csq.state = .incNormal → u.csq.state = .sourceLost ∧ .openClaim .sequence ∈ u.due) ∧
        (s.csq.state = .returning ∨ s.csq.state = .retransfer → u.csq.state = s.csq.state ∧
          u.csq.retransferDelay = s.csq.retransferDelay ∧ u.csq.mode = s.csq.mode)) := by
  cases tested : s.csq.transferTest with
  | true =>
    rw [transferTestStart_of_tested tested]
    exact ⟨tested, nofun⟩
  | false =>
    rw [transferTestStart_of_untested set tested]
    obtain ⟨monitor, confirm, test, -⟩ := (Csq.watch_eq_iff _ _).1 (csqTick_watch role (startTested s))
    refine ⟨test, fun _ => ⟨monitor, confirm, fun normal => ?_, fun state => ?_⟩⟩
    · exact csqTick_of_normal_failed (s := startTested s) role auto normal rfl
    · have left := csqTick_of_returning (s := startTested s) role auto
        (state.imp_left fun k => ⟨k, show Monitor.failed ≠ .healthy by decide⟩)
      rw [left]
      exact ⟨rfl, rfl, rfl⟩

/-- What an END leaves of the sequence (R161). -/
theorem transferTestEnd_outcome (auto : s.ssc.station = .auto) :
    let u := transferTestEnd s
    u.csq.transferTest = false ∧
      (s.csq.transferTest = true → u.csq.monitor =
        if ∀ e ∈ st.sourceElements, (s.pes.el e).state = .dropped then .healthy else .failed) ∧
      (s.csq.transferTest = true → s.csq.state = .sourceLost →
        (∀ e ∈ st.sourceElements, (s.pes.el e).state = .dropped) → u.csq.state = .returning) := by
  cases tested : s.csq.transferTest with
  | false =>
    rw [transferTestEnd_of_untested tested]
    exact ⟨tested, nofun, nofun⟩
  | true =>
    rw [transferTestEnd_of_tested set tested]
    obtain ⟨monitor, -, test, -⟩ := (Csq.watch_eq_iff _ _).1 (csqTick_watch role (endTested st s))
    refine ⟨test, fun _ => ?_, fun _ lost dropped => ?_⟩
    · rw [monitor]
      exact if_congr sourcesDropped_iff rfl rfl
    · exact csqTick_of_lost_healthy (s := endTested st s) role auto lost (if_pos (sourcesDropped_iff.2 dropped))

/-- What an inhibit leaves of the sequence (R166). -/
theorem setInhibit_outcome (on : Bool) : Quiet s (setInhibit on s) ∧ (setInhibit on s).csq.inhibit = on := by
  have event : setInhibit on s = csqTick st (s.withCsq { s.csq with inhibit := on }) := csqEvent_of_force set _
  rw [event]
  obtain ⟨-, -, -, inhibit⟩ :=
    (Csq.watch_eq_iff _ _).1 (csqTick_watch role (s.withCsq { s.csq with inhibit := on }))
  exact ⟨(Quiet.refl.withCsq _).csqTick st, inhibit⟩

/-- What a retransfer at once leaves of the sequence (R163, R166). -/
theorem retransferAtOnce_outcome (auto : s.ssc.station = .auto) :
    Quiet s (retransferAtOnce s) ∧ (retransferAtOnce s).csq.state = .retransfer ∧
      (retransferAtOnce s).csq.retransferDelay = none := by
  have event : retransferAtOnce s = csqTick st (enterRetransfer st s) := csqEvent_of_force set _
  have entered := enterRetransfer_csq st s
  have station : (enterRetransfer st s).ssc.station = .auto := (Steady.refl.enterRetransfer st).station.trans auto
  have quiet : Quiet s (enterRetransfer st s) := by
    unfold enterRetransfer
    dsimp only
    split
    · exact (Quiet.refl.withCsq _).handRequest
    · exact Quiet.refl.withCsq _
  have left := csqTick_of_returning role station (.inr (by rw [entered]))
  rw [event]
  refine ⟨quiet.csqTick st, ?_, ?_⟩
  · rw [left, entered]
  · rw [left, entered]

end requests

end Sys2Proof.Machine
end

section
/-! PROOFS. The answers to TRANSFER_TEST, RETRANSFER_INHIBIT, RETRANSFER_NOW (R161, R166) and RUN_DIAGNOSTICS (R80). -/

namespace Sys2Proof.Machine

variable {s u : State} {st : Settings} {r : Request} {code : Byte} {a : Answer}

/-! ### What an answer leaves -/

/-- A publication takes nothing out of the ledger. -/
theorem mem_publish {old : State} {d : Delivery} (h : d ∈ s.due) : d ∈ (publish old s).due := by
  have breaker : d ∈ (publishBreaker old s).due := by
    unfold publishBreaker
    split
    · exact h
    · exact State.mem_notifyAll_due.2 (.inl h)
  have station : d ∈ (publishStation old (publishBreaker old s)).due := by
    unfold publishStation
    split
    · exact breaker
    · exact State.mem_notify_due.2 (.inl (List.mem_append_left _ breaker))
  have sequence : d ∈ (publishSequence old (publishStation old (publishBreaker old s))).due := by
    unfold publishSequence
    split
    · exact station
    · exact State.mem_notify_due.2 (.inl station)
  have syn : d ∈ (publishSyn old (publishSequence old (publishStation old (publishBreaker old s)))).due := by
    unfold publishSyn
    split
    · exact sequence
    · exact State.mem_notifyAll_due.2 (.inl sequence)
  unfold publish publishLsc
  split
  · exact syn
  · exact State.mem_notify_due.2 (.inl syn)

/-- What the owner has sent waits after the answer. -/
theorem mem_replied {d : Delivery} (h : d ∈ a.state.due) : d ∈ (replied s r code a).due :=
  mem_publish (by rwa [settle_due])

/-- An owner that writes the coil drivers alone leaves the link as the frame heard leaves it, with the echo. -/
theorem replied_of_coils (settled : Settled s) (owned : a.state = s.heard.withCds a.state.cds) :
    let t := replied s r code a
    t = { s with sli := { afterHearing s.sli with echo := t.sli.echo }, cds := t.cds, due := t.due } := by
  have still : settle (echoAnswer code r a) = echoAnswer code r a := by
    refine settle_of_settled ⟨?_, ?_⟩
    · rw [echoAnswer, owned]
      exact settled.1
    · rw [echoAnswer, owned]
      exact fun _ free _ => nomatch free
  dsimp only
  rw [← Sli.hear_eq_afterHearing, replied_cds]
  unfold replied
  rw [still, publish_eq, echoAnswer, owned]
  rfl

/-! ### TRANSFER_TEST -/

theorem transferTest_replied (set : s.settings = some st) (handed : Handed s r 5 false) :
    exec (.transferTest r) s = .next (replied s r 5 (ownTransferTest r st s.heard)) := by
  show done s (intake 5 true false r (withForce (ownTransferTest r)) s) = _
  rw [intake_handed handed, withForce_of_force set]
  rfl

/-- An argument that names START or END, or an inhibit on or off, passes the first line of the owner's table. -/
theorem not_misfit (fits : r.args = [0] ∨ r.args = [1]) : ¬ (r.args ≠ [0] ∧ r.args ≠ [1]) := by
  rwa [not_and_or, not_not, not_not]

theorem ownTransferTest_of_misfit (misfit : ¬ (r.args = [0] ∨ r.args = [1])) :
    ownTransferTest r st s = Answer.refuse s .badArgument := by
  rw [not_or] at misfit
  exact if_pos misfit

section fits
variable (fits : r.args = [0] ∨ r.args = [1])
include fits

theorem ownTransferTest_of_other (role : st.station.role ≠ .incomer) :
    ownTransferTest r st s = Answer.refuse s .notApplicable := by
  rw [ownTransferTest, if_neg (not_misfit fits), if_pos role]

section incomer
variable (role : st.station.role = .incomer)
include role

theorem ownTransferTest_of_remote (remote : s.input .remotePermit = false) :
    ownTransferTest r st s = Answer.refuse s .refusedRemote := by
  rw [ownTransferTest, if_neg (not_misfit fits), if_neg (not_not.2 role)]
  simp [remote]

variable (remote : s.input .remotePermit = true)
include remote

theorem ownTransferTest_of_station (station : s.ssc.station ≠ .auto) :
    ownTransferTest r st s = Answer.refuse s .refusedState := by
  rw [ownTransferTest, if_neg (not_misfit fits), if_neg (not_not.2 role)]
  simp [remote, station]

theorem ownTransferTest_of_auto (auto : s.ssc.station = .auto) : ownTransferTest r st s =
    Answer.take (if r.args = [0] then transferTestStart s else transferTestEnd s) := by
  rw [ownTransferTest, if_neg (not_misfit fits), if_neg (not_not.2 role)]
  simp [remote, auto]

end incomer

end fits

/-- TRANSFER_TEST (R161). -/
theorem transferTest_answered (set : s.settings = some st) (handed : Handed s r 5 false) (settled : Settled s) :
    let fits : Prop := r.args = [0] ∨ r.args = [1]
    ∃ t, exec (.transferTest r) s = .next t ∧
      (¬ fits → OnlyAnswered s t r 5 .badArgument none) ∧
      (fits → st.station.role ≠ .incomer → OnlyAnswered s t r 5 .notApplicable none) ∧
      (fits → st.station.role = .incomer → s.input .remotePermit = false →
        OnlyAnswered s t r 5 .refusedRemote none) ∧
      (fits → st.station.role = .incomer → s.input .remotePermit = true → s.ssc.station ≠ .auto →
        OnlyAnswered s t r 5 .refusedState none) ∧
      (st.station.role = .incomer → s.input .remotePermit = true → s.ssc.station = .auto →
        (r.args = [0] → Answered s t r 5 .taken none ∧ t.csq.transferTest = true ∧
          (s.csq.transferTest = false → t.csq.monitor = .failed ∧ t.csq.confirmTimer = none ∧
            (s.csq.state = .incNormal → t.csq.state = .sourceLost ∧ .openClaim .sequence ∈ t.due) ∧
            (s.csq.state = .returning ∨ s.csq.state = .retransfer → t.csq.state = s.csq.state ∧
              t.csq.retransferDelay = s.csq.retransferDelay ∧ t.csq.mode = s.csq.mode))) ∧
        (r.args = [1] → Answered s t r 5 .taken none ∧ t.csq.transferTest = false ∧
          (s.csq.transferTest = true → t.csq.monitor =
            if ∀ e ∈ st.sourceElements, (s.pes.el e).state = .dropped then .healthy else .failed) ∧
          (s.csq.transferTest = true → s.csq.state = .sourceLost →
            (∀ e ∈ st.sourceElements, (s.pes.el e).state = .dropped) → t.csq.state = .returning))) := by
  intro fits
  refine ⟨_, transferTest_replied set handed, fun misfit => ?_, fun fits other => ?_, fun fits role remote => ?_,
    fun fits role remote station => ?_, fun role remote auto => ⟨fun start => ?_, fun ends => ?_⟩⟩
  · rw [ownTransferTest_of_misfit misfit]
    exact replied_refused settled
  · rw [ownTransferTest_of_other fits other]
    exact replied_refused settled
  · rw [ownTransferTest_of_remote (s := s.heard) fits role remote]
    exact replied_refused settled
  · rw [ownTransferTest_of_station (s := s.heard) fits role remote station]
    exact replied_refused settled
  · rw [ownTransferTest_of_auto (s := s.heard) (.inl start) role remote auto, if_pos start, replied_csq]
    obtain ⟨test, outcome⟩ := transferTestStart_outcome (s := s.heard) set role auto
    refine ⟨replied_answered (Quiet.transferTestStart (s := s.heard) set).echo, test, fun untested => ?_⟩
    obtain ⟨monitor, confirm, normal, left⟩ := outcome untested
    exact ⟨monitor, confirm, fun k => (normal k).imp_right mem_replied, left⟩
  · have other : ¬ r.args = [0] := by simp [ends]
    rw [ownTransferTest_of_auto (s := s.heard) (.inr ends) role remote auto, if_neg other, replied_csq]
    exact ⟨replied_answered (Quiet.transferTestEnd (s := s.heard) set).echo,
      transferTestEnd_outcome (s := s.heard) set role auto⟩

/-! ### RETRANSFER_INHIBIT -/

theorem retransferInhibit_replied (set : s.settings = some st) (handed : Handed s r 6 true) :
    exec (.retransferInhibit r) s = .next (replied s r 6 (ownInhibit r st s.heard)) := by
  show done s (intake 6 true true r (withForce (ownInhibit r)) s) = _
  rw [intake_handed handed, withForce_of_force set]
  rfl

theorem ownInhibit_of_misfit (misfit : ¬ (r.args = [0] ∨ r.args = [1])) :
    ownInhibit r st s = Answer.refuse s .badArgument := by
  rw [not_or] at misfit
  exact if_pos misfit

theorem ownInhibit_of_other (fits : r.args = [0] ∨ r.args = [1]) (role : st.station.role ≠ .incomer) :
    ownInhibit r st s = Answer.refuse s .notApplicable := by
  rw [ownInhibit, if_neg (not_misfit fits), if_pos role]

theorem ownInhibit_of_incomer (fits : r.args = [0] ∨ r.args = [1]) (role : st.station.role = .incomer) :
    ownInhibit r st s = Answer.take (setInhibit (r.args == [1]) s) := by
  rw [ownInhibit, if_neg (not_misfit fits), if_neg (not_not.2 role)]

/-- RETRANSFER_INHIBIT (R166). -/
theorem retransferInhibit_answered (set : s.settings = some st) (handed : Handed s r 6 true) (settled : Settled s) :
    let fits : Prop := r.args = [0] ∨ r.args = [1]
    ∃ t, exec (.retransferInhibit r) s = .next t ∧
      (¬ fits → OnlyAnswered s t r 6 .badArgument none) ∧
      (fits → st.station.role ≠ .incomer → OnlyAnswered s t r 6 .notApplicable none) ∧
      (fits → st.station.role = .incomer → Answered s t r 6 .taken none ∧
        (t.csq.inhibit = true ↔ r.args = [1])) := by
  intro fits
  refine ⟨_, retransferInhibit_replied set handed, fun misfit => ?_, fun fits other => ?_, fun fits role => ?_⟩
  · rw [ownInhibit_of_misfit misfit]
    exact replied_refused settled
  · rw [ownInhibit_of_other fits other]
    exact replied_refused settled
  · obtain ⟨quiet, inhibit⟩ := setInhibit_outcome (s := s.heard) set role (r.args == [1])
    rw [ownInhibit_of_incomer fits role, replied_csq]
    refine ⟨replied_answered quiet.echo, ?_⟩
    rw [Answer.take, inhibit]
    exact beq_iff_eq

/-! ### RETRANSFER_NOW -/

theorem retransferNow_replied (set : s.settings = some st) (handed : Handed s r 7 false) :
    exec (.retransferNow r) s = .next (replied s r 7 (ownRetransferNow r st s.heard)) := by
  show done s (intake 7 true false r (withForce (ownRetransferNow r)) s) = _
  rw [intake_handed handed, withForce_of_force set]
  rfl

theorem ownRetransferNow_of_misfit (misfit : r.args ≠ []) : ownRetransferNow r st s = Answer.refuse s .badArgument := by
  simp [ownRetransferNow, misfit]

section now
variable (fits : r.args = [])
include fits

theorem ownRetransferNow_of_other (role : st.station.role ≠ .incomer) :
    ownRetransferNow r st s = Answer.refuse s .notApplicable := by
  simp [ownRetransferNow, fits, role]

variable (role : st.station.role = .incomer)
include role

theorem ownRetransferNow_of_remote (remote : s.input .remotePermit = false) :
    ownRetransferNow r st s = Answer.refuse s .refusedRemote := by
  simp [ownRetransferNow, fits, role, remote]

variable (remote : s.input .remotePermit = true)
include remote

theorem ownRetransferNow_of_state (state : s.ssc.station ≠ .auto ∨ s.csq.state ≠ .returning) :
    ownRetransferNow r st s = Answer.refuse s .refusedState := by
  simp only [ownRetransferNow, fits, role, remote, List.isEmpty_nil, Bool.not_true, Bool.false_eq_true, ne_eq,
    not_true_eq_false, if_false]
  exact if_pos state

variable (auto : s.ssc.station = .auto) (returning : s.csq.state = .returning)
include auto returning

theorem ownRetransferNow_of_inhibit (inhibited : s.csq.inhibit = true) :
    ownRetransferNow r st s = Answer.refuse s .refusedInterlock := by
  simp [ownRetransferNow, fits, role, remote, auto, returning, inhibited]

variable (free : s.csq.inhibit = false)
include free

theorem ownRetransferNow_of_lockout (lockout : s.bkc.lockout = true) :
    ownRetransferNow r st s = Answer.refuse s .refusedLockout := by
  simp [ownRetransferNow, fits, role, remote, auto, returning, free, lockout]

theorem ownRetransferNow_of_free (clear : s.bkc.lockout = false) :
    ownRetransferNow r st s = Answer.take (retransferAtOnce s) := by
  simp [ownRetransferNow, fits, role, remote, auto, returning, free, clear]

end now

/-- RETRANSFER_NOW (R166). -/
theorem retransferNow_answered (set : s.settings = some st) (handed : Handed s r 7 false) (settled : Settled s) :
    ∃ t, exec (.retransferNow r) s = .next t ∧
      (r.args ≠ [] → OnlyAnswered s t r 7 .badArgument none) ∧
      (r.args = [] → st.station.role ≠ .incomer → OnlyAnswered s t r 7 .notApplicable none) ∧
      (r.args = [] → st.station.role = .incomer → s.input .remotePermit = false →
        OnlyAnswered s t r 7 .refusedRemote none) ∧
      (r.args = [] → st.station.role = .incomer → s.input .remotePermit = true →
        (s.ssc.station ≠ .auto ∨ s.csq.state ≠ .returning → OnlyAnswered s t r 7 .refusedState none) ∧
        (s.ssc.station = .auto → s.csq.state = .returning →
          (s.csq.inhibit = true → OnlyAnswered s t r 7 .refusedInterlock none) ∧
          (s.csq.inhibit = false → s.bkc.lockout = true → OnlyAnswered s t r 7 .refusedLockout none) ∧
          (s.csq.inhibit = false → s.bkc.lockout = false →
            Answered s t r 7 .taken none ∧ t.csq.state = .retransfer ∧ t.csq.retransferDelay = none))) := by
  have refuse {result : Result} (h : ownRetransferNow r st s.heard = Answer.refuse s.heard result) :
      OnlyAnswered s (replied s r 7 (ownRetransferNow r st s.heard)) r 7 result none := by
    rw [h]
    exact replied_refused settled
  refine ⟨_, retransferNow_replied set handed, fun misfit => refuse ?_, fun fits other => refuse ?_,
    fun fits role remote => refuse ?_, fun fits role remote => ⟨fun state => refuse ?_, fun auto returning =>
      ⟨fun inhibited => refuse ?_, fun free lockout => refuse ?_, fun free clear => ?_⟩⟩⟩
  · exact ownRetransferNow_of_misfit misfit
  · exact ownRetransferNow_of_other fits other
  · exact ownRetransferNow_of_remote (s := s.heard) fits role remote
  · exact ownRetransferNow_of_state (s := s.heard) fits role remote state
  · exact ownRetransferNow_of_inhibit (s := s.heard) fits role remote auto returning inhibited
  · exact ownRetransferNow_of_lockout (s := s.heard) fits role remote auto returning free lockout
  · rw [ownRetransferNow_of_free (s := s.heard) fits role remote auto returning free clear, replied_csq]
    obtain ⟨quiet, state, delay⟩ := retransferAtOnce_outcome (s := s.heard) set role auto
    exact ⟨replied_answered quiet.echo, state, delay⟩

/-! ### RUN_DIAGNOSTICS -/

theorem runDiagnostics_replied (handed : Handed s r 8 false) :
    exec (.runDiagnostics r) s = .next (replied s r 8 (ownDiagnostics r s.heard)) := by
  show done s (intake 8 true false r (ownDiagnostics r) s) = _
  rw [intake_handed handed]
  rfl

theorem ownDiagnostics_of_misfit (misfit : r.args ≠ []) : ownDiagnostics r s = Answer.refuse s .badArgument := by
  simp [ownDiagnostics, misfit]

section fits
variable (fits : r.args = [])
include fits

theorem ownDiagnostics_of_early (early : s.ssc.station = .presence ∨ s.ssc.station = .warmup) :
    ownDiagnostics r s = Answer.refuse s .refusedState := by
  simp [ownDiagnostics, fits, early]

section ready
variable (ready : ¬ (s.ssc.station = .presence ∨ s.ssc.station = .warmup))
include ready

theorem ownDiagnostics_of_running (running : s.cds.run.isSome = true) :
    ownDiagnostics r s = Answer.refuse s .busy := by
  simp [ownDiagnostics, fits, ready, running]

variable (none_runs : s.cds.run = none)
include none_runs

theorem ownDiagnostics_of_untestable (untestable : ¬ (s.bkc.state = .closed ∨ s.bkc.state = .opened)) :
    ownDiagnostics r s =
      Answer.refuse (s.withCds { s.cds with lastRun := s.runRecord .noCircuit .notApplicable }) .notApplicable := by
  rw [not_or] at untestable
  simp [ownDiagnostics, fits, ready, none_runs, testableCircuit_of_untestable untestable.1 untestable.2]

variable (testable : s.bkc.state = .closed ∨ s.bkc.state = .opened)
include testable

theorem ownDiagnostics_of_energized (out : s.cds.anyOut = true) : ownDiagnostics r s = Answer.refuse s .busy := by
  simp [ownDiagnostics, fits, ready, none_runs, testableCircuit_of_testable testable, out]

theorem ownDiagnostics_of_idle (idle : s.cds.anyOut = false) :
    ownDiagnostics r s = Answer.take (beginRun (if s.bkc.state = .closed then .trip else .close) s) := by
  simp [ownDiagnostics, fits, ready, none_runs, testableCircuit_of_testable testable, idle]

end ready

end fits

/-- The owner of RUN_DIAGNOSTICS writes the coil drivers alone. -/
theorem ownDiagnostics_state (r : Request) (s : State) :
    (ownDiagnostics r s).state = s.withCds (ownDiagnostics r s).state.cds := by
  unfold ownDiagnostics
  split
  · rfl
  · split
    · rfl
    · split
      · rfl
      · split
        · rfl
        · split <;> rfl

end Sys2Proof.Machine

open Sys2Proof Sys2Proof.Machine

/-- Settles O57: each request handed to its owner by the owner's table. -/
theorem sequenceAndDiagnosticsRequestsAreAnswered : Obligations.SequenceAndDiagnosticsRequestsAreAnswered := by
  unfold Obligations.SequenceAndDiagnosticsRequestsAreAnswered
  refine ⟨fun s st r set settled => ⟨fun handed => transferTest_answered set handed settled,
    fun handed => retransferInhibit_answered set handed settled,
    fun handed => retransferNow_answered set handed settled⟩, fun s r handed settled => ?_⟩
  intro idle testable
  refine ⟨_, runDiagnostics_replied handed, replied_of_coils settled (ownDiagnostics_state r s.heard), fun misfit => ?_,
    fun fits => ⟨fun early => ?_, fun presence warmup => ?_⟩⟩
  · rw [ownDiagnostics_of_misfit misfit]
    exact replied_refused settled
  · rw [ownDiagnostics_of_early (s := s.heard) fits early]
    exact replied_refused settled
  · have ready : ¬ (s.heard.ssc.station = .presence ∨ s.heard.ssc.station = .warmup) := not_or.2 ⟨presence, warmup⟩
    refine ⟨fun running => ?_, fun none_runs untestable => ?_, fun none_runs testable out => ?_,
      fun none_runs testable idle => ?_⟩
    · rw [ownDiagnostics_of_running (s := s.heard) fits ready running]
      exact replied_refused settled
    · rw [ownDiagnostics_of_untestable (s := s.heard) fits ready none_runs untestable, replied_cds]
      exact ⟨replied_answered rfl, rfl, rfl⟩
    · have energized : s.cds.anyOut = true := Bool.eq_true_of_not_eq_false (mt Cds.anyOut_eq_false_iff.1 out)
      rw [ownDiagnostics_of_energized (s := s.heard) fits ready none_runs testable energized]
      exact replied_refused settled
    · rw [ownDiagnostics_of_idle (s := s.heard) fits ready none_runs testable (Cds.anyOut_eq_false_iff.2 idle),
        beginRun_eq, replied_cds]
      exact ⟨replied_answered rfl, rfl, fun i => by simp [Answer.take], rfl, rfl, rfl⟩

end

section
/-! PROOFS. A station that returns from an address conflict to START (R199): the invariant of the link asks that the
line be not yet watched in START (R83), but leaves open which state the station returns to (R99). -/

namespace Sys2Proof.Machine

/-- Station 1 assigns the number 5 to the station with the identity 0. -/
def assignFive : Request :=
  { header := 1, target := 0, origin := 1, args := be48 0 ++ [5], check := crc8 ([0, 1, 13] ++ be48 0 ++ [5]) }

/-- A TIE in address conflict that is to return to START, with an assignment of a new number at the front of the
queue. -/
def returnsToStart : State :=
  { State.reset with
    settings := some (settingsOf (fun _ => none) .tie)
    sli := { State.reset.sli with watching := true, conflict := some 31, conflictTimer := some 1000 }
    ssc := { State.reset.ssc with station := .addressConflict, returnState := some .start }
    pending := [.assignNumber assignFive] }

theorem linkKept_returnsToStart : LinkKept returnsToStart :=
  ⟨by decide, by decide, nofun, fun _ => rfl, by decide,
    fun _ => ⟨rfl, rfl, rfl, rfl, rfl, rfl, rfl, .inl rfl, nofun⟩, fun _ free => nomatch free⟩

/-- The assignment ends the conflict, and the station stands in START with its line watched. -/
theorem assignment_returns_to_start {t : State} (h : step returnsToStart = .next t) :
    t.ssc.station = .start ∧ t.sli.watching = true := by
  obtain rfl := Host.Outcome.next.inj h
  decide +kernel

end Sys2Proof.Machine

open Sys2Proof Sys2Proof.Machine

/-- Refutes O48: in START the invariant asks for a line that is not yet watched (R83), and it lets a station in conflict
return to START, which takes the line as it is. -/
theorem not_everyStepKeepsTheLink : ¬ Obligations.EveryStepKeepsTheLink := by
  unfold Obligations.EveryStepKeepsTheLink
  intro kept
  obtain ⟨-, -, silent, -⟩ := kept returnsToStart _ linkKept_returnsToStart rfl
  obtain ⟨start, watched⟩ := assignment_returns_to_start rfl
  exact Bool.false_ne_true ((silent start).2.symm.trans watched)

end

section
/-! PROOFS. The line (R83 to R86, R91, R92, R133): the frame that begins on a free line, the item that leaves with its
frame, and the end of a command that leaves the line busy. -/

namespace Sys2Proof.Machine

variable {s t u : State} {l : Sli} {f : Flight} {slot : Slot}

/-! ### The end of a command that leaves the line busy -/

/-- On a line that is not free no frame begins, and where no ZERO condition is new the load share controller stands. -/
theorem settle_of_busy (zero : ZeroSettled s) (lsc : u.lsc = s.lsc) (holds : u.zeroHolds = s.zeroHolds)
    (busy : u.sli.lineFree = false) : settle u = u := by
  refine settle_of_settled ⟨?_, fun _ free _ => ?_⟩
  · unfold ZeroSettled
    rwa [holds, lsc]
  · rw [busy] at free
    cases free

/-- The end of a command that wrote the link alone and left its line busy. -/
theorem publish_busy (zero : ZeroSettled s) {x : Sli} (busy : x.lineFree = false) :
    publish s (settle (s.withSli x)) = { s with sli := x, due := (publish s (settle (s.withSli x))).due } := by
  rw [settle_of_busy (u := s.withSli x) zero rfl rfl busy, publish_eq]
  rfl

/-- Every command leaves its line settled: what waits for a free line has begun. -/
theorem lineSettled_of_nextSlot (idle : t.nextSlot = none) : LineSettled t := fun away free flight => by
  rw [← idle, State.nextSlot, if_pos ⟨away, free, flight⟩]

theorem exec_lineSettled (c : Instr) (h : exec c s = .next t) : LineSettled t := by
  have ended {u : State} (k : exec c s = done s u) : LineSettled t := by
    obtain rfl : publish s (settle u) = t := Host.Outcome.next.inj (k.symm.trans h)
    exact lineSettled_of_nextSlot (by simp)
  cases c
  case reset straps raw =>
    obtain rfl := Host.Outcome.next.inj ((exec_reset straps raw s).symm.trans h)
    exact fun away => absurd rfl away
  all_goals exact ended rfl

/-! ### The frame that begins (R83, R84, R91, R98) -/

/-- The link on a line that is free from now on. -/
def Sli.freed (l : Sli) : Sli := { l with watching := true, lineFree := true }

theorem lineFree_effect (away : s.ssc.station ≠ .start) (idle : s.sli.flight = none) :
    exec .lineFree s = done s (s.withSli s.sli.freed) := by
  simp [exec, execLineFree, State.onLine, away, idle, Sli.freed]

/-- The first bit of the frame of a waiting item is on the line, and the item is in flight. -/
def Begins (s t : State) (slot : Slot) (frame : List Byte) : Prop :=
  t = { s with sli := { s.sli with watching := true, lineFree := false, flight := t.sli.flight }, due := t.due } ∧
    ∃ f, t.sli.flight = some f ∧ f.slot = slot ∧ f.replaced = false ∧ f.frame = frame

/-- What LINE_FREE leaves: the first item that waits is in flight, or the line stands free. -/
theorem lineFree_settles (zero : ZeroSettled s) :
    settle (s.withSli s.sli.freed) = s.withSli (settle (s.withSli s.sli.freed)).sli :=
  settle_of_event zero (Only.withSli (by decide) Only.refl _) rfl

theorem lineFree_begins (zero : ZeroSettled s) (away : s.ssc.station ≠ .start) (idle : s.sli.flight = none)
    (choice : s.sli.choice = some slot) :
    Begins s (publish s (settle (s.withSli s.sli.freed))) slot (s.sli.frame s.pins.identity slot) := by
  have next : (s.withSli s.sli.freed).nextSlot = some slot := (if_pos ⟨away, rfl, idle⟩).trans choice
  have begun : (settle (s.withSli s.sli.freed)).sli = s.sli.freed.begin s.pins.identity slot := by
    rw [settle_sli, next]
    rfl
  refine ⟨?_, ?_⟩
  · rw [publish_eq, lineFree_settles zero, begun]
    rfl
  · rw [publish_sli, begun]
    exact ⟨_, rfl, rfl, rfl, rfl⟩

theorem lineFree_stands (zero : ZeroSettled s) (choice : s.sli.choice = none) :
    let t := publish s (settle (s.withSli s.sli.freed))
    t = { s with sli := s.sli.freed, due := t.due } := by
  have idle : (s.withSli s.sli.freed).nextSlot = none := by
    unfold State.nextSlot
    split
    · exact choice
    · rfl
  have stands : (settle (s.withSli s.sli.freed)).sli = s.sli.freed := by rw [settle_sli, idle]; rfl
  dsimp only
  rw [publish_eq, lineFree_settles zero, stands]
  rfl

/-- The kind byte of a DATA frame: 1 for a block, 0 for a directory. -/
theorem dataKind_eq (block : Bool) : (0#7 ++ bit1 block : Byte) = if block then 1 else 0 := by
  cases block <;> rfl

section choice

/-- With no conflict the choice is the first of the seven places that holds an item (R91). -/
theorem Sli.choice_of_free (free : l.conflict = none) :
    l.choice = [Slot.bf, .notice, .claim, .report, .events, .data, .presence].find? l.holds := by
  simp [Sli.choice, Sli.order, free]

/-- In conflict only the presence slot is looked at (R98). -/
theorem Sli.choice_of_conflict (conflict : l.conflict.isSome) : l.choice = [Slot.presence].find? l.holds := by
  simp [Sli.choice, Sli.order, conflict]

theorem Sli.choice_eq_none (presence : l.presenceSlot = none)
    (rest : l.conflict.isSome ∨ (l.bfSlot = none ∧ l.noticeSlot = none ∧ l.claimSlot = none ∧ l.reportSlot = none ∧
      l.events = [] ∧ l.data = [])) : l.choice = none := by
  cases conflict : l.conflict with
  | some n => simp [l.choice_of_conflict (by simp [conflict]), Sli.holds, presence]
  | none =>
    obtain ⟨bf, notice, claim, report, events, data⟩ := rest.resolve_left (by simp [conflict])
    simp [l.choice_of_free conflict, Sli.holds, bf, notice, claim, report, events, data, presence]

end choice

/-! ### The item that leaves with its frame (R91, R92, R133) -/

section leave
variable (l : Sli) (f : Flight)

theorem Sli.leave_slots : let gone (slot : Slot) : Prop := f.slot = slot ∧ f.replaced = false
    (gone .bf → (l.leave f).bfSlot = none) ∧ (¬ gone .bf → (l.leave f).bfSlot = l.bfSlot) ∧
    (gone .notice → (l.leave f).noticeSlot = none) ∧ (¬ gone .notice → (l.leave f).noticeSlot = l.noticeSlot) ∧
    (gone .claim → (l.leave f).claimSlot = none) ∧ (¬ gone .claim → (l.leave f).claimSlot = l.claimSlot) ∧
    (gone .report → (l.leave f).reportSlot = none) ∧ (¬ gone .report → (l.leave f).reportSlot = l.reportSlot) ∧
    (gone .presence → (l.leave f).presenceSlot = none) ∧
    (¬ gone .presence → (l.leave f).presenceSlot = l.presenceSlot) := by
  obtain ⟨slot, replaced, -, -⟩ := f
  cases slot <;> cases replaced <;> simp [Sli.leave]

theorem Sli.leave_queues : (l.leave f).events = (if f.slot = .events then l.events.tail else l.events) ∧
    (l.leave f).data = (if f.slot = .data then l.data.tail else l.data) := by
  obtain ⟨slot, replaced, -, -⟩ := f
  cases slot <;> cases replaced <;> exact ⟨rfl, rfl⟩

/-- The link but for its slots, queues and flight. -/
theorem Sli.leave_keeps : (l.leave f).echo = l.echo ∧ (l.leave f).ownNumber = l.ownNumber ∧
    (l.leave f).counters = l.counters ∧ (l.leave f).eventsLost = l.eventsLost := by
  obtain ⟨slot, replaced, -, -⟩ := f
  cases slot <;> cases replaced <;> exact ⟨rfl, rfl, rfl, rfl⟩

theorem Sli.carriesClaim_iff : l.carriesClaim f = true ↔
    (f.slot = .claim ∧ f.replaced = false) ∧ ∃ x, l.claimSlot = some x ∧ x ≠ .withdraw := by
  unfold Sli.carriesClaim
  rcases l.claimSlot with - | ⟨x⟩ | - <;> simp

end leave

/-- A pending claim whose CLAIM has left begins its hold (R133), and any other stands. -/
theorem claimLeft_of_pending {c : Claim} (claim : s.syn.claim = some c) (pending : c.phase = .pending) :
    claimLeft s = s.withSyn { s.syn with
      claim := some { sections := c.sections, phase := .holding }, holdTimer := some (s.localTime + 60) } := by
  simp [claimLeft, claim, pending, State.after]

theorem claimLeft_of_not_pending (still : ¬ ∃ c, s.syn.claim = some c ∧ c.phase = .pending) : claimLeft s = s := by
  unfold claimLeft
  split
  · next c claim => exact if_neg fun pending => still ⟨c, claim, pending⟩
  · rfl

theorem claimLeft_syn_state : (claimLeft s).syn.state = s.syn.state := by
  unfold claimLeft
  split
  · split <;> rfl
  · rfl

/-- What the leaving of an item writes: the link, and the claim of the synchronizer. -/
theorem leaveFlight_eq : leaveFlight f s = (s.withSli (s.sli.leave f).land).withSyn (leaveFlight f s).syn := by
  unfold leaveFlight claimLeft
  dsimp only
  repeat' split
  all_goals rfl

theorem leaveFlight_sli : (leaveFlight f s).sli = (s.sli.leave f).land := by rw [leaveFlight_eq]; rfl

theorem leaveFlight_syn_of_pending {c : Claim} (carries : s.sli.carriesClaim f = true)
    (claim : s.syn.claim = some c) (pending : c.phase = .pending) :
    (leaveFlight f s).syn = { s.syn with
      claim := some { sections := c.sections, phase := .holding }, holdTimer := some (s.localTime + 60) } := by
  unfold leaveFlight
  rw [if_pos carries, claimLeft_of_pending (s := s.withSli (s.sli.leave f).land) claim pending]
  rfl

theorem leaveFlight_syn_of_not_pending
    (still : ¬ (s.sli.carriesClaim f = true ∧ ∃ c, s.syn.claim = some c ∧ c.phase = .pending)) :
    (leaveFlight f s).syn = s.syn := by
  unfold leaveFlight
  split
  · next carries =>
    have stands := claimLeft_of_not_pending (s := s.withSli (s.sli.leave f).land)
      fun pending => still ⟨carries, pending⟩
    show (claimLeft (s.withSli (s.sli.leave f).land)).syn = s.syn
    rw [stands]
    rfl
  · rfl

theorem leaveFlight_syn_state : (leaveFlight f s).syn.state = s.syn.state := by
  unfold leaveFlight
  split
  · exact claimLeft_syn_state
  · rfl

/-- The link that an item has left, with a count and a mark of its own. -/
def Sli.left (l : Sli) (f : Flight) (counters : Counters) (eventsLost : Bool) : Sli :=
  { (l.leave f).land with counters := counters, eventsLost := eventsLost }

theorem frameCompleted_effect (away : s.ssc.station ≠ .start) (flight : s.sli.flight = some f) :
    exec .frameCompleted s = done s ((leaveFlight f s).withSli
      (s.sli.left f s.sli.counters (s.sli.eventsLost && !f.carriesLost))) := by
  obtain ⟨-, -, counters, lost⟩ := s.sli.leave_keeps f
  simp [exec, execFrameCompleted, State.onLine, away, flight, leaveFlight_sli, Sli.left, Sli.land, counters, lost]

/-- A count that stands at 65535 stays there (R100). -/
theorem stopAt65535_eq (c : BitVec 16) : stopAt65535 c = if c = 65535 then 65535 else c + 1 := by
  unfold stopAt65535
  split
  · assumption
  · rfl

theorem transmitBitError_effect (away : s.ssc.station ≠ .start) (flight : s.sli.flight = some f) :
    exec .transmitBitError s = done s ((leaveFlight f s).withSli (s.sli.left f
      { s.sli.counters with txErrors := stopAt65535 s.sli.counters.txErrors } s.sli.eventsLost)) := by
  obtain ⟨-, -, counters, lost⟩ := s.sli.leave_keeps f
  simp [exec, execTransmitBitError, State.onLine, away, flight, leaveFlight_sli, Sli.left, Sli.land, counters, lost]

theorem arbitrationLost_effect (away : s.ssc.station ≠ .start) (flight : s.sli.flight = some f) :
    exec (.arbitrationLost false) s = done s (s.withSli s.sli.land) := by
  simp [exec, execArbitrationLost, State.onLine, away, flight]

/-- The end of a command by which an item has left: the line is not yet free, and what left is told to the SYN alone. -/
theorem publish_left (zero : ZeroSettled s) {x : Sli} (busy : x.lineFree = false) :
    let t := publish s (settle ((leaveFlight f s).withSli x))
    t = { s with sli := x, syn := (leaveFlight f s).syn, due := t.due } := by
  have holds : ((leaveFlight f s).withSli x).zeroHolds = s.zeroHolds := by
    rw [leaveFlight_eq]
    exact zeroHolds_congr rfl rfl rfl leaveFlight_syn_state
  have lsc : ((leaveFlight f s).withSli x).lsc = s.lsc := by rw [leaveFlight_eq]; rfl
  dsimp only
  rw [settle_of_busy zero lsc holds busy, publish_eq, leaveFlight_eq]
  rfl

/-! ### A report on a free line, and a frame heard (R83, R104) -/

theorem reportTimerExpiry_effect {due : Time} (away : s.ssc.station ≠ .start) (timer : s.ptb.reportTimer = some due) :
    exec .reportTimerExpiry s = done s (((s.reach due).withSli (s.sli.placeReport (s.reach due).report)).withPtb
      { s.ptb with reportTimer := (s.reach due).after 20 }) := by
  simp [exec, execReportTimerExpiry, timer, placeReport, away]

/-- A report placed where nothing waits is the one that is sent next. -/
theorem Sli.choice_of_report {r : Report} (free : l.conflict = none) (idle : l.flight = none)
    (empty : l.choice = none) :
    (l.placeReport r).choice = some .report ∧ (l.placeReport r).reportSlot = some r ∧
      (l.placeReport r).flight = none ∧ (l.placeReport r).lineFree = l.lineFree ∧
      (l.placeReport r).ownNumber = l.ownNumber := by
  have slots : l.bfSlot = none ∧ l.noticeSlot = none ∧ l.claimSlot = none := by
    simp only [l.choice_of_free free, List.find?_eq_none, List.mem_cons, List.not_mem_nil, or_false, forall_eq_or_imp,
      forall_eq, Sli.holds, Option.isSome_iff_ne_none, not_not] at empty
    exact ⟨empty.1, empty.2.1, empty.2.2.1⟩
  obtain ⟨bf, notice, claim⟩ := slots
  have placed : l.placeReport r = { l with
      reportSlot := some r, counters := l.counters.overrun (l.reportSlot.isSome && !l.inFlight .report) } := by
    simp [Sli.placeReport, Sli.whenOnAir, free, Sli.touch, idle]
  rw [placed]
  exact ⟨by simp [Sli.choice_of_free, Sli.holds, free, bf, notice, claim], rfl, idle, rfl, rfl⟩

/-- A frame of another station that serves nobody here ends what was in flight, and no more. -/
theorem filtered_of_none {n : StationNo} (away : s.ssc.station ≠ .start) (watching : s.sli.watching = true)
    (other : n ≠ s.sli.ownNumber) (number : n ≠ 0) :
    filtered n (fun s => s) s = s.withSli (afterHearing s.sli) := by
  rw [filtered_of_other away watching other number, State.heard, Sli.hear_eq_afterHearing]

/-- The report of a report timer takes the line that stands free (R83, R104). -/
theorem reportTimerExpiry_begins {due : Time} (away : s.ssc.station ≠ .start) (idle : s.sli.flight = none)
    (free : s.sli.lineFree = true) (onAir : s.sli.conflict = none) (settled : Settled s)
    (timer : s.ptb.reportTimer = some due) :
    ∃ t, exec .reportTimerExpiry s = .next t ∧ t.sli.lineFree = false ∧
      ∃ r, t.sli.reportSlot = some r ∧ ∃ f, t.sli.flight = some f ∧ f.slot = .report ∧ f.replaced = false ∧
        f.frame = frameBytes 3 s.sli.ownNumber [] 0 (encodeReport r) := by
  have effect := reportTimerExpiry_effect away timer
  obtain ⟨choice, slot, flight, line, own⟩ :=
    Sli.choice_of_report (r := (s.reach due).report) onAir idle (settled.2 away free idle)
  generalize reporting : ((s.reach due).withSli _).withPtb _ = u at effect
  have placed : u.sli = s.sli.placeReport (s.reach due).report := by rw [← reporting]; rfl
  have next : u.nextSlot = some .report := by
    rw [State.nextSlot, placed, choice, flight, line, free, if_pos]
    exact ⟨by rw [← reporting]; simpa using away, rfl, rfl⟩
  refine ⟨_, effect, ?_⟩
  rw [publish_sli, settle_sli, next]
  refine ⟨rfl, _, (congrArg Sli.reportSlot placed).trans slot, _, rfl, rfl, rfl, ?_⟩
  simp [Sli.frame, placed, slot, own]

/-- A frame heard ends what was in flight, and the next LINE_FREE begins the first item that waits (R83). -/
theorem heard_then_lineFree {n : StationNo} {identity : BitVec 48} (away : s.ssc.station ≠ .start)
    (watching : s.sli.watching = true) (number : n ≠ 0) (other : n ≠ s.sli.ownNumber) (settled : Settled s) :
    let l := afterHearing s.sli
    ∃ t, exec (.presenceReceived n identity) s = .next t ∧ t = { s with sli := l, due := t.due } ∧
      ∃ u, exec .lineFree t = .next u ∧
        (∀ slot, l.choice = some slot →
          u.sli = { l with flight := u.sli.flight } ∧
            ∃ f, u.sli.flight = some f ∧ f.slot = slot ∧ f.replaced = false ∧
              f.frame = l.frame s.pins.identity slot) ∧
        (l.choice = none → u.sli = { l with lineFree := true }) := by
  intro l
  have effect : exec (.presenceReceived n identity) s = done s (s.withSli l) :=
    congrArg (done s) (filtered_of_none away watching other number)
  have e : publish s (settle (s.withSli l)) = { s with sli := l, due := _ } := publish_busy settled.1 rfl
  refine ⟨_, effect, ?_⟩
  generalize publish s (settle (s.withSli l)) = t at e ⊢
  have link : t.sli = l := by rw [e]
  have zero : ZeroSettled t := by rw [e]; exact settled.1
  have away : t.ssc.station ≠ .start := by rw [e]; exact away
  have idle : t.sli.flight = none := by rw [link]; rfl
  have watched : l.watching = true := watching
  refine ⟨e, _, lineFree_effect away idle, fun slot choice => ?_, fun choice => ?_⟩
  · obtain ⟨begun, f, flight, place, whole, frame⟩ := lineFree_begins zero away idle (link ▸ choice)
    refine ⟨?_, f, flight, place, whole, by rw [frame, link, e]⟩
    rw [link] at begun ⊢
    rw [watched]
    exact congrArg State.sli begun
  · have stands := lineFree_stands zero (link ▸ choice)
    rw [link] at stands ⊢
    rw [watched]
    exact congrArg State.sli stands

end Sys2Proof.Machine

open Sys2Proof Sys2Proof.Machine

/-- Settles O45: the choice of the first item that waits, what leaves with a frame, and the end of every command, at
which an item that waits for a free line begins. -/
theorem framesTakeTheLineAndLeave : Obligations.FramesTakeTheLineAndLeave := by
  unfold Obligations.FramesTakeTheLineAndLeave
  refine ⟨?_, ?_, fun c s t => exec_lineSettled c, ?_, ?_⟩
  · intro s away idle settled l begins
    have first {slot : Slot} {frame : List Byte} (choice : l.choice = some slot)
        (bytes : l.frame s.pins.identity slot = frame) : begins (publish s (settle (s.withSli l.freed))) slot frame :=
      bytes ▸ lineFree_begins settled.1 away idle choice
    refine ⟨_, lineFree_effect away idle, fun free => ?_, fun n slot conflict => ?_, fun presence rest => ?_⟩
    · have order := l.choice_of_free free
      exact ⟨fun x bf => first (by simp [order, Sli.holds, bf]) (by simp [Sli.frame, bf]), fun bf =>
        ⟨fun c notice => first (by simp [order, Sli.holds, bf, notice]) (by simp [Sli.frame, notice]), fun notice =>
        ⟨fun x claim => first (by simp [order, Sli.holds, bf, notice, claim])
          (by simp [Sli.frame, claim, claimItemFrame]),
        fun claim => first (by simp [order, Sli.holds, bf, notice, claim])
          (by simp [Sli.frame, claim, claimItemFrame]), fun claim =>
        ⟨fun r report => first (by simp [order, Sli.holds, bf, notice, claim, report]) (by simp [Sli.frame, report]),
        fun report =>
        ⟨fun e es events => first (by simp [order, Sli.holds, bf, notice, claim, report, events])
          (by simp [Sli.frame, events]), fun events =>
        ⟨fun d ds data => first (by simp [order, Sli.holds, bf, notice, claim, report, events, data])
          (by rw [← dataKind_eq]; simp [Sli.frame, data]),
        fun data presence => first (by simp [order, Sli.holds, bf, notice, claim, report, events, data, presence])
          (by simp [Sli.frame, presence, presenceFrame])⟩⟩⟩⟩⟩⟩
    · exact first (by simp [l.choice_of_conflict conflict, Sli.holds, slot]) (by simp [Sli.frame, slot, presenceFrame])
    · exact lineFree_stands settled.1 (Sli.choice_eq_none presence rest)
  · intro s f away flight settled gone left
    have ended (counters : Counters) (lost : Bool) :
        left (publish s (settle ((leaveFlight f s).withSli (s.sli.left f counters lost)))) := by
      obtain ⟨bf, bf', notice, notice', claim, claim', report, report', presence, presence'⟩ := s.sli.leave_slots f
      obtain ⟨events, data⟩ := s.sli.leave_queues f
      obtain ⟨echo, own, -, -⟩ := s.sli.leave_keeps f
      have e := publish_left (s := s) (f := f) (x := s.sli.left f counters lost) settled.1 rfl
      dsimp only at e
      generalize publish s (settle ((leaveFlight f s).withSli (s.sli.left f counters lost))) = t at e ⊢
      have sli : t.sli = s.sli.left f counters lost := by rw [e]
      have syn : t.syn = (leaveFlight f s).syn := by rw [e]
      simp only [left, sli, syn]
      refine ⟨e, rfl, rfl, bf, bf', notice, notice', claim, claim', report, report', presence, presence', events, data,
        s.sli.leave_conflict f, echo, own, fun x held c pending waits goes => ?_, fun still => ?_⟩
      · exact leaveFlight_syn_of_pending ((s.sli.carriesClaim_iff f).2 ⟨goes, _, held, nofun⟩) pending waits
      · exact leaveFlight_syn_of_not_pending fun ⟨carries, pending⟩ =>
          still ⟨((s.sli.carriesClaim_iff f).1 carries).1, ((s.sli.carriesClaim_iff f).1 carries).2, pending⟩
    have shown (counters : Counters) (lost : Bool) :
        (publish s (settle ((leaveFlight f s).withSli (s.sli.left f counters lost)))).sli =
          s.sli.left f counters lost :=
      congrArg State.sli (publish_left settled.1 rfl)
    refine ⟨⟨_, frameCompleted_effect away flight, ended _ _, by rw [shown]; rfl, by rw [shown]; rfl⟩,
      ⟨_, transmitBitError_effect away flight, ended _ _, by rw [shown]; rfl, ?_⟩,
      ⟨_, arbitrationLost_effect away flight, publish_busy settled.1 rfl⟩⟩
    rw [shown, ← stopAt65535_eq]
    rfl
  · exact fun s due away idle free onAir settled timer => reportTimerExpiry_begins away idle free onAir settled timer
  · exact fun s n identity away watching _ number other settled =>
      heard_then_lineFree away watching number other settled

end

section
/-! PROOFS. Frames heard (R83, R87, R88, R100): the first fault of a frame as a station sends it, the count that a
discarded frame raises, and the station that takes no part of a frame. -/

namespace Sys2Proof.Machine

variable {s : State}

/-! ### A station that takes no part (R83) -/

/-- In START, and before the line was first free after it, the station takes no part of a frame. -/
theorem hearing_of_deaf {act : State → State} (deaf : s.ssc.station = .start ∨ s.sli.watching = false) :
    s.hearing act = s := by
  obtain start | unseen := deaf
  · simp [State.hearing, State.onLine, start]
  · exact State.hearing_of_not_watching unseen

theorem exec_of_deaf {c : Instr} {act : State → State} (settled : Settled s)
    (deaf : s.ssc.station = .start ∨ s.sli.watching = false) (heard : exec c s = done s (s.hearing act)) :
    exec c s = .next s := by
  rw [heard, hearing_of_deaf deaf]
  exact done_of_quiet settled Only.refl

/-- A good frame is no discarded one, and the command says nothing of it. -/
theorem frameDiscarded_of_good {heard : List Byte} (settled : Settled s) (good : discardFault heard = none) :
    exec (.frameDiscarded heard) s = .next s := by
  have nothing : exec (.frameDiscarded heard) s = done s s := by simp [exec, execFrameDiscarded, good]
  exact nothing.trans (done_of_quiet settled Only.refl)

theorem frameDiscarded_of_deaf (settled : Settled s) (deaf : s.ssc.station = .start ∨ s.sli.watching = false)
    (heard : List Byte) : exec (.frameDiscarded heard) s = .next s := by
  cases fault : discardFault heard with
  | none => exact frameDiscarded_of_good settled fault
  | some k =>
    exact exec_of_deaf settled deaf (act := fun s => s.withSli { s.sli with counters := s.sli.counters.discard k })
      (by simp [exec, execFrameDiscarded, fault])

/-! ### The counts (R88, R100) -/

theorem frameDiscarded_effect {heard : List Byte} {k : DiscardCount} (away : s.ssc.station ≠ .start)
    (watching : s.sli.watching = true) (fault : discardFault heard = some k) :
    exec (.frameDiscarded heard) s = done s (s.withSli
      { afterHearing s.sli with counters := (afterHearing s.sli).counters.discard k }) := by
  have heard_first := State.hearing_of_watching (act := fun s => s.withSli
    { s.sli with counters := s.sli.counters.discard k }) away watching
  simp only [exec, execFrameDiscarded, fault, heard_first, State.heard, Sli.hear_eq_afterHearing]
  rfl

/-! ### The first fault of a frame (R87, R88) -/

/-- The two bytes of a check, put together, are the check. -/
theorem be16_joined (x : BitVec 16) : x.extractLsb' 8 8 ++ x.extractLsb' 0 8 = x := by
  rw [BitVec.extractLsb'_append_extractLsb'_eq_extractLsb' (by rfl)]
  exact BitVec.extractLsb'_eq_self

section frame
variable (cls : BitVec 3) (n : StationNo) (identity payload : List Byte) (kind : Byte)

/-- The bytes of a frame that its CRC covers. -/
def coveredBytes : List Byte :=
  headerByte cls n :: (identity ++ [kind, BitVec.ofNat 8 payload.length] ++ payload)

theorem frameBytes_eq : frameBytes cls n identity kind payload =
    coveredBytes cls n identity payload kind ++ be16 (crc16 (coveredBytes cls n identity payload kind)) := rfl

theorem frameBytes_take : let frame := frameBytes cls n identity kind payload
    frame.take (frame.length - 2) = coveredBytes cls n identity payload kind := by
  simp [frameBytes_eq, be16]

/-- The class of a header byte. -/
theorem headerByte_class : (headerByte cls n).extractLsb' 5 3 = cls :=
  BitVec.extractLsb'_append_eq_left

end frame

section fault
variable {cls : BitVec 3} {n : StationNo} {identity payload : List Byte} {kind hi lo : Byte}

/-- The bytes heard, parted as the receiver reads them: header, identity, kind, length, payload and check. -/
theorem coveredBytes_parts : coveredBytes cls n identity payload kind ++ [hi, lo] =
    headerByte cls n :: (identity ++ kind :: BitVec.ofNat 8 payload.length :: (payload ++ [hi, lo])) := by
  simp [coveredBytes]

theorem coveredBytes_length : (coveredBytes cls n identity payload kind).length =
    1 + identity.length + 2 + payload.length := by
  simp [coveredBytes]
  omega

variable (whole : identity.length = if cls = 6 ∨ cls = 7 then 6 else 0) (fits : payload.length ≤ 104)
include fits

/-- The length byte spells the length of a payload. -/
theorem lengthByte_toNat : (BitVec.ofNat 8 payload.length).toNat = payload.length := by
  rw [BitVec.toNat_ofNat]
  omega

include whole

/-- The first fault of a frame that is heard whole: its CRC is judged, and then its kind and its length. -/
theorem discardFault_whole (hi lo : Byte) :
    (hi ++ lo ≠ crc16 (coveredBytes cls n identity payload kind) →
      discardFault (coveredBytes cls n identity payload kind ++ [hi, lo]) = some .crc) ∧
    (hi ++ lo = crc16 (coveredBytes cls n identity payload kind) → ∀ lens, kindLengths cls kind = some lens →
      payload.length ∈ lens → discardFault (coveredBytes cls n identity payload kind ++ [hi, lo]) = none) := by
  have total : ¬ (coveredBytes cls n identity payload kind ++ [hi, lo]).length <
      (coveredBytes cls n identity payload kind).length + 2 := by simp
  have check : read16 (fun i => (coveredBytes cls n identity payload kind ++ [hi, lo]).getD i 0)
      (coveredBytes cls n identity payload kind).length = hi ++ lo := by simp [read16]
  have judged : discardFault (coveredBytes cls n identity payload kind ++ [hi, lo]) = discardFault
      (headerByte cls n :: (identity ++ kind :: BitVec.ofNat 8 payload.length :: (payload ++ [hi, lo]))) := by
    rw [coveredBytes_parts]
  conv_rhs at judged => simp only [discardFault, headerByte_class, ← whole, List.drop_left]
  rw [← coveredBytes_parts, lengthByte_toNat fits, ← coveredBytes_length (n := n) (kind := kind), if_neg (by omega),
    if_neg total, List.take_left, check] at judged
  refine ⟨fun differs => ?_, fun agrees lens known fitting => ?_⟩
  · rw [judged, if_pos differs.symm]
  · simp [judged, agrees, known, fitting]

/-- A frame cut short ends before the bytes that its length asks for, or before its length byte. -/
theorem discardFault_short {k : Nat} (short : k < (coveredBytes cls n identity payload kind).length + 2) :
    discardFault ((coveredBytes cls n identity payload kind ++ [hi, lo]).take k) = some .format := by
  rw [coveredBytes_length] at short
  rw [coveredBytes_parts]
  cases k with
  | zero => rfl
  | succ k =>
    rw [List.take_succ_cons]
    simp only [discardFault, headerByte_class, ← whole]
    split
    · next kind' len rest body =>
      rw [List.drop_take, List.drop_left] at body
      have spelled : len = BitVec.ofNat 8 payload.length := by
        match m : k - identity.length with
        | 0 => simp [m] at body
        | 1 => simp [m] at body
        | j + 2 => rw [m] at body; simp at body; exact body.2.1.symm
      rw [spelled, lengthByte_toNat fits, if_neg (by omega), if_pos (by simp; omega)]
    · rfl

end fault

end Sys2Proof.Machine

open Sys2Proof Sys2Proof.Machine

/-- Settles O46: what hearing a discarded frame counts, the first fault of the frames of R207, and the silence of a
station that takes no part. -/
theorem discardedFramesAreCounted : Obligations.DiscardedFramesAreCounted := by
  unfold Obligations.DiscardedFramesAreCounted
  refine ⟨fun s heard away watching settled => ?_, ?_, ?_⟩
  · intro l
    cases fault : discardFault heard with
    | none => exact ⟨s, frameDiscarded_of_good settled fault, rfl, nofun, nofun⟩
    | some k =>
      have e := publish_busy (x := { l with counters := l.counters.discard k }) settled.1 rfl
      have sli := congrArg State.sli e
      refine ⟨_, frameDiscarded_effect away watching fault, ?_, fun crc => ?_, fun format => ?_⟩
      · rw [sli]
        exact e
      · obtain rfl := Option.some.inj crc
        rw [sli, ← stopAt65535_eq]
        rfl
      · obtain rfl := Option.some.inj format
        rw [sli, ← stopAt65535_eq]
        rfl
  · intro cls n identity payload kind lens whole fits known fitting frame covered
    have body : covered = coveredBytes cls n identity payload kind := frameBytes_take ..
    have checked : frame = covered ++ be16 (crc16 covered) := by rw [body]; rfl
    rw [body] at checked ⊢
    refine ⟨?_, fun hi lo => (discardFault_whole whole fits hi lo).1, fun k short => ?_⟩
    · rw [checked]
      exact (discardFault_whole whole fits _ _).2 (be16_joined _) lens known fitting
    · rw [checked] at short ⊢
      exact discardFault_short whole fits (by simpa [be16] using short)
  · intro s n x y kind u seq report payload heard identity r settled deaf
    have ignored {c : Instr} {act : State → State} (heard : exec c s = done s (s.hearing act)) : exec c s = .next s :=
      exec_of_deaf settled deaf heard
    simp only [List.forall_mem_cons]
    exact ⟨frameDiscarded_of_deaf settled deaf heard, ignored rfl, ignored rfl, ignored rfl, ignored rfl, ignored rfl,
      ignored rfl, ignored rfl, ignored rfl, ignored rfl, ignored rfl, ignored rfl, ignored rfl, ignored rfl,
      ignored rfl, ignored rfl, ignored rfl, ignored rfl, ignored rfl, ignored rfl, ignored rfl, ignored rfl,
      ignored rfl, ignored rfl, ignored rfl, ignored rfl, nofun⟩

end

section
/-! PROOFS. Address conflicts (R89, R97, R98) and the repeated PRESENCE and CONFLICT frames (R96, R98). -/

namespace Sys2Proof.Machine

variable {s u : State} {l : Sli}

/-! ### The entry into a conflict (R97) -/

/-- The link that an address conflict leaves, where there was none before (R97). -/
def Sli.conflicted (l : Sli) (due : Time) : Sli :=
  { l with
    bfSlot := none, noticeSlot := none, claimSlot := none, reportSlot := none, events := [], data := [],
    presenceSlot := some (.conflict l.ownNumber), flight := none, lineFree := false, conflict := some l.ownNumber,
    conflictTimer := some due, presenceTimer := none, presenceLeft := 0 }

/-- A conflict shown again changes nothing. -/
theorem enterConflict_of_conflict (conflict : u.sli.conflict.isSome) : enterConflict u = u := if_pos conflict

theorem enterConflict_of_none (busy : u.sli.lineFree = false) (none_before : u.sli.conflict = none) :
    enterConflict u = (u.withSli (u.sli.conflicted (u.localTime + 1000))).withSsc u.ssc.enterConflict := by
  have entered : u.sli.enterConflict (u.after 1000) = u.sli.conflicted (u.localTime + 1000) := by
    simp [Sli.enterConflict, Sli.conflicted, busy, State.after]
  simp [enterConflict, none_before, entered]

theorem filtered_of_own {act : State → State} (away : s.ssc.station ≠ .start) (watching : s.sli.watching = true) :
    filtered s.sli.ownNumber act s = enterConflict (s.withSli (afterHearing s.sli)) := by
  have own : s.sli.ownNumber = s.heard.sli.ownNumber := rfl
  rw [filtered, State.hearing_of_watching away watching, if_pos own, State.heard, Sli.hear_eq_afterHearing]

/-- A CONFLICT frame of another identity that contests the own number (R89). -/
theorem conflictReceived_of_own {identity : BitVec 48} (away : s.ssc.station ≠ .start)
    (watching : s.sli.watching = true) (number : s.sli.ownNumber ≠ 0) (other : identity ≠ s.pins.identity) :
    exec (.conflictReceived identity (BitVec.ofNat 8 s.sli.ownNumber.val)) s =
      done s (enterConflict (s.withSli (afterHearing s.sli))) := by
  have value : (BitVec.ofNat 8 s.sli.ownNumber.val).toNat = s.sli.ownNumber.val := by
    rw [BitVec.toNat_ofNat]
    omega
  have station : ¬ (s.sli.ownNumber.val = 0 ∨ 31 < s.sli.ownNumber.val) := by
    have positive : s.sli.ownNumber.val ≠ 0 := fun k => number (Fin.ext k)
    omega
  have judged : conflictHeard identity (BitVec.ofNat 8 s.sli.ownNumber.val) s.heard = enterConflict s.heard := by
    have own : s.heard.sli.ownNumber = s.sli.ownNumber := rfl
    have part : s.heard.pins = s.pins := rfl
    rw [conflictHeard, value, own, part, if_neg station, if_pos rfl, if_neg other]
  refine congrArg (done s) ?_
  rw [State.hearing_of_watching away watching, judged, State.heard, Sli.hear_eq_afterHearing]

theorem arbitrationLost_in_identity {f : Flight} (away : s.ssc.station ≠ .start) (flight : s.sli.flight = some f)
    (presence : f.slot = .presence) :
    exec (.arbitrationLost true) s = done s (enterConflict (s.withSli s.sli.land)) := by
  have effect : exec (.arbitrationLost true) s =
      done s (if s.sli.conflict.isNone then enterConflict (s.withSli s.sli.land) else s.withSli s.sli.land) := by
    simp [exec, execArbitrationLost, State.onLine, away, flight, presence]
  rw [effect]
  split
  · rfl
  · next conflict =>
    have stands : (s.withSli s.sli.land).sli.conflict.isSome := by
      rw [Option.isNone_iff_eq_none] at conflict
      exact Option.isSome_iff_ne_none.2 conflict
    rw [enterConflict_of_conflict stands]

/-- On a line that is not free the end of a command leaves the link. -/
theorem settle_sli_of_busy (busy : u.sli.lineFree = false) : (settle u).sli = u.sli := by
  have idle : u.nextSlot = none := if_neg fun free => by simp [busy] at free
  rw [settle_sli, idle]

/-- The end of a command by which a frame ended, which left the link `l`, and that shows a conflict. -/
theorem conflict_shown (busy : l.lineFree = false) (stands : l.conflict = s.sli.conflict) :
    let t := publish s (settle (enterConflict (s.withSli l)))
    t = { s with sli := t.sli, ssc := t.ssc, lsc := t.lsc, due := t.due } ∧
      (s.sli.conflict = none → t.sli = l.conflicted (s.localTime + 1000) ∧ t.ssc = s.ssc.enterConflict) ∧
      (s.sli.conflict.isSome → t.ssc = s.ssc ∧ t.sli = l) := by
  have written : enterConflict (s.withSli l) =
      (s.withSli (enterConflict (s.withSli l)).sli).withSsc (enterConflict (s.withSli l)).ssc := by
    unfold enterConflict
    split <;> rfl
  refine ⟨?_, fun before => ?_, fun before => ?_⟩
  · rw [publish_ssc, settle_ssc, publish_eq, settle_eq, written]
    rfl
  · rw [publish_sli, publish_ssc, settle_ssc, enterConflict_of_none (u := s.withSli l) busy (stands.trans before),
      settle_sli_of_busy rfl]
    exact ⟨rfl, rfl⟩
  · have again : (s.withSli l).sli.conflict.isSome := by rwa [State.withSli_sli, stands]
    rw [publish_sli, publish_ssc, settle_ssc, enterConflict_of_conflict again, settle_sli_of_busy busy]
    exact ⟨rfl, rfl⟩

theorem Ssc.enterConflict_of_fault {c : Ssc} (fault : c.station = .settingsFault) : c.enterConflict = c := if_pos fault

theorem Ssc.enterConflict_of_no_fault {c : Ssc} (station : c.station ≠ .settingsFault) :
    c.enterConflict = { c with station := .addressConflict, returnState := some c.station } := if_neg station

/-! ### CONFLICT and PRESENCE frames repeat (R96, R98) -/

/-- What is placed in the presence slot, over the item in flight if that is of the slot. -/
theorem Sli.placePresence_eq (x : PresenceItem) : l.placePresence x = { l with
    presenceSlot := some x
    flight := l.flight.map fun f => { f with replaced := f.replaced || decide (f.slot = .presence) } } := by
  unfold Sli.placePresence Sli.touch
  cases flight : l.flight with
  | none => simp [flight]
  | some f =>
    by_cases place : f.slot = .presence
    · simp [place]
    · simp [place, flight]

/-- The link as CONFLICT_TIMER_EXPIRY leaves it at the time `now` (R98). -/
def Sli.conflictRepeated (l : Sli) (n : StationNo) (now : Time) : Sli :=
  { l with
    presenceSlot := some (.conflict n)
    flight := l.flight.map fun f => { f with replaced := f.replaced || decide (f.slot = .presence) }
    conflictTimer := some (now + 1000) }

/-- The link as PRESENCE_REPEAT_TIMER leaves it at the time `now` (R96). -/
def Sli.presenceRepeated (l : Sli) (now : Time) : Sli :=
  { l with
    presenceSlot := some .presence
    flight := l.flight.map fun f => { f with replaced := f.replaced || decide (f.slot = .presence) }
    presenceLeft := l.presenceLeft - 1
    presenceTimer := if 2 ≤ l.presenceLeft then some (now + 20) else none }

theorem conflictTimerExpiry_effect {due : Time} {n : StationNo} (conflict : s.sli.conflict = some n)
    (timer : s.sli.conflictTimer = some due) :
    exec .conflictTimerExpiry s =
      done s ((s.reach due).withSli (s.sli.conflictRepeated n (s.reach due).localTime)) := by
  have effect : exec .conflictTimerExpiry s = execConflictTimerExpiry s := rfl
  simp [effect, execConflictTimerExpiry, expire, timer, conflict, State.after, Sli.placePresence_eq,
    Sli.conflictRepeated]

theorem presenceRepeatTimer_effect {due : Time} (timer : s.sli.presenceTimer = some due) :
    exec .presenceRepeatTimer s =
      done s ((s.reach due).withSli (s.sli.presenceRepeated (s.reach due).localTime)) := by
  have effect : exec .presenceRepeatTimer s = execPresenceRepeatTimer s := rfl
  simp [effect, execPresenceRepeatTimer, expire, timer, State.after, Nat.lt_iff_add_one_le, Sli.placePresence_eq,
    Sli.presenceRepeated]

theorem publish_of_timed {due : Time} {x : Sli} (zero : ZeroSettled s) :
    let t := publish s (settle ((s.reach due).withSli x))
    t = { s with localTime := (s.reach due).localTime, due := t.due, sli := t.sli } := by
  have k : Only [.localTime, .ssc, .sli, .due] s ((s.reach due).withSli x) :=
    Only.withSli (by decide) (Only.reach due (by decide) Only.refl) x
  rw [publish_eq, settle_of_event zero k (by simp), State.reach_eq]
  rfl

/-- A command at which the local time reaches `due` and an item is placed: the item takes a line that stands free. -/
theorem timed_placing {c : Instr} {due : Time} {placed : Time → Sli} (zero : ZeroSettled s)
    (effect : exec c s = done s ((s.reach due).withSli (placed (s.reach due).localTime))) :
    ∃ t, exec c s = .next t ∧ t = { s with localTime := (s.reach due).localTime, due := t.due, sli := t.sli } ∧
      LineTaken (placed t.localTime) t := by
  have e := publish_of_timed (due := due) (x := placed (s.reach due).localTime) zero
  have now := congrArg State.localTime e
  refine ⟨_, effect, e, ?_⟩
  rw [now]
  exact lineTaken_settle ((s.reach due).withSli (placed (s.reach due).localTime)) (by simp) (by simp) (by simp)

end Sys2Proof.Machine

open Sys2Proof Sys2Proof.Machine

/-- Settles O47: each frame that shows a conflict takes the station off the air, and the timers of R96 and R98 place the
next frame. -/
theorem conflictsAreEnteredAndRepeated : Obligations.ConflictsAreEnteredAndRepeated := by
  unfold Obligations.ConflictsAreEnteredAndRepeated
  refine ⟨?_, ?_⟩
  · intro s x y u seq report payload identity away own shows
    have shown {c : Instr} {l : Sli} (busy : l.lineFree = false) (stands : l.conflict = s.sli.conflict)
        (number : l.ownNumber = own) (effect : exec c s = done s (enterConflict (s.withSli l))) : shows c l := by
      obtain ⟨e, entered, again⟩ := conflict_shown busy stands
      refine ⟨_, effect, e, fun before => ?_, again⟩
      obtain ⟨sli, ssc⟩ := entered before
      refine ⟨by rw [sli, ← number]; rfl, fun fault => ?_, fun station => ?_⟩
      · rw [ssc, Ssc.enterConflict_of_fault fault]
      · rw [ssc, Ssc.enterConflict_of_no_fault station]
    refine ⟨fun watching => ?_, fun watching number other => ?_, fun ⟨f, flight, presence⟩ => ?_,
      fun n watching other number settled => ?_⟩
    · have bears {c : Instr} {act : State → State} (effect : exec c s = done s (filtered own act s)) :
          shows c (afterHearing s.sli) :=
        shown rfl rfl rfl (by rw [effect, filtered_of_own away watching])
      simp only [List.forall_mem_cons]
      exact ⟨bears rfl, bears rfl, bears rfl, bears rfl, bears rfl, bears rfl, bears rfl, bears rfl, bears rfl, nofun⟩
    · exact shown rfl rfl rfl (conflictReceived_of_own away watching number other)
    · exact shown rfl rfl rfl (arbitrationLost_in_identity away flight presence)
    · have unserved {c : Instr} (effect : exec c s = done s (filtered n (fun s => s) s)) :
          ∃ t, exec c s = .next t ∧ t = { s with sli := afterHearing s.sli, due := t.due } :=
        ⟨_, effect, by rw [filtered_of_none away watching other number]; exact publish_busy settled.1 rfl⟩
      simp only [List.forall_mem_cons]
      exact ⟨unserved rfl, unserved rfl, unserved rfl, nofun⟩
  · intro s due settled flight
    exact ⟨fun n conflict timer => timed_placing settled.1 (conflictTimerExpiry_effect conflict timer),
      fun timer => timed_placing settled.1 (presenceRepeatTimer_effect timer)⟩

end

section
/-! PROOFS. The request intake (R89, R94, R95): which requests are judged, the lines of the table in order, and that no
owner writes the echo. -/

namespace Sys2Proof.Machine

variable {s u : State} {st : Settings} {r : Request} {code : Byte} {known broadcastable assigns : Bool}
  {owner : State → Answer}

/-! ### Which requests are judged (R89, R94 line 1) -/

theorem State.targeted_iff : s.targeted r = true ↔ r.target = 0 ∨ r.target.toNat = s.sli.ownNumber.val := by
  simp [State.targeted]

section heard
variable (away : s.ssc.station ≠ .start) (watching : s.sli.watching = true)
include away watching

/-- A request that bears the own number, or is for another station, changes what hearing a frame changes. -/
theorem intake_of_foreign
    (foreign : r.header = s.sli.ownNumber ∨ ¬ (r.target = 0 ∨ r.target.toNat = s.sli.ownNumber.val)) :
    intake code known broadcastable r owner s = s.withSli (afterHearing s.sli) := by
  have left : s.hears r (fun u => if u.targeted r then
      echoAnswer code r (judge code known broadcastable false r owner u) else u) = s.heard := by
    unfold State.hears
    rw [State.hearing_of_watching away watching]
    split
    · rfl
    · next other =>
      have other : ¬ s.heard.targeted r = true :=
        mt State.targeted_iff.1 (foreign.resolve_left other)
      exact if_neg other
  rw [intake, left, State.heard, Sli.hear_eq_afterHearing]

theorem intake_of_mine (other : r.header ≠ s.sli.ownNumber)
    (mine : r.target = 0 ∨ r.target.toNat = s.sli.ownNumber.val) :
    intake code known broadcastable r owner s =
      echoAnswer code r (judge code known broadcastable false r owner s.heard) := by
  have header : ¬ r.header = s.heard.sli.ownNumber := other
  have targeted : s.heard.targeted r = true := State.targeted_iff.2 mine
  unfold intake State.hears
  rw [State.hearing_of_watching away watching, if_neg header]
  exact if_pos targeted

end heard

/-! ### The lines of the table (R94) -/

theorem checkAgrees_iff : checkAgrees r code = true ↔ crc8 (r.target :: r.origin :: code :: r.args) = r.check := by
  simp [checkAgrees]

/-- An origin that is the header's number is no more than 31. -/
theorem badOrigin_iff : badOrigin r = true ↔ ¬ (r.origin ≠ 0 ∧ r.origin.toNat = r.header.val) := by
  have bound := r.header.isLt
  by_cases number : r.origin.toNat = r.header.val
  · have low : ¬ 31 < r.header.val := by omega
    simp [badOrigin, number, low]
  · simp [badOrigin, number]

section lines
variable (agrees : crc8 (r.target :: r.origin :: code :: r.args) = r.check)
  (good : r.origin ≠ 0 ∧ r.origin.toNat = r.header.val)

theorem judge_of_badCheck (differs : crc8 (r.target :: r.origin :: code :: r.args) ≠ r.check) :
    judge code known broadcastable assigns r owner s = Answer.refuse s .badCheck := by
  have check : checkAgrees r code = false := Bool.eq_false_iff.2 (mt checkAgrees_iff.1 differs)
  simp [judge, check]

include agrees

theorem judge_of_badOrigin (bad : ¬ (r.origin ≠ 0 ∧ r.origin.toNat = r.header.val)) :
    judge code known broadcastable assigns r owner s = Answer.refuse s .badArgument := by
  simp [judge, checkAgrees_iff.2 agrees, badOrigin_iff.2 bad]

theorem judge_of_unknown : judge code false broadcastable assigns r owner s = Answer.refuse s .badArgument := by
  simp [judge, checkAgrees_iff.2 agrees]

include good

theorem judge_of_broadcast (all : r.target = 0) :
    judge code true false assigns r owner s = Answer.refuse s .badArgument := by
  have origin : badOrigin r = false := Bool.eq_false_iff.2 (mt badOrigin_iff.1 (not_not.2 good))
  simp [judge, checkAgrees_iff.2 agrees, origin, all]

variable (cast : r.target ≠ 0 ∨ broadcastable = true)
include cast

theorem judge_of_station (station : s.ssc.station = .settingsFault ∨ s.ssc.station = .addressConflict) :
    judge code true broadcastable false r owner s = Answer.refuse s .refusedState := by
  have origin : badOrigin r = false := Bool.eq_false_iff.2 (mt badOrigin_iff.1 (not_not.2 good))
  have line : (r.target == 0 && !broadcastable) = false := by
    obtain own | all := cast
    · rw [beq_eq_false_iff_ne.2 own, Bool.false_and]
    · rw [all, Bool.not_true, Bool.and_false]
  simp only [judge, checkAgrees_iff.2 agrees, origin, line]
  simp [station]

end lines

/-! ### No owner writes the echo (R95) -/

/-- What an owner answers leaves the echo to the intake. -/
def KeepsEcho (owner : State → Answer) : Prop := ∀ u, (owner u).state.sli.echo = u.sli.echo

/-- The lines before the owner's leave the state. -/
theorem KeepsEcho.judge (keeps : KeepsEcho owner) :
    KeepsEcho (judge code known broadcastable assigns r owner) := fun u => by
  unfold Machine.judge
  split_ifs
  · rfl
  · rfl
  · rfl
  · rfl
  · rfl
  · exact keeps u

/-- Without settings an owner that works with them is not asked. -/
theorem KeepsEcho.withForce {own : Settings → State → Answer}
    (keeps : ∀ st u, u.settings = some st → (own st u).state.sli.echo = u.sli.echo) : KeepsEcho (withForce own) :=
  fun u => by
    unfold Machine.withForce
    split
    · rfl
    · next st set => exact keeps st u set

theorem ownOpen_echo : (ownOpen r st u).state.sli.echo = u.sli.echo := by
  unfold ownOpen
  split_ifs
  · rfl
  · rfl
  · rfl
  · have ordered : Only mutedFields u (unloadOrder .request u) :=
      Only.unloadOrder .request (by decide) (by decide) (by decide) Only.refl
    exact (Quiet.refl.only ordered).tellOpenRequest.echo
  · exact (Quiet.refl.takeOpening _).tellOpenRequest.echo

/-- An operator's closing is refused, taken by a FEEDER's breaker or handed to the SYN (R49). -/
theorem operatorClose_echo : (operatorClose st u).1.sli.echo = u.sli.echo := by
  by_cases passes : u.generalCheck = none
  · by_cases role : st.station.role = .feeder
    · rw [operatorClose_of_feeder role passes]
      split
      · exact takeClose_echo
      · rfl
    · rw [operatorClose_of_other role passes]
      split
      · exact (Quiet.refl.takeRequest _ _).echo
      · rfl
  · rw [operatorClose_of_barred passes]

theorem ownClose_echo : (ownClose r st u).state.sli.echo = u.sli.echo := by
  unfold ownClose
  split_ifs
  · rfl
  · rfl
  · exact operatorClose_echo

theorem ownResetLockout_echo : (ownResetLockout r st u).state.sli.echo = u.sli.echo := by
  unfold ownResetLockout
  split_ifs with misfit remote standing
  · rfl
  · rfl
  · rfl
  · have quiet : Quiet u (tellLockoutClear (dropLockout u)) :=
      (Quiet.refl.only (Only.dropLockout (by decide) Only.refl)).tellLockoutClear
    rw [Answer.take, lockoutClear_of_free (Bool.eq_false_iff.2 standing)]
    exact quiet.echo

theorem ownSetMode_echo : (ownSetMode r u).state.sli.echo = u.sli.echo := by
  have moved (m : StationState) : (setMode m u).state.sli.echo = u.sli.echo := by
    unfold setMode
    split_ifs <;> rfl
  unfold ownSetMode
  split
  · split
    · exact moved _
    · rfl
  · rfl

theorem ownResetAlarm_echo : (ownResetAlarm r u).state.sli.echo = u.sli.echo := by
  unfold ownResetAlarm
  split
  · rfl
  · rw [Answer.take, resetAlarms_sli]
    exact csqResetAlarm_quiet.echo

theorem ownTransferTest_echo (set : u.settings = some st) :
    (ownTransferTest r st u).state.sli.echo = u.sli.echo := by
  unfold ownTransferTest
  split_ifs
  · rfl
  · rfl
  · rfl
  · rfl
  · exact (Quiet.transferTestStart set).echo
  · exact (Quiet.transferTestEnd set).echo

theorem ownInhibit_echo (set : u.settings = some st) : (ownInhibit r st u).state.sli.echo = u.sli.echo := by
  unfold ownInhibit
  split_ifs with misfit role
  · rfl
  · rfl
  · exact (setInhibit_outcome set (not_not.1 role) _).1.echo

theorem ownRetransferNow_echo (set : u.settings = some st) :
    (ownRetransferNow r st u).state.sli.echo = u.sli.echo := by
  unfold ownRetransferNow
  split_ifs with misfit role remote state
  · rfl
  · rfl
  · rfl
  · rfl
  · rfl
  · rfl
  · exact (retransferAtOnce_outcome set (not_not.1 role) (not_not.1 (not_or.1 state).1)).1.echo

theorem ownDiagnostics_echo : (ownDiagnostics r u).state.sli.echo = u.sli.echo := by
  rw [ownDiagnostics_state]
  rfl

theorem Sli.placeEvent_echo (l : Sli) (x : EventItem) : (l.placeEvent x).echo = l.echo := by
  unfold Sli.placeEvent Sli.dropEvent
  split <;> rfl

theorem Sli.placeData_echo (l : Sli) (x : DataItem) : (l.placeData x).echo = l.echo := by
  unfold Sli.placeData Sli.whenOnAir
  split <;> rfl

theorem takeTrigger_echo (kind : CauseKind) (detail : Byte) :
    (takeTrigger st kind detail u).sli.echo = u.sli.echo := by
  unfold takeTrigger
  dsimp only
  split
  · unfold crossTrigger
    split
    · exact Sli.placeEvent_echo _ _
    · rfl
  · rfl

theorem ownCaptureTrigger_echo : (ownCaptureTrigger r st u).state.sli.echo = u.sli.echo := by
  unfold ownCaptureTrigger
  split_ifs
  · rfl
  · rfl
  · exact takeTrigger_echo _ _
  · exact takeTrigger_echo _ _

theorem ownDirectory_echo : (ownDirectory r st u).state.sli.echo = u.sli.echo := by
  unfold ownDirectory
  split_ifs
  · rfl
  · rfl
  · exact Sli.placeData_echo _ _

theorem readBlock_echo (d : Descriptor) (position channel origin : Byte) :
    (readBlock d position channel origin u).state.sli.echo = u.sli.echo := by
  unfold readBlock
  split
  · rfl
  · split
    · rfl
    · split
      · rfl
      · exact Sli.placeData_echo _ _

theorem ownRead_echo : (ownRead r u).state.sli.echo = u.sli.echo := by
  unfold ownRead
  split
  · split
    · rfl
    · exact readBlock_echo _ _ _ _
  · rfl

theorem ownRelease_echo : (ownRelease r u).state.sli.echo = u.sli.echo := by
  unfold ownRelease
  split
  · split
    · rfl
    · split <;> rfl
  · rfl

/-! ### The kinds of the table -/

/-- The kinds that R94 judges alike: the command, the code, and whether a broadcast is taken. -/
def judgedKinds : List ((Request → Instr) × Byte × Bool) :=
  [(.openRequest, 0, false), (.closeRequest, 1, false), (.resetLockout, 2, false), (.setMode, 3, true),
    (.resetAlarm, 4, true), (.transferTest, 5, false), (.retransferInhibit, 6, true), (.retransferNow, 7, false),
    (.runDiagnostics, 8, false), (.captureTrigger, 9, true), (.captureDirectory, 10, false), (.captureRead, 11, false),
    (.captureRelease, 12, false)]

theorem owner_of_kind (r : Request) : ∀ row ∈ judgedKinds, ∃ owner, KeepsEcho owner ∧
    ∀ s, exec (row.1 r) s = done s (intake row.2.1 true row.2.2 r owner s) := by
  simp only [judgedKinds, List.forall_mem_cons]
  exact ⟨⟨_, .withForce fun _ _ _ => ownOpen_echo, fun _ => rfl⟩,
    ⟨_, .withForce fun _ _ _ => ownClose_echo, fun _ => rfl⟩,
    ⟨_, .withForce fun _ _ _ => ownResetLockout_echo, fun _ => rfl⟩,
    ⟨_, fun _ => ownSetMode_echo, fun _ => rfl⟩,
    ⟨_, fun _ => ownResetAlarm_echo, fun _ => rfl⟩,
    ⟨_, .withForce fun _ _ set => ownTransferTest_echo set, fun _ => rfl⟩,
    ⟨_, .withForce fun _ _ set => ownInhibit_echo set, fun _ => rfl⟩,
    ⟨_, .withForce fun _ _ set => ownRetransferNow_echo set, fun _ => rfl⟩,
    ⟨_, fun _ => ownDiagnostics_echo, fun _ => rfl⟩,
    ⟨_, .withForce fun _ _ _ => ownCaptureTrigger_echo, fun _ => rfl⟩,
    ⟨_, .withForce fun _ _ _ => ownDirectory_echo, fun _ => rfl⟩,
    ⟨_, fun _ => ownRead_echo, fun _ => rfl⟩,
    ⟨_, fun _ => ownRelease_echo, fun _ => rfl⟩,
    nofun⟩

end Sys2Proof.Machine

open Sys2Proof Sys2Proof.Machine

/-- Settles O54: a kind of the table by the first line that applies, and a kind that no line knows. -/
theorem requestsAreJudgedInOrder : Obligations.RequestsAreJudgedInOrder := by
  unfold Obligations.RequestsAreJudgedInOrder
  refine ⟨fun mk code broadcastable r s row away watching settled => ?_,
    fun kind r s away watching settled other mine => ?_⟩
  · obtain ⟨owner, keeps, effect⟩ := owner_of_kind r (mk, code, broadcastable) row
    intro mine agrees originGood
    refine ⟨_, effect s, fun foreign => ?_, fun other mine => ?_⟩
    · rw [intake_of_foreign away watching foreign]
      exact publish_busy settled.1 rfl
    · rw [intake_of_mine away watching other mine]
      have answered := replied_answered (s := s) (r := r) (code := code)
        (keeps.judge (code := code) (known := true) (broadcastable := broadcastable) (assigns := false) (r := r)
          s.heard)
      have count := congrArg Echo.count answered
      have body := congrArg Echo.body answered
      refine ⟨count, ⟨_, body, rfl, rfl, rfl⟩, fun differs => ?_, fun agrees bad => ?_,
        fun agrees good all single => ?_, fun agrees good cast station => ?_⟩
      · rw [judge_of_badCheck differs]
        exact replied_refused settled
      · rw [judge_of_badOrigin agrees bad]
        exact replied_refused settled
      · rw [single, judge_of_broadcast agrees good all]
        exact replied_refused settled
      · rw [judge_of_station (s := s.heard) agrees good cast station]
        exact replied_refused settled
  · refine ⟨_, rfl, fun differs => ?_, fun agrees => ?_⟩
    · rw [intake_of_mine away watching other mine, judge_of_badCheck differs]
      exact replied_refused settled
    · rw [intake_of_mine away watching other mine, judge_of_unknown agrees]
      exact replied_refused settled

end

section
/-! PROOFS. ASSIGN_NUMBER (R94, R99, R113, R114, R197, R199): the arguments, the observation by every station, and the
assignment that the named identity takes. -/

namespace Sys2Proof.Machine

variable {s u : State} {st : Settings} {r : Request} {code : Byte} {identity : BitVec 48} {b : Byte} {m n : StationNo}

/-! ### The arguments -/

/-- An identity is read back as it was sent. -/
theorem read48_be48 (rest : List Byte) : read48 (fun i => (be48 identity ++ rest).getD i 0) 0 = identity := by
  show identity.extractLsb' 40 8 ++ identity.extractLsb' 32 8 ++ identity.extractLsb' 24 8 ++
    identity.extractLsb' 16 8 ++ identity.extractLsb' 8 8 ++ identity.extractLsb' 0 8 = identity
  iterate 5 rw [BitVec.extractLsb'_append_extractLsb'_eq_extractLsb' (by rfl)]
  exact BitVec.extractLsb'_eq_self

theorem identityArgument_of_args (args : r.args = be48 identity ++ [b]) : identityArgument r = some identity := by
  have long : 6 ≤ (be48 identity ++ [b]).length := Nat.le_succ 6
  rw [identityArgument, args, if_pos long, read48_be48]

theorem numberArgument_of_fit (args : r.args = be48 identity ++ [b]) (fits : 1 ≤ b.toNat ∧ b.toNat ≤ 31) :
    numberArgument r = some (Fin.ofNat 32 b.toNat) := by
  have station : ¬ (b = 0 ∨ 31 < b.toNat) := by bv_omega
  have byte : r.args[6]? = some b := by rw [args]; rfl
  simp only [numberArgument, byte]
  exact if_neg station

theorem numberArgument_of_misfit (args : r.args = be48 identity ++ [b]) (misfit : ¬ (1 ≤ b.toNat ∧ b.toNat ≤ 31)) :
    numberArgument r = none := by
  have none_such : b = 0 ∨ 31 < b.toNat := by bv_omega
  have byte : r.args[6]? = some b := by rw [args]; rfl
  simp only [numberArgument, byte]
  exact if_pos none_such

theorem val_of_fit (fits : 1 ≤ b.toNat ∧ b.toNat ≤ 31) : (Fin.ofNat 32 b.toNat).val = b.toNat :=
  Nat.mod_eq_of_lt (by omega)

/-! ### The observation (R113) -/

section observed
variable (r u)

theorem observeAssignment_only : Only [.ptb, .due] u (observeAssignment r u) :=
  Only.observeAssignment r (by decide) (by decide) Only.refl

@[simp] theorem observeAssignment_sli : (observeAssignment r u).sli = u.sli :=
  (observeAssignment_only u r).get .sli (by decide)

@[simp] theorem observeAssignment_ssc : (observeAssignment r u).ssc = u.ssc :=
  (observeAssignment_only u r).get .ssc (by decide)

@[simp] theorem observeAssignment_cme : (observeAssignment r u).cme = u.cme :=
  (observeAssignment_only u r).get .cme (by decide)

@[simp] theorem observeAssignment_pins : (observeAssignment r u).pins = u.pins :=
  (observeAssignment_only u r).get .pins (by decide)

@[simp] theorem observeAssignment_settings : (observeAssignment r u).settings = u.settings :=
  (observeAssignment_only u r).get .settings (by decide)

end observed

/-- A frame whose check differs is not observed. -/
theorem observeAssignment_of_badCheck (differs : crc8 (r.target :: r.origin :: 13 :: r.args) ≠ r.check) :
    observeAssignment r u = u := by
  unfold observeAssignment
  split
  · exact if_neg (mt checkAgrees_iff.1 differs)
  · rfl

theorem observeAssignment_of_no_number (number : numberArgument r = none) : observeAssignment r u = u := by
  simp only [observeAssignment, number]

theorem observeAssignment_of_number (number : numberArgument r = some n)
    (agrees : crc8 (r.target :: r.origin :: 13 :: r.args) = r.check) :
    observeAssignment r u = clearConflict n u := by
  simp only [observeAssignment, number]
  exact if_pos (checkAgrees_iff.2 agrees)

theorem publishView_ptb (v : State) : v.publishView.ptb = v.ptb := by
  rw [State.publishView, State.notifyAll_eq]
  rfl

theorem clearConflict_entry (conflicted : u.ptb.entries[n].state = .conflicted) :
    (clearConflict n u).ptb.entries[n] = { u.ptb.entries[n] with
      conflict := u.ptb.entries[n].conflict.map fun c => { c with cleared := true, clearTimer := none } } := by
  have entry : u.entry n = u.ptb.entries[n] := rfl
  unfold clearConflict
  dsimp only
  rw [entry, if_pos conflicted, publishView_ptb]
  simp [State.setEntry]

theorem clearConflict_entry_other (other : m ≠ n ∨ u.ptb.entries[m].state ≠ .conflicted) :
    (clearConflict n u).ptb.entries[m] = u.ptb.entries[m] := by
  unfold clearConflict
  dsimp only
  split
  · next conflicted =>
    have apart : n ≠ m := by
      rintro rfl
      exact other.elim (fun k => k rfl) fun k => k conflicted
    simp [publishView_ptb, State.setEntry, Fin.val_ne_of_ne apart]
  · rfl

/-! ### The assignment (R99, R114, R199) -/

theorem judge_of_good {owner : State → Answer} (agrees : crc8 (r.target :: r.origin :: code :: r.args) = r.check)
    (good : r.origin ≠ 0 ∧ r.origin.toNat = r.header.val) :
    judge code true true true r owner s = owner s := by
  have origin : badOrigin r = false := Bool.eq_false_iff.2 (mt badOrigin_iff.1 (not_not.2 good))
  simp [judge, checkAgrees_iff.2 agrees, origin]

/-- The table forgets the old and the new number (R114). -/
theorem renumber_entries {old new : StationNo} (moved : old ≠ new) :
    (renumber old new u).ptb.entries[old] = Entry.empty ∧ (renumber old new u).ptb.entries[new] = Entry.empty := by
  have apart : new.val ≠ old.val := fun k => moved (Fin.ext k.symm)
  rw [renumber, if_neg moved, publishView_ptb]
  simp [State.setEntry, apart]

theorem leaveAddressConflict_ssc_of_none (stays : u.ssc.returnState = none) : (leaveAddressConflict u).ssc = u.ssc := by
  unfold leaveAddressConflict State.inForce
  split
  · rfl
  · dsimp only
    rw [stays]

theorem leaveAddressConflict_ssc {back : StationState} (set : u.settings = some st)
    (returns : u.ssc.returnState = some back) :
    (leaveAddressConflict u).ssc =
      { u.ssc with station := returnedState st u.cme.warmCount back, returnState := none } := by
  unfold leaveAddressConflict
  rw [State.inForce_some set, returns]
  rfl

/-- The state to which the station returns (R199). -/
theorem returnedState_eq (warm : Nat) (back : StationState) : returnedState st warm back =
    if back = .presence ∨ back = .warmup then
      (if warm = 2 then (if st.station.autoInService then .auto else .manual) else .warmup)
    else back := by
  cases back <;> simp [returnedState, serviceState]

section assign

/-- The state with the new number, before a conflict is left. -/
def numbered (n : StationNo) (u : State) : State := renumber u.sli.ownNumber n (u.withSli { u.sli with ownNumber := n })

theorem numbered_only (n : StationNo) (u : State) : Only [.sli, .ptb, .due] u (numbered n u) :=
  Only.renumber _ _ (by decide) (by decide) (Only.withSli (by decide) Only.refl _)

theorem numbered_sli (n : StationNo) (u : State) : (numbered n u).sli = { u.sli with ownNumber := n } :=
  (Only.renumber (fs := [.ptb, .due]) u.sli.ownNumber n (by decide) (by decide) Only.refl).get .sli (by decide)

theorem assign_of_no_conflict (air : u.sli.conflict = none) : assign n u = numbered n u := by
  have free : ¬ (numbered n u).sli.conflict.isSome := by simp [numbered_sli, air]
  exact if_neg free

theorem assign_of_conflict (conflict : u.sli.conflict.isSome) :
    assign n u = leaveAddressConflict ((numbered n u).withSli (numbered n u).sli.leaveConflict) := by
  have stands : (numbered n u).sli.conflict.isSome := by rwa [numbered_sli]
  exact if_pos stands

theorem Sli.leaveConflict_eq (l : Sli) : l.leaveConflict = { l with
    flight := l.leaveConflict.flight, presenceSlot := none, conflict := none, conflictTimer := none } := by
  unfold Sli.leaveConflict Sli.touch
  split
  · split <;> rfl
  · rfl

/-- The link that an assignment leaves: the new number, and no conflict. -/
theorem assign_sli : (assign n u).sli = { u.sli with
    ownNumber := n, flight := (assign n u).sli.flight, conflict := none
    presenceSlot := if u.sli.conflict.isSome then none else u.sli.presenceSlot
    conflictTimer := if u.sli.conflict.isSome then none else u.sli.conflictTimer } := by
  by_cases conflict : u.sli.conflict.isSome
  · have left : (assign n u).sli = (numbered n u).sli.leaveConflict := by
      rw [assign_of_conflict conflict]
      exact (Only.leaveAddressConflict (fs := [.ssc]) (by decide) Only.refl).get .sli (by decide)
    rw [if_pos conflict, if_pos conflict, left, numbered_sli]
    exact Sli.leaveConflict_eq _
  · have air : u.sli.conflict = none := Option.not_isSome_iff_eq_none.1 conflict
    rw [if_neg conflict, if_neg conflict, assign_of_no_conflict air, numbered_sli, ← air]

theorem assign_settings : (assign n u).settings = u.settings :=
  (Only.assign (fs := [.due, .lsc, .ptb, .sli, .ssc]) n (by decide) (by decide) (by decide) (by decide) (by decide)
    Only.refl).get .settings (by decide)

theorem assign_entries (moved : u.sli.ownNumber ≠ n) :
    (assign n u).ptb.entries[u.sli.ownNumber] = Entry.empty ∧ (assign n u).ptb.entries[n] = Entry.empty := by
  have kept : (assign n u).ptb = (numbered n u).ptb := by
    by_cases conflict : u.sli.conflict.isSome
    · rw [assign_of_conflict conflict]
      exact (Only.leaveAddressConflict (fs := [.ssc]) (by decide) Only.refl).get .ptb (by decide)
    · rw [assign_of_no_conflict (Option.not_isSome_iff_eq_none.1 conflict)]
  rw [kept]
  exact renumber_entries moved

/-- A station that was not moved keeps its state (R197, R199). -/
theorem assign_ssc_of_unmoved (unmoved : u.sli.conflict = none ∨ u.ssc.returnState = none) :
    (assign n u).ssc = u.ssc := by
  have kept : (numbered n u).ssc = u.ssc := (numbered_only n u).get .ssc (by decide)
  by_cases conflict : u.sli.conflict.isSome
  · have stays : u.ssc.returnState = none :=
      unmoved.resolve_left (Option.isSome_iff_ne_none.1 conflict)
    rw [assign_of_conflict conflict, leaveAddressConflict_ssc_of_none (by rwa [State.withSli_ssc, kept])]
    exact kept
  · rw [assign_of_no_conflict (Option.not_isSome_iff_eq_none.1 conflict)]
    exact kept

theorem assign_ssc_of_moved {back : StationState} (conflict : u.sli.conflict.isSome) (set : u.settings = some st)
    (returns : u.ssc.returnState = some back) :
    (assign n u).ssc = { u.ssc with station := returnedState st u.cme.warmCount back, returnState := none } := by
  have kept := numbered_only n u
  have ssc : (numbered n u).ssc = u.ssc := kept.get .ssc (by decide)
  have force : (numbered n u).settings = u.settings := kept.get .settings (by decide)
  have cme : (numbered n u).cme = u.cme := kept.get .cme (by decide)
  have left := leaveAddressConflict_ssc (u := (numbered n u).withSli (numbered n u).sli.leaveConflict)
    (force.trans set) ((congrArg Ssc.returnState ssc).trans returns)
  rw [assign_of_conflict conflict, left, State.withSli_ssc, State.withSli_cme, ssc, cme]

end assign

/-! ### The command -/

section replied
variable (a : Answer)

@[simp] theorem replied_ssc : (replied s r code a).ssc = a.state.ssc := by simp [replied, echoAnswer]

@[simp] theorem replied_ptb : (replied s r code a).ptb = a.state.ptb := by simp [replied, echoAnswer]

@[simp] theorem replied_settings : (replied s r code a).settings = a.state.settings := by simp [replied, echoAnswer]

/-- On a line that is not free an answer writes the echo alone. -/
theorem replied_sli (busy : a.state.sli.lineFree = false) :
    (replied s r code a).sli = { a.state.sli with echo := (echoAnswer code r a).sli.echo } := by
  rw [replied, publish_sli, settle_sli_of_busy (by exact busy)]
  rfl

end replied

section command
variable (away : s.ssc.station ≠ .start) (watching : s.sli.watching = true) (other : r.header ≠ s.sli.ownNumber)
  (args : r.args = be48 identity ++ [b])
include away watching other args

/-- Every station observes, and the one that the request names answers. -/
theorem assignNumber_effect : exec (.assignNumber r) s = done s
    (if (r.target = 0 ∨ r.target.toNat = s.sli.ownNumber.val) ∧ identity = s.pins.identity then
      echoAnswer 13 r (judge 13 true true true r (ownAssign r) (observeAssignment r s.heard))
    else observeAssignment r s.heard) := by
  have header : ¬ r.header = s.heard.sli.ownNumber := other
  have named : ((observeAssignment r s.heard).targeted r &&
      identityArgument r == some (observeAssignment r s.heard).pins.identity) = true ↔
      (r.target = 0 ∨ r.target.toNat = s.sli.ownNumber.val) ∧ identity = s.pins.identity := by
    rw [Bool.and_eq_true, State.targeted_iff, identityArgument_of_args args, beq_iff_eq, Option.some_inj,
      observeAssignment_sli, observeAssignment_pins]
    rfl
  refine congrArg (done s) ?_
  unfold State.hears
  rw [State.hearing_of_watching away watching, if_neg header]
  exact if_congr named rfl rfl

theorem assignNumber_unnamed
    (unnamed : ¬ ((r.target = 0 ∨ r.target.toNat = s.sli.ownNumber.val) ∧ identity = s.pins.identity)) :
    exec (.assignNumber r) s = done s (observeAssignment r s.heard) := by
  rw [assignNumber_effect away watching other args, if_neg unnamed]

theorem assignNumber_named
    (named : (r.target = 0 ∨ r.target.toNat = s.sli.ownNumber.val) ∧ identity = s.pins.identity) :
    exec (.assignNumber r) s =
      .next (replied s r 13 (judge 13 true true true r (ownAssign r) (observeAssignment r s.heard))) := by
  rw [assignNumber_effect away watching other args, if_pos named]
  rfl

omit away watching other

theorem ownAssign_of_misfit (misfit : ¬ (1 ≤ b.toNat ∧ b.toNat ≤ 31)) :
    ownAssign r u = Answer.refuse u .badArgument := by
  simp only [ownAssign, numberArgument_of_misfit args misfit]

theorem ownAssign_of_fit (fits : 1 ≤ b.toNat ∧ b.toNat ≤ 31) :
    ownAssign r u = Answer.take (assign (Fin.ofNat 32 b.toNat) u) := by
  have seven : r.args.length = 7 := by rw [args]; rfl
  simp only [ownAssign, numberArgument_of_fit args fits]
  exact if_pos seven

/-- The conflict of the assigned number is cleared (R113). -/
theorem observed_entry (agrees : crc8 (r.target :: r.origin :: 13 :: r.args) = r.check) (nonzero : n ≠ 0)
    (value : n.val = b.toNat) (conflicted : u.ptb.entries[n].state = .conflicted) :
    (observeAssignment r u).ptb.entries[n] = { u.ptb.entries[n] with
      conflict := u.ptb.entries[n].conflict.map fun c => { c with cleared := true, clearTimer := none } } := by
  have positive : n.val ≠ 0 := fun k => nonzero (Fin.ext k)
  have fits : 1 ≤ b.toNat ∧ b.toNat ≤ 31 := by omega
  have number : numberArgument r = some n := by
    rw [numberArgument_of_fit args fits]
    exact congrArg some (Fin.ext ((val_of_fit fits).trans value.symm))
  rw [observeAssignment_of_number number agrees]
  exact clearConflict_entry conflicted

/-- Every other entry stands. -/
theorem observed_entry_other (unmet : ¬ crc8 (r.target :: r.origin :: 13 :: r.args) = r.check ∨ n.val ≠ b.toNat ∨
      u.ptb.entries[n].state ≠ .conflicted) :
    (observeAssignment r u).ptb.entries[n] = u.ptb.entries[n] := by
  by_cases agrees : crc8 (r.target :: r.origin :: 13 :: r.args) = r.check
  · by_cases fits : 1 ≤ b.toNat ∧ b.toNat ≤ 31
    · rw [observeAssignment_of_number (numberArgument_of_fit args fits) agrees]
      refine clearConflict_entry_other ((unmet.resolve_left (not_not.2 agrees)).imp_left fun differs same => ?_)
      exact differs ((congrArg Fin.val same).trans (val_of_fit fits))
    · rw [observeAssignment_of_no_number (numberArgument_of_misfit args fits)]
  · rw [observeAssignment_of_badCheck agrees]

end command

/-- An assignment taken by the station `u` that has observed it (R99). -/
theorem assigned_outcome (busy : u.sli.lineFree = false)
    (echo : u.sli.echo = s.sli.echo) :
    let t := replied s r 13 (Answer.take (assign n u))
    Answered s t r 13 .taken none ∧ t.sli.ownNumber = n ∧ t.sli.conflict = none ∧
      (u.sli.conflict.isSome → t.sli.conflictTimer = none ∧ t.sli.presenceSlot = none) ∧
      t.sli.counters = u.sli.counters := by
  have link := assign_sli (n := n) (u := u)
  have still : (assign n u).sli.lineFree = false := by rw [link]; exact busy
  have answered := replied_answered (s := s) (r := r) (code := 13) (a := Answer.take (assign n u))
    (by rw [Answer.take, link]; exact echo)
  refine ⟨answered, ?_⟩
  rw [replied_sli _ still, Answer.take, link]
  exact ⟨rfl, rfl, fun conflict => ⟨if_pos conflict, if_pos conflict⟩, rfl⟩

end Sys2Proof.Machine

open Sys2Proof Sys2Proof.Machine

/-- Settles O59: a station that is not named observes, the named one judges and takes the number. -/
theorem numbersAreAssignedByIdentity : Obligations.NumbersAreAssignedByIdentity := by
  unfold Obligations.NumbersAreAssignedByIdentity
  intro s r identity b settled away watching other args mine agrees originGood fits l
  have heard : s.heard.sli = l := Sli.hear_eq_afterHearing _
  by_cases named : mine
  · refine ⟨_, assignNumber_named away watching other args named, fun unnamed => absurd named unnamed,
      fun _ differs => ?_, fun _ agrees bad => ?_, fun _ agrees good misfit => ?_, fun _ agrees good fits => ?_⟩
    · rw [judge_of_badCheck differs, observeAssignment_of_badCheck differs]
      exact replied_refused settled
    · rw [judge_of_badOrigin agrees bad]
      refine ⟨replied_answered (by rw [Answer.refuse, observeAssignment_sli]; rfl), ?_⟩
      rw [replied_sli _ (by rw [Answer.refuse, observeAssignment_sli]; rfl), Answer.refuse, observeAssignment_sli]
      rfl
    · rw [judge_of_good agrees good, ownAssign_of_misfit args misfit,
        observeAssignment_of_no_number (numberArgument_of_misfit args misfit)]
      exact replied_refused settled
    · rw [judge_of_good agrees good, ownAssign_of_fit args fits]
      obtain ⟨answered, number, air, left, counters⟩ := assigned_outcome (s := s) (r := r)
        (n := Fin.ofNat 32 b.toNat) (u := observeAssignment r s.heard) (by rw [observeAssignment_sli]; rfl)
        (by rw [observeAssignment_sli]; rfl)
      rw [observeAssignment_sli] at left counters
      simp only [number, val_of_fit fits, replied_ssc, replied_ptb, replied_settings]
      simp only [Answer.take, assign_settings, observeAssignment_settings]
      refine ⟨answered, trivial, air, left, counters.trans (congrArg Sli.counters heard), rfl, fun moved => ?_,
        fun unmoved => ?_, fun back returns conflict st set => ?_⟩
      · have apart : s.sli.ownNumber ≠ Fin.ofNat 32 b.toNat := fun k =>
          moved ((val_of_fit fits).symm.trans (congrArg Fin.val k.symm))
        have entries := assign_entries (u := observeAssignment r s.heard) (n := Fin.ofNat 32 b.toNat)
          (by rw [observeAssignment_sli]; exact apart)
        simp only [observeAssignment_sli] at entries
        exact entries
      · rw [assign_ssc_of_unmoved (by rw [observeAssignment_sli, observeAssignment_ssc]; exact unmoved),
          observeAssignment_ssc]
        rfl
      · rw [assign_ssc_of_moved (st := st) (back := back) (by rw [observeAssignment_sli]; exact conflict)
          (by rw [observeAssignment_settings]; exact set) (by rw [observeAssignment_ssc]; exact returns),
          observeAssignment_ssc, observeAssignment_cme, returnedState_eq]
        rfl
  · have sli : (publish s (settle (observeAssignment r s.heard))).sli = l := by
      rw [publish_sli, settle_sli_of_busy (by rw [observeAssignment_sli]; rfl), observeAssignment_sli, heard]
    refine ⟨_, assignNumber_unnamed away watching other args named, fun _ => ⟨sli, ?_,
      fun n agrees nonzero value c => ?_, fun n unmet => ?_⟩, fun k => absurd k named,
      fun k => absurd k named, fun k => absurd k named, fun k => absurd k named⟩
    · rw [publish_ssc, settle_ssc, observeAssignment_ssc]
      rfl
    · rw [publish_ptb, settle_ptb]
      exact observed_entry args agrees nonzero value c
    · rw [publish_ptb, settle_ptb]
      exact observed_entry_other args unmet

end

section
/-! PROOFS. The invariant of the peer entries (R106, R108, R112): its parts, and what the operations of the peer table do to
them. -/

namespace Sys2Proof.Machine

/-! ### The parts of the invariant -/

/-- An entry's state has its timers, its conflict record and its contents (R106, R108, R112). -/
def Entry.Kept (e : Entry) : Prop :=
  e.refresh ≤ 255 ∧ (e.freshTimer.isSome ↔ e.state = .fresh) ∧
    (e.lossTimer.isSome ↔ e.state = .fresh ∨ e.state = .stale) ∧ (e.conflict.isSome ↔ e.state = .conflicted) ∧
    (e.state = .empty → e.report = none ∧ e.closedTime = none)

theorem peersKept_iff (s : State) :
    PeersKept s ↔ s.sli.ownNumber ≠ 0 ∧ s.entry 0 = Entry.empty ∧ s.entry s.sli.ownNumber = Entry.empty ∧
      ∀ n, (s.entry n).Kept :=
  Iff.rfl

theorem Entry.empty_kept : Entry.empty.Kept := by simp [Entry.Kept, Entry.empty]

theorem Entry.take_kept (e : Entry) (r : Report) (now : Time) : (e.take r now).Kept :=
  ⟨Nat.min_le_left _ _, by simp [Entry.take], by simp [Entry.take], by simp [Entry.take], nofun⟩

theorem Entry.markConflict_kept {e : Entry} (h : e.Kept) (now : Time) : (e.markConflict now).Kept :=
  ⟨h.1, by simp [Entry.markConflict], by simp [Entry.markConflict], by simp [Entry.markConflict], nofun⟩

section entries
variable {s t u v : State} {m n : StationNo} {e : Entry}

@[simp] theorem State.setEntry_sli : (s.setEntry n e).sli = s.sli := rfl
@[simp] theorem State.setEntry_localTime : (s.setEntry n e).localTime = s.localTime := rfl

@[simp] theorem State.entry_setEntry_same : (s.setEntry n e).entry n = e := by
  simp [State.entry, State.setEntry]

theorem State.entry_setEntry_ne (apart : m ≠ n) : (s.setEntry n e).entry m = s.entry m := by
  simp [State.entry, State.setEntry, Fin.val_ne_of_ne apart.symm]

@[simp] theorem addMark_entry : (addMark s).entry n = { s.entry n with refresh := 0 } := by
  simp [State.entry, addMark]

@[simp] theorem addMark_sli : (addMark s).sli = s.sli := rfl
@[simp] theorem addMark_localTime : (addMark s).localTime = s.localTime := rfl

/-! ### What the invariant reads -/

/-- The fields that the invariant does not read. -/
def unpeeredFields : List Fld :=
  [.localTime, .pins, .settings, .siu, .cme, .pes, .bkc, .cds, .syn, .lsc, .csq, .drc, .ssc, .due, .freeCount, .pending]

/-- The invariant rests on the own number and the entries alone. -/
theorem PeersKept.of_eq (h : PeersKept s) (own : t.sli.ownNumber = s.sli.ownNumber)
    (entries : t.ptb.entries = s.ptb.entries) : PeersKept t := by
  rw [peersKept_iff, State.entry, State.entry, entries, own]
  exact ⟨h.1, h.2.1, h.2.2.1, fun n => by rw [State.entry, entries]; exact h.2.2.2 n⟩

theorem PeersKept.only (h : PeersKept s) (k : Only unpeeredFields s t) : PeersKept t := by
  have sli : t.sli = s.sli := k.get .sli (by decide)
  have ptb : t.ptb = s.ptb := k.get .ptb (by decide)
  exact h.of_eq (by rw [sli]) (by rw [ptb])

theorem PeersKept.withSli (h : PeersKept s) {x : Sli} (own : x.ownNumber = s.sli.ownNumber) :
    PeersKept (s.withSli x) :=
  h.of_eq own rfl

theorem PeersKept.withPtb (h : PeersKept s) {x : Ptb} (entries : x.entries = s.ptb.entries) :
    PeersKept (s.withPtb x) :=
  h.of_eq rfl entries

/-! ### Entries set -/

theorem PeersKept.setEntry (h : PeersKept s) (number : n ≠ 0) (other : n ≠ s.sli.ownNumber) (kept : e.Kept) :
    PeersKept (s.setEntry n e) := by
  obtain ⟨own, zero, mine, entries⟩ := h
  refine (peersKept_iff _).2 ⟨own, ?_, ?_, fun m => ?_⟩
  · rw [State.entry_setEntry_ne number.symm]; exact zero
  · rw [State.setEntry_sli, State.entry_setEntry_ne other.symm]; exact mine
  · by_cases same : m = n
    · rw [same, State.entry_setEntry_same]; exact kept
    · rw [State.entry_setEntry_ne same]; exact entries m

/-- Only another station's entry is anything but unused. -/
theorem PeersKept.other_of_ne_empty (h : PeersKept s) (used : s.entry n ≠ Entry.empty) :
    n ≠ 0 ∧ n ≠ s.sli.ownNumber := by
  obtain ⟨-, zero, mine, -⟩ := (peersKept_iff s).1 h
  exact ⟨fun k => used (k ▸ zero), fun k => used (k ▸ mine)⟩

theorem PeersKept.addMark (h : PeersKept s) : PeersKept (addMark s) := by
  obtain ⟨own, zero, mine, entries⟩ := (peersKept_iff s).1 h
  refine (peersKept_iff _).2 ⟨own, ?_, ?_, fun n => ?_⟩
  · rw [addMark_entry, zero]; rfl
  · rw [addMark_sli, addMark_entry, mine]; rfl
  · rw [addMark_entry]
    exact ⟨Nat.zero_le _, (entries n).2⟩

theorem PeersKept.publishView (h : PeersKept s) : PeersKept s.publishView :=
  h.only (Only.publishView (by decide) Only.refl)

theorem PeersKept.takeReport (h : PeersKept s) (number : n ≠ 0) (other : n ≠ s.sli.ownNumber) (r : Report) :
    PeersKept (takeReport n r s) := by
  unfold Machine.takeReport
  dsimp only
  split
  · exact h
  · refine (PeersKept.setEntry ?_ number ?_ (Entry.take_kept _ _ _)).publishView
    · split
      · exact h.addMark
      · exact h
    · split <;> exact other

theorem PeersKept.claimFrame (h : PeersKept s) (number : n ≠ 0) (other : n ≠ s.sli.ownNumber) (c : ClaimField) :
    PeersKept (claimFrame n c s) := by
  unfold Machine.claimFrame
  split
  · exact h
  · exact (h.setEntry number other (e := { s.entry n with claim := c }) (h.2.2.2 n)).publishView

theorem PeersKept.conflictFrame (h : PeersKept s) (number : n ≠ 0) (other : n ≠ s.sli.ownNumber) :
    PeersKept (conflictFrame n s) :=
  ((h.setEntry number other (Entry.markConflict_kept (h.2.2.2 n) _)).only
    (Only.send _ (by decide) Only.refl)).publishView

theorem PeersKept.clearConflict (h : PeersKept s) (n : StationNo) : PeersKept (clearConflict n s) := by
  unfold Machine.clearConflict
  dsimp only
  split
  · next conflicted =>
    have used : s.entry n ≠ Entry.empty := fun k => by rw [k] at conflicted; cases conflicted
    obtain ⟨number, other⟩ := h.other_of_ne_empty used
    obtain ⟨refresh, fresh, loss, conflict, empty⟩ : (s.entry n).Kept := h.2.2.2 n
    refine (h.setEntry number other ?_).publishView
    exact ⟨refresh, fresh, loss, by simpa using conflict, empty⟩
  · exact h

/-- The table forgets the old and the new number (R114). -/
theorem PeersKept.renumber (h : PeersKept s) (number : n ≠ 0) :
    PeersKept (renumber s.sli.ownNumber n (s.withSli { s.sli with ownNumber := n })) := by
  obtain ⟨own, zero, mine, entries⟩ := (peersKept_iff s).1 h
  unfold Machine.renumber
  split
  · next same => exact h.withSli same.symm
  · next moved =>
    refine PeersKept.publishView ((peersKept_iff _).2 ⟨number, ?_, by simp, fun m => ?_⟩)
    · rw [State.entry_setEntry_ne number.symm, State.entry_setEntry_ne own.symm]
      exact zero
    · by_cases new : m = n
      · rw [new, State.entry_setEntry_same]; exact Entry.empty_kept
      · rw [State.entry_setEntry_ne new]
        by_cases old : m = s.sli.ownNumber
        · rw [old, State.entry_setEntry_same]; exact Entry.empty_kept
        · rw [State.entry_setEntry_ne old]; exact entries m

/-! ### Timers of an entry (R108, R113) -/

theorem PeersKept.reach (h : PeersKept s) (due : Time) : PeersKept (s.reach due) :=
  h.only (Only.reach due (by decide) Only.refl)

theorem State.entry_reach (due : Time) : (s.reach due).entry n = s.entry n := by
  rw [State.entry, State.reach_ptb, State.entry]

theorem PeersKept.expire {tm : Timer} {act : State → State} (h : PeersKept s)
    (ha : ∀ u, PeersKept u → PeersKept (act u)) : PeersKept (expire tm s act) := by
  cases tm with
  | none => exact h
  | some due => exact ha _ (h.reach due)

/-- An expiry sets the entry whose timer ran, and publishes the group view. -/
theorem PeersKept.entryExpiry {tm : Timer} {f : Entry → Entry} (h : PeersKept s)
    (idle : s.entry n = Entry.empty → tm = none) (kept : ∀ e : Entry, e.Kept → (f e).Kept) :
    PeersKept (Machine.expire tm s fun s => (s.setEntry n (f (s.entry n))).publishView) := by
  cases tm with
  | none => exact h
  | some due =>
    have reached := h.reach due
    have used : (s.reach due).entry n ≠ Entry.empty := fun k => by
      rw [State.entry_reach] at k
      cases idle k
    obtain ⟨number, other⟩ := reached.other_of_ne_empty used
    exact (reached.setEntry number other (kept _ (reached.2.2.2 n))).publishView

end entries

theorem freshnessTimerExpiry_keeps {s : State} (h : PeersKept s) (n : StationNo) :
    ∃ u, exec (.freshnessTimerExpiry n) s = done s u ∧ PeersKept u := by
  refine ⟨_, rfl, h.entryExpiry
    (f := fun e => { e with freshTimer := none, state := if e.state = .fresh then .stale else e.state })
    (fun k => by rw [k]; rfl) fun e ⟨refresh, _, loss, conflict, empty⟩ => ?_⟩
  by_cases fresh : e.state = .fresh
  · simp_all [Entry.Kept]
  · simpa [Entry.Kept, fresh, refresh, loss, conflict] using empty

theorem lossTimerExpiry_keeps {s : State} (h : PeersKept s) (n : StationNo) :
    ∃ u, exec (.lossTimerExpiry n) s = done s u ∧ PeersKept u := by
  refine ⟨_, rfl, h.entryExpiry
    (f := fun e => { e with lossTimer := none, freshTimer := none, state := if e.present then .lost else e.state })
    (fun k => by rw [k]; rfl) fun e ⟨refresh, _, _, conflict, empty⟩ => ?_⟩
  cases state : e.state <;> simp_all [Entry.Kept, Entry.present]

end Sys2Proof.Machine
end

section
/-! PROOFS. The operations of the other blocks leave the own number and the entries, so that the invariant of the peer
entries stands: what each writes of the link is a slot, a queue or the frame in flight. -/

namespace Sys2Proof.Machine

/-! ### The own number of the link -/

section slots
variable (l : Sli)

@[simp] theorem Sli.touch_ownNumber (slot : Slot) : (l.touch slot).ownNumber = l.ownNumber := by
  unfold Sli.touch
  split
  · split <;> rfl
  · rfl

/-- What is placed on the air changes the own number no more than the placing does. -/
theorem Sli.whenOnAir_ownNumber {place : Sli → Sli} (h : (place l).ownNumber = l.ownNumber) :
    (l.whenOnAir place).ownNumber = l.ownNumber := by
  unfold Sli.whenOnAir
  split
  · rfl
  · exact h

@[simp] theorem Sli.placeBf_ownNumber (x : SectionSet) : (l.placeBf x).ownNumber = l.ownNumber :=
  l.whenOnAir_ownNumber (l.touch_ownNumber _)

@[simp] theorem Sli.placeNotice_ownNumber (x : TripCause) : (l.placeNotice x).ownNumber = l.ownNumber :=
  l.whenOnAir_ownNumber (l.touch_ownNumber _)

@[simp] theorem Sli.placeClaim_ownNumber (x : ClaimItem) : (l.placeClaim x).ownNumber = l.ownNumber :=
  l.whenOnAir_ownNumber (l.touch_ownNumber _)

@[simp] theorem Sli.placeReport_ownNumber (x : Report) : (l.placeReport x).ownNumber = l.ownNumber :=
  l.whenOnAir_ownNumber (l.touch_ownNumber _)

@[simp] theorem Sli.placeData_ownNumber (x : DataItem) : (l.placeData x).ownNumber = l.ownNumber :=
  l.whenOnAir_ownNumber rfl

@[simp] theorem Sli.placeEvent_ownNumber (x : EventItem) : (l.placeEvent x).ownNumber = l.ownNumber := by
  unfold Sli.placeEvent
  split <;> rfl

@[simp] theorem Sli.giveUpClaim_ownNumber : l.giveUpClaim.ownNumber = l.ownNumber := by
  unfold Sli.giveUpClaim
  split
  · exact l.touch_ownNumber _
  · exact l.placeClaim_ownNumber _

end slots

section operations
variable {s : State} (h : PeersKept s)
include h

/-! ### Shared operations -/

theorem PeersKept.inForce {act : Settings → State → State} (ha : ∀ st, PeersKept (act st s)) :
    PeersKept (s.inForce act) := by
  unfold State.inForce
  split
  · exact h
  · exact ha _

theorem PeersKept.atWork {act : Settings → State → State} (ha : ∀ st, PeersKept (act st s)) :
    PeersKept (s.atWork act) := by
  refine h.inForce fun st => ?_
  split
  · exact ha st
  · exact h

theorem PeersKept.recording {act : Settings → State → State} (ha : ∀ st, PeersKept (act st s)) :
    PeersKept (s.recording act) := by
  refine h.inForce fun st => ?_
  split
  · exact ha st
  · exact h

theorem PeersKept.withSyn (x : Syn) : PeersKept (s.withSyn x) := h.only (Only.withSyn (by decide) Only.refl x)

theorem PeersKept.withCsq (x : Csq) : PeersKept (s.withCsq x) := h.only (Only.withCsq (by decide) Only.refl x)

theorem PeersKept.withPes (x : Pes) : PeersKept (s.withPes x) := h.only (Only.withPes (by decide) Only.refl x)

theorem PeersKept.withBkc (x : Bkc) : PeersKept (s.withBkc x) := h.only (Only.withBkc (by decide) Only.refl x)

theorem PeersKept.withDrc (x : Drc) : PeersKept (s.withDrc x) := h.only (Only.withDrc (by decide) Only.refl x)

theorem PeersKept.withSsc (x : Ssc) : PeersKept (s.withSsc x) := h.only (Only.withSsc (by decide) Only.refl x)

theorem PeersKept.send (d : Delivery) : PeersKept (s.send d) := h.only (Only.send d (by decide) Only.refl)

theorem PeersKept.take (d : Delivery) : PeersKept (s.take d) := h.only (Only.take d (by decide) Only.refl)

/-! ### The synchronizer -/

theorem PeersKept.judgeEligible : PeersKept (judgeEligible s) := by
  refine h.inForce fun st => ?_
  split
  · exact (h.withSli (s.sli.placeClaim_ownNumber _)).withSyn _
  · exact h

theorem PeersKept.giveUpClaim : PeersKept (giveUpClaim s) := by
  unfold Machine.giveUpClaim
  split
  · exact (h.withSli s.sli.giveUpClaim_ownNumber).withSyn _
  · exact h

theorem PeersKept.withdrawClaim : PeersKept (withdrawClaim s) := (h.giveUpClaim.withSyn _).judgeEligible

theorem PeersKept.leaveYielded : PeersKept (leaveYielded s) := (h.withSyn _).judgeEligible

theorem PeersKept.yieldTo (claimants : List StationNo) : PeersKept (yieldTo claimants s) := h.giveUpClaim.withSyn _

theorem PeersKept.endTold (o : SynOutcome) : PeersKept (endTold o s) := by
  have ended : PeersKept (endClaim o s) := by
    unfold endClaim
    split
    · exact h
    · split
      · exact h.withSyn _
      · exact h.giveUpClaim
  unfold Machine.endTold
  split
  · exact (ended.withSyn _).send _
  · exact h

theorem PeersKept.synCancel : PeersKept (synCancel s) := h.endTold _

theorem PeersKept.synTrip (closing : Bool) : PeersKept (synTrip closing s) := by
  unfold Machine.synTrip
  split
  · exact h.withSyn _
  · exact h.synCancel

theorem PeersKept.takeRequest (requester : Requester) (st : Settings) : PeersKept (takeRequest requester st s) :=
  (h.withSyn _).judgeEligible

theorem PeersKept.lowerWinner (claimants : List StationNo) : PeersKept (lowerWinner claimants s) :=
  h.only (Only.lowerWinner claimants (by decide) Only.refl)

theorem PeersKept.avrCheck (st : Settings) (r : Record) : PeersKept (avrCheck st r s) :=
  h.only (Only.avrCheck st r (by decide) Only.refl)

theorem PeersKept.evaluatePermit (st : Settings) (r : Record) : PeersKept (evaluatePermit st r s) :=
  h.only (Only.evaluatePermit st r (by decide) (by decide) Only.refl)

theorem PeersKept.claimingCycle : PeersKept (claimingCycle s) := by
  unfold Machine.claimingCycle
  split
  · exact h.withdrawClaim
  · exact h

theorem PeersKept.claimingView (st : Settings) (c : Claim) : PeersKept (claimingView st c s) := by
  unfold Machine.claimingView
  dsimp only
  split_ifs
  · exact h.yieldTo _
  · exact h.withdrawClaim
  · exact h

theorem PeersKept.yieldedView (st : Settings) : PeersKept (yieldedView st s) := by
  unfold Machine.yieldedView
  dsimp only
  split
  · exact (h.lowerWinner _).leaveYielded
  · exact h.lowerWinner _

theorem PeersKept.synClaimFrame (n : StationNo) (x : SectionSet) : PeersKept (synClaimFrame n x s) := by
  refine h.inForce fun st => ?_
  repeat' split
  all_goals first | exact h | exact h.yieldTo _ | exact h.lowerWinner _

theorem PeersKept.synWithdrawFrame (n : StationNo) : PeersKept (synWithdrawFrame n s) := by
  unfold Machine.synWithdrawFrame
  split
  · exact h.leaveYielded
  · exact h

theorem PeersKept.deadRefused : PeersKept (deadRefused s) := by
  unfold Machine.deadRefused
  split
  · exact h.giveUpClaim.withSyn _
  · exact h

/-! ### The changeover sequencer -/

theorem PeersKept.handRequest : PeersKept (handRequest s) := by
  unfold Machine.handRequest
  split
  · exact h
  · refine PeersKept.withCsq (h.inForce fun st => ?_) _
    split
    · exact h
    · split
      · exact h.takeRequest _ _
      · exact h.withSyn _

theorem PeersKept.withdrawRequest : PeersKept (withdrawRequest s) := by
  have withdrawn : PeersKept (synWithdraw s) := by
    unfold synWithdraw
    split
    · exact h.endTold _
    · exact h
  exact withdrawn.withCsq _

theorem PeersKept.enterRetransfer (st : Settings) : PeersKept (enterRetransfer st s) := by
  unfold Machine.enterRetransfer
  dsimp only
  split
  · exact (h.withCsq _).handRequest
  · exact h.withCsq _

theorem PeersKept.incomerTick (st : Settings) :
    PeersKept (incomerHand (incomerRunOut st (incomerMonitor st s))) := by
  have monitored : PeersKept (incomerMonitor st s) := h.only (Only.incomerMonitor st (by decide) (by decide) Only.refl)
  have run_out : PeersKept (incomerRunOut st (incomerMonitor st s)) := by
    unfold incomerRunOut
    split
    · exact monitored.enterRetransfer st
    · exact monitored
  unfold incomerHand
  split
  · exact run_out.handRequest
  · exact run_out

theorem PeersKept.generatorTick (st : Settings) :
    PeersKept (generatorShown (generatorDelay st (generatorReady st (generatorStarting st s)))) := by
  have starting : PeersKept (generatorStarting st s) := h.only (Only.generatorStarting st (by decide) Only.refl)
  have ready : PeersKept (generatorReady st (generatorStarting st s)) := by
    unfold generatorReady
    split_ifs
    · exact starting
    · exact starting.withdrawRequest.withCsq _
    · exact starting.handRequest
    · exact starting
  exact ready.only (Only.generatorShown (by decide) (Only.generatorDelay st (by decide) Only.refl))

theorem PeersKept.tieTest (st : Settings) : PeersKept (tieTest st s) := by
  unfold Machine.tieTest
  split
  · split
    · exact (h.withCsq _).handRequest
    · exact h
  · split
    · exact h.withdrawRequest.withCsq _
    · exact h
  · exact h

theorem PeersKept.csqTick (st : Settings) : PeersKept (csqTick st s) := by
  unfold Machine.csqTick
  split
  · split
    · exact h.incomerTick st
    · exact h.generatorTick st
    · exact h.tieTest st
    · exact h.only (Only.feederRestore st (by decide) (by decide) Only.refl)
  · exact h

theorem PeersKept.csqEvent {act : Settings → State → State} (ha : ∀ st, PeersKept (act st s)) :
    PeersKept (csqEvent act s) :=
  h.inForce fun st => (ha st).csqTick st

theorem PeersKept.whenRunning {act : Settings → State → State} {st : Settings} (ha : PeersKept (act st s)) :
    PeersKept (whenRunning act st s) := by
  unfold Machine.whenRunning
  split
  · exact ha
  · exact h

/-- An event of the sequencer whose act writes neither the link nor the peer table. -/
theorem PeersKept.sequenceEvent {act : Settings → State → State} (ha : ∀ st, Only unpeeredFields s (act st s)) :
    PeersKept (Machine.csqEvent act s) :=
  h.csqEvent fun st => h.only (ha st)

theorem PeersKept.evaluateMonitor (st : Settings) : PeersKept (evaluateMonitor st s) :=
  h.only (Only.evaluateMonitor st (by decide) Only.refl)

theorem PeersKept.derive (st : Settings) : PeersKept (derive st s) :=
  h.only (Only.derive st (by decide) (by decide) (by decide) Only.refl)

theorem PeersKept.incomerEvaluated (st : Settings) : PeersKept (incomerEvaluated st s) := by
  unfold Machine.incomerEvaluated
  split
  · exact h
  · split
    · exact h.only (Only.returnOrLost st (by decide) Only.refl)
    · exact h.withdrawRequest.only (Only.returnOrLost st (by decide) Only.refl)
    · exact h

theorem PeersKept.incomerDelayEnds (st : Settings) : PeersKept (incomerDelayEnds st s) := by
  unfold Machine.incomerDelayEnds
  split
  · exact h.enterRetransfer st
  · exact h

theorem PeersKept.tellTrip : PeersKept (tellTrip s) := by
  refine h.sequenceEvent fun st => Only.whenRunning _ st (fun st u k => ?_) Only.refl
  split
  · exact Only.feederTo _ (by decide) k
  · exact k

theorem PeersKept.tellLockoutClear : PeersKept (tellLockoutClear s) := by
  refine h.sequenceEvent fun st => Only.whenRunning _ st (fun st u k => ?_) Only.refl
  split_ifs
  · exact k
  · exact Only.feederTo _ (by decide) k
  · exact Only.feederTo _ (by decide) k

theorem PeersKept.tellOpenRequest : PeersKept (tellOpenRequest s) := by
  refine h.sequenceEvent fun st => Only.whenRunning _ st (fun st u k => ?_) Only.refl
  split
  · exact Only.feederTo _ (by decide) k
  · exact k

theorem PeersKept.csqGenReady : PeersKept (csqGenReady s) := h.csqEvent fun _ => h

theorem PeersKept.csqResetAlarm : PeersKept (csqResetAlarm s) := by
  refine (h.withCsq _).sequenceEvent fun st => Only.whenRunning _ st (fun st u k => ?_) Only.refl
  split
  · exact Only.toCsq _ (by decide) k
  · exact Only.derive st (by decide) (by decide) (by decide) k
  · exact k

theorem PeersKept.transferTestStart : PeersKept (transferTestStart s) := by
  unfold Machine.transferTestStart
  split
  · exact h
  · exact h.csqEvent fun st => (h.withCsq _).withCsq _

theorem PeersKept.transferTestEnd : PeersKept (transferTestEnd s) := by
  unfold Machine.transferTestEnd
  split
  · exact h.csqEvent fun st => (h.withCsq _).withCsq _
  · exact h

theorem PeersKept.setInhibit (on : Bool) : PeersKept (setInhibit on s) := h.csqEvent fun _ => h.withCsq _

theorem PeersKept.retransferAtOnce : PeersKept (retransferAtOnce s) := h.csqEvent fun st => h.enterRetransfer st

/-! ### The protection elements -/

theorem PeersKept.publishPes (afterCycle : Bool) : PeersKept (publishPes afterCycle s) :=
  h.only (Only.publishPes _ (by decide) Only.refl)

theorem PeersKept.pesFinish (station : StationState) (before : Pes) (claim : Option TripCause) :
    PeersKept (pesFinish station before claim s) := by
  unfold Machine.pesFinish
  split
  · unfold operate
    split
    · exact h.send _
    · exact (((h.withSli (s.sli.placeNotice_ownNumber _)).send _).send _).tellTrip
  · exact h.send _
  · exact h

theorem PeersKept.takeExtTrip (station : StationState) (before : Pes) (st : Settings) :
    PeersKept (takeExtTrip station before st s) := by
  unfold Machine.takeExtTrip
  split_ifs
  · exact h.pesFinish _ _ _
  · exact (h.withPes _).pesFinish _ _ _
  · exact h.pesFinish _ _ _
  · exact (h.withPes _).pesFinish _ _ _

theorem PeersKept.extTripChange : PeersKept (extTripChange s) := by
  refine h.inForce fun st => ?_
  split
  · exact (h.takeExtTrip _ _ _).publishPes _
  · exact h

theorem PeersKept.takePassage (a b : StationState) (st : Settings) : PeersKept (takePassage a b st s) := by
  unfold Machine.takePassage
  split_ifs
  · exact h.withPes _
  · exact (h.withPes _).takeExtTrip _ _ _
  · exact h.takeExtTrip _ _ _
  · exact h

theorem PeersKept.takeTransfer (st : Settings) (n : StationNo) (sections : SectionSet) :
    PeersKept (takeTransfer st n sections s) := by
  unfold Machine.takeTransfer
  dsimp only
  split_ifs
  · exact (h.withPes _).pesFinish _ _ _
  · exact (h.withPes _).pesFinish _ _ _
  · exact (h.withPes _).pesFinish _ _ _
  · exact h

theorem PeersKept.transferNotice (n : StationNo) (sections : SectionSet) :
    PeersKept (transferNotice n sections s) := by
  refine h.inForce fun st => ?_
  split
  · exact (h.takeTransfer st _ _).publishPes _
  · exact h

theorem PeersKept.removeOrigin (n : StationNo) : PeersKept (removeOrigin n s) :=
  h.only (Only.removeOrigin n (by decide) Only.refl)

theorem PeersKept.transferReport (n : StationNo) (body : Option ReportBody) :
    PeersKept (transferReport n body s) := by
  refine h.inForce fun st => ?_
  split
  · exact h
  split
  · refine PeersKept.publishPes ?_ _
    split
    · exact h.takeTransfer st _ _
    · exact h.removeOrigin _
  · exact h

/-! ### The recorder -/

theorem PeersKept.takeTrigger (st : Settings) (kind : CauseKind) (detail : Byte) :
    PeersKept (takeTrigger st kind detail s) := by
  unfold Machine.takeTrigger crossTrigger
  dsimp only
  split_ifs
  · exact (h.withDrc _).withSli (Sli.placeEvent_ownNumber _ _)
  · exact h.withDrc _
  · exact h.withDrc _

theorem PeersKept.levelTriggers (st : Settings) : PeersKept (levelTriggers st s) := by
  unfold Machine.levelTriggers
  refine List.foldlRecOn _ _ h fun u hu g _ => ?_
  split
  · exact hu.takeTrigger st _ _
  · exact hu

theorem PeersKept.peerTrigger (n : StationNo) : PeersKept (peerTrigger n s) := by
  refine h.recording fun st => ?_
  split
  · exact h.takeTrigger st _ _
  · exact h

theorem PeersKept.generalInputChange (g : Fin 4 × Byte) (level : Bool) :
    PeersKept (generalInputChange g level s) := by
  refine h.recording fun st => ?_
  dsimp only
  split
  · exact (h.withDrc _).takeTrigger st _ _
  · exact h.withDrc _

/-! ### The breaker controller -/

theorem PeersKept.takeOpening (purpose : Purpose) : PeersKept (takeOpening purpose s) :=
  (h.only (Only.abortAndOpen purpose (by decide) (by decide) Only.refl)).synCancel

theorem PeersKept.takeTrip (cause : TripCause) (st : Settings) : PeersKept (takeTrip cause st s) := by
  have opened : PeersKept (abortAndOpen .protection s) := h.only (Only.abortAndOpen _ (by decide) (by decide) Only.refl)
  have locked := (opened.synTrip (s.bkc.state == .closing)).only (Only.setLockout (by decide) (by decide) Only.refl)
  exact (locked.withBkc _).only (Only.armFailure st (by decide) Only.refl)

theorem PeersKept.failBreaker (st : Settings) : PeersKept (failBreaker st s) :=
  ((h.withSli (s.sli.placeBf_ownNumber _)).only (Only.setLockout (by decide) (by decide) Only.refl)).withBkc _

theorem PeersKept.lockoutClear (st : Settings) : PeersKept (lockoutClear st s) := by
  unfold Machine.lockoutClear
  split
  · exact h
  · exact (h.only (Only.dropLockout (by decide) Only.refl)).tellLockoutClear

theorem PeersKept.tellRefused (purpose : ClosePurpose) : PeersKept (tellRefused purpose s) := by
  cases purpose
  · exact h.only (Only.syncRefused (by decide) Only.refl)
  · exact h.deadRefused
  · exact h.only (Only.tellFeederRefused (by decide) Only.refl)

theorem PeersKept.operatorClose (st : Settings) : PeersKept (operatorClose st s).1 := by
  unfold Machine.operatorClose
  split <;> dsimp only <;> split
  · exact h.only (Only.takeClose _ st (by decide) (by decide) Only.refl)
  · exact h
  · exact h.takeRequest _ _
  · exact h

/-! ### The inputs -/

theorem PeersKept.takeInput (i : Input) (level : Bool) : PeersKept (takeInput i level s) := by
  cases i
  case bkrClosed | bkrOpen => exact h.only (Only.contactChange (by decide) (by decide) Only.refl)
  case rackedIn => exact h.only (Only.rackChange (by decide) (by decide) Only.refl)
  case localOpen =>
    refine h.atWork fun st => ?_
    split
    · exact h.takeOpening _
    · exact h
  case localClose =>
    refine h.atWork fun st => ?_
    split
    · exact h.operatorClose st
    · exact h
  case lockoutReset =>
    refine h.atWork fun st => ?_
    split
    · exact h.lockoutClear st
    · exact h
  case extTrip => exact h.extTripChange
  case genReady => exact h.csqGenReady
  case gin1 | gin2 | gin3 | gin4 => exact h.generalInputChange _ _
  all_goals exact h

theorem PeersKept.inputEvent (i : Input) (level : Bool) : PeersKept (inputEvent i level s) := by
  refine h.atWork fun st => ?_
  split
  · exact h.withSli (Sli.placeEvent_ownNumber _ _)
  · exact h

theorem PeersKept.debounced (i : Input) : PeersKept (debounced i s) := by
  unfold Machine.debounced
  dsimp only
  split
  · exact h.withSsc _
  · exact ((h.withSsc _).withSsc _ |>.inputEvent i _).takeInput i _

/-! ### Reports placed, and the end of START -/

theorem PeersKept.placeReport : PeersKept (placeReport s) := by
  unfold Machine.placeReport
  split
  · exact h
  · exact (h.withSli (s.sli.placeReport_ownNumber _)).withPtb rfl

/-- A source's part is taken into the own record, and a report is placed where the change asks for one (R104). -/
theorem PeersKept.ownPartTaken (x : Ptb) (b : Bool) (entries : x.entries = s.ptb.entries) :
    PeersKept (if b then Machine.placeReport (s.withPtb x) else s.withPtb x) := by
  split
  · exact (h.withPtb entries).placeReport
  · exact h.withPtb entries

theorem PeersKept.takeBreaker : PeersKept (takeBreaker s) := by
  have taken : PeersKept (s.withPtb { s.ptb with ownBreaker := some s.breakerReport }) := h.withPtb rfl
  unfold Machine.takeBreaker
  dsimp only
  refine PeersKept.publishView ?_
  split_ifs
  · exact taken.addMark.placeReport
  · exact taken.placeReport
  · exact taken.addMark
  · exact taken

theorem PeersKept.beginService : PeersKept (beginService s) := by
  have recorded := h.only (Only.withLsc (by decide) (Only.withDrc (by decide) Only.refl
    { s.drc with gin := s.generalLevels }) { s.lsc with shareTimer := s.after 20 })
  exact (PeersKept.addMark (recorded.withPtb (x := (takeOwnRecord _).ptb) rfl)).placeReport.publishView

theorem PeersKept.failAttempt : PeersKept (failAttempt s) := by
  unfold Machine.failAttempt
  split
  · exact (h.withSsc _).beginService
  · exact h.withSsc _

theorem PeersKept.enterPresence (st : Settings) (clamped : Bool) : PeersKept (enterPresence st clamped s) := by
  have inForce := (h.only (Only.withSettings (by decide) Only.refl (some st))).withSsc { s.ssc with
    station := .presence, clamped := clamped, reading := false, readRetry := none, presenceTimer := s.after 100,
    runRequest := st.station.role == .generator && s.input .genReady }
  have placed := inForce.withSli (x := s.sli.startPresence (s.after 20)) (Sli.touch_ownNumber _ _)
  exact (placed.only
    (Only.startBreaker (by decide) (by decide) (by decide) (by decide) Only.refl)).beginService

end operations

end Sys2Proof.Machine
end

section
/-! PROOFS. Every step keeps the peer entries (R106, R108, R112): the frames and requests that the link hands on, and the
commands one by one. -/

namespace Sys2Proof.Machine

variable {s : State}

/-! ### The link -/

/-- ASSIGN_NUMBER gives a station number, never 0 (R99). -/
theorem numberArgument_ne_zero {n : StationNo} {r : Request} (number : numberArgument r = some n) : n ≠ 0 := by
  unfold numberArgument at number
  split at number
  · cases number
  · next b _ =>
    split at number
    · cases number
    · next fits =>
      obtain rfl := Option.some.inj number
      have value : (Fin.ofNat 32 b.toNat).val = b.toNat := Nat.mod_eq_of_lt (by omega)
      intro zero
      exact fits (.inl (BitVec.eq_of_toNat_eq (by rw [← value, zero]; rfl)))

section link
variable (h : PeersKept s)
include h

theorem PeersKept.onLine {act : State → State} (ha : PeersKept (act s)) : PeersKept (s.onLine act) := by
  unfold State.onLine
  split
  · exact h
  · exact ha

theorem PeersKept.leaveFlight (f : Flight) : PeersKept (leaveFlight f s) := by
  have own : (s.sli.leave f).land.ownNumber = s.sli.ownNumber := (Sli.leave_keeps s.sli f).2.1
  unfold Machine.leaveFlight
  dsimp only
  split
  · exact (h.withSli own).only (Only.claimLeft (by decide) Only.refl)
  · exact h.withSli own

theorem PeersKept.enterConflict : PeersKept (enterConflict s) := by
  unfold Machine.enterConflict
  split
  · exact h
  · exact (h.withSli rfl).withSsc _

theorem PeersKept.hearing {act : State → State} (ha : ∀ u, PeersKept u → PeersKept (act u)) :
    PeersKept (s.hearing act) := by
  unfold State.hearing
  refine h.onLine ?_
  split
  · exact ha _ (h.withSli rfl)
  · exact h

/-- The filter hands on only frames of other stations (R89). -/
theorem PeersKept.filtered {n : StationNo} {act : State → State}
    (ha : ∀ u, n ≠ 0 → n ≠ u.sli.ownNumber → PeersKept u → PeersKept (act u)) : PeersKept (filtered n act s) := by
  refine h.hearing fun u hu => ?_
  split_ifs with own zero
  · exact hu.enterConflict
  · exact hu
  · exact ha u zero own hu

theorem PeersKept.reportHeard {n : StationNo} (number : n ≠ 0) (other : n ≠ s.sli.ownNumber) (r : Report) :
    PeersKept (reportHeard n r s) := by
  unfold Machine.reportHeard
  split
  · exact h
  · exact (h.takeReport number other r).transferReport n r.body

/-- A CONFLICT frame marks the entry of the number it contests, when that is another station's (R112). -/
theorem PeersKept.conflictHeard (identity : BitVec 48) (contested : Byte) :
    PeersKept (conflictHeard identity contested s) := by
  unfold Machine.conflictHeard
  split_ifs with outside own
  · exact h
  · exact h
  · exact h.enterConflict
  · have value : (Fin.ofNat 32 contested.toNat).val = contested.toNat := Nat.mod_eq_of_lt (by omega)
    refine h.conflictFrame (fun k => outside (.inl ?_)) fun k => own ?_
    · rw [← value, k]; rfl
    · rw [← value, k]

/-! ### The requests -/

theorem PeersKept.hears {r : Request} {act : State → State} (ha : ∀ u, PeersKept u → PeersKept (act u)) :
    PeersKept (s.hears r act) := by
  refine h.hearing fun u hu => ?_
  split
  · exact hu
  · exact ha u hu

theorem PeersKept.judge {code : Byte} {known broadcastable assigns : Bool} {r : Request} {owner : State → Answer}
    (ha : PeersKept (owner s).state) : PeersKept (judge code known broadcastable assigns r owner s).state := by
  unfold Machine.judge
  split_ifs <;> first | exact h | exact ha

theorem PeersKept.intake {code : Byte} {known broadcastable : Bool} {r : Request} {owner : State → Answer}
    (ha : ∀ u, PeersKept u → PeersKept (owner u).state) :
    PeersKept (intake code known broadcastable r owner s) := by
  refine h.hears fun u hu => ?_
  split
  · exact (hu.judge (ha u hu)).withSli rfl
  · exact hu

theorem PeersKept.withForce {owner : Settings → State → Answer} (ha : ∀ st, PeersKept (owner st s).state) :
    PeersKept (withForce owner s).state := by
  unfold Machine.withForce
  split
  · exact h
  · exact ha _

variable (r : Request) (st : Settings)

theorem PeersKept.ownOpen : PeersKept (ownOpen r st s).state := by
  unfold Machine.ownOpen
  split_ifs
  · exact h
  · exact h
  · exact h
  · exact (h.only (Only.unloadOrder _ (by decide) (by decide) (by decide) Only.refl)).tellOpenRequest
  · exact (h.takeOpening _).tellOpenRequest

theorem PeersKept.ownClose : PeersKept (ownClose r st s).state := by
  unfold Machine.ownClose
  split_ifs
  · exact h
  · exact h
  · exact h.operatorClose st

theorem PeersKept.ownResetLockout : PeersKept (ownResetLockout r st s).state := by
  unfold Machine.ownResetLockout
  split_ifs
  · exact h
  · exact h
  · exact h
  · exact h.lockoutClear st

theorem PeersKept.ownSetMode : PeersKept (ownSetMode r s).state := by
  have passes (m : StationState) : PeersKept (setMode m s).state := by
    unfold setMode
    split_ifs <;> exact h -- the invariant reads no station state
  unfold Machine.ownSetMode
  split
  · split
    · exact passes _
    · exact h
  · exact h

theorem PeersKept.ownResetAlarm : PeersKept (ownResetAlarm r s).state := by
  unfold Machine.ownResetAlarm
  split
  · exact h
  · exact (h.csqResetAlarm.withSyn _).withBkc _

theorem PeersKept.ownTransferTest : PeersKept (ownTransferTest r st s).state := by
  unfold Machine.ownTransferTest
  split_ifs <;> first | exact h | exact h.transferTestStart | exact h.transferTestEnd

theorem PeersKept.ownInhibit : PeersKept (ownInhibit r st s).state := by
  unfold Machine.ownInhibit
  split_ifs <;> first | exact h | exact h.setInhibit _

theorem PeersKept.ownRetransferNow : PeersKept (ownRetransferNow r st s).state := by
  unfold Machine.ownRetransferNow
  split_ifs <;> first | exact h | exact h.retransferAtOnce

theorem PeersKept.ownDiagnostics : PeersKept (ownDiagnostics r s).state := by
  unfold Machine.ownDiagnostics
  cases testableCircuit s.bkc.state <;> split_ifs <;> exact h -- nor the coil drivers

theorem PeersKept.ownCaptureTrigger : PeersKept (ownCaptureTrigger r st s).state := by
  unfold Machine.ownCaptureTrigger
  split_ifs <;> first | exact h | exact h.takeTrigger st _ _

theorem PeersKept.ownDirectory : PeersKept (ownDirectory r st s).state := by
  unfold Machine.ownDirectory
  split_ifs <;> first | exact h | exact h.withSli (Sli.placeData_ownNumber _ _)

theorem PeersKept.ownRead : PeersKept (ownRead r s).state := by
  unfold Machine.ownRead readBlock
  repeat' split
  all_goals first | exact h | exact h.withSli (Sli.placeData_ownNumber _ _)

theorem PeersKept.ownRelease : PeersKept (ownRelease r s).state := by
  unfold Machine.ownRelease
  repeat' split
  all_goals exact h -- nor the recorder

theorem PeersKept.ownAssign : PeersKept (ownAssign r s).state := by
  have assigned {n : StationNo} (number : n ≠ 0) : PeersKept (assign n s) := by
    by_cases conflict : s.sli.conflict.isSome
    · rw [assign_of_conflict conflict]
      have left : PeersKept ((numbered n s).withSli (numbered n s).sli.leaveConflict) :=
        PeersKept.withSli (h.renumber number) (Sli.touch_ownNumber _ _)
      exact left.only (Only.leaveAddressConflict (by decide) Only.refl)
    · rw [assign_of_no_conflict (Option.not_isSome_iff_eq_none.1 conflict)]
      exact h.renumber number
  unfold Machine.ownAssign
  split
  · next number =>
    split
    · exact assigned (numberArgument_ne_zero number)
    · exact h
  · exact h

end link

/-! ### The commands -/

section commands
variable (h : PeersKept s)
include h

theorem conflictClearExpiry_keeps (n : StationNo) :
    ∃ u, exec (.conflictClearExpiry n) s = done s u ∧ PeersKept u :=
  ⟨_, rfl, h.expire fun _ hu => hu.clearConflict n⟩

theorem settingsImageRead_keeps (image : List Byte) :
    ∃ u, exec (.settingsImageRead image) s = done s u ∧ PeersKept u := by
  refine ⟨_, rfl, ?_⟩
  split
  · split
    · exact h.enterPresence _ _
    · exact h.failAttempt
    · exact (h.withSsc _).beginService
  · exact h

theorem ptbMeasuredUpdate_keeps : ∃ u, exec .ptbMeasuredUpdate s = done s u ∧ PeersKept u := by
  refine ⟨_, rfl, ?_⟩
  dsimp only
  split
  · exact h.take _
  · exact (h.take _).withPtb rfl

theorem ptbSourcePublication_keeps (source : Source) :
    ∃ u, exec (.ptbSourcePublication source) s = done s u ∧ PeersKept u := by
  have taken := h.take (.ptb source)
  refine ⟨_, rfl, ?_⟩
  dsimp only
  split
  · exact taken
  · cases source
    · exact taken.takeBreaker
    · exact taken.ownPartTaken _ _ (by rfl)
    · exact taken.ownPartTaken _ _ (by rfl)
    · exact taken.ownPartTaken _ _ (by rfl)

theorem assignNumber_keeps (r : Request) : ∃ u, exec (.assignNumber r) s = done s u ∧ PeersKept u := by
  refine ⟨_, rfl, h.hears fun u hu => ?_⟩
  have observed : PeersKept (observeAssignment r u) := by
    unfold observeAssignment
    split
    · split
      · exact hu.clearConflict _
      · exact hu
    · exact hu
  dsimp only
  split
  · exact (observed.judge (observed.ownAssign r)).withSli rfl
  · exact observed

/-- The commands that write neither the link nor the peer table. -/
def sparesPeers : Instr → Bool
  | .settingsReadRetry | .presenceExpiry | .sscCycleCompletion | .rawInputChange _ _ | .overtempRise | .overtempFall
  | .sampleStrobe _ | .cmeCycleRecord | .lscSlipCorrection | .pesConflictMarking _ | .transferOriginExpiry _
  | .avrPulseEnd | .avrSpacingExpiry | .lscSynPublication | .lscViewEvent | .lscBreakerRecord
  | .lscStationStateChange _ _ | .shareIntervalExpiry | .unloadTimerExpiry | .overlapDeadlineExpiry
  | .govBiasPeriodStart | .closePulseEnd | .closingTimerExpiry | .tripPulseEnd | .stuckTimerExpiry
  | .discrepancyTimerExpiry | .bfRecheckExpiry | .lockoutPulseEnd | .periodTimerExpiry | .diagnosticRetryExpiry
  | .diagnosticStepEnd _ | .cdsBreakerStateChange | .cdsStationStateChange => true
  | _ => false

theorem sparesPeers_keeps {c : Instr} (spares : sparesPeers c = true) : ∃ u, exec c s = done s u ∧ PeersKept u := by
  cases c
  case settingsReadRetry | presenceExpiry | sscCycleCompletion | rawInputChange | overtempRise | overtempFall
    | sampleStrobe | cmeCycleRecord | lscSlipCorrection | pesConflictMarking | transferOriginExpiry | avrPulseEnd
    | avrSpacingExpiry | lscSynPublication | lscViewEvent | lscBreakerRecord | lscStationStateChange | shareIntervalExpiry
    | unloadTimerExpiry | overlapDeadlineExpiry | govBiasPeriodStart | closePulseEnd | closingTimerExpiry
    | tripPulseEnd | stuckTimerExpiry | discrepancyTimerExpiry | bfRecheckExpiry | lockoutPulseEnd | periodTimerExpiry
    | diagnosticRetryExpiry | diagnosticStepEnd | cdsBreakerStateChange | cdsStationStateChange =>
    refine ⟨_, rfl, h.only ?_⟩
    repeat' first
      | with_reducible exact Only.refl
      | assumption
      | decide
      | dsimp only
      | intro _
      | with_reducible first
        | apply Only.expire | apply Only.take | apply Only.inForce | apply Only.notifyAll | apply Only.withSsc
        | apply Only.withPins | apply Only.withSiu | apply Only.withCme | apply Only.publishPes | apply Only.removeOrigin
        | apply Only.withSyn | apply Only.lscEvent | apply Only.shareInterval | apply Only.endUnload
        | apply Only.overlapExpires | apply Only.overlapTest | apply Only.leaveConflict | apply Only.withLsc
        | apply Only.closeOff | apply Only.tripOff | apply Only.passTo | apply Only.tripDone | apply Only.withBkc
        | apply Only.timerStart | apply Only.endStep | apply Only.reach | apply Only.abortRun | apply Only.withCds
      | split
  all_goals cases spares

/-- The commands of the synchronizer that write its claim. -/
def claimsAtLink : Instr → Bool
  | .synCycleCompletion | .synViewEvent | .synBreakerRecord | .synStationStateChange _ _ | .syncTimerExpiry
  | .synRetryExpiry | .holdTimerExpiry | .yieldTimerExpiry | .refusalWaitExpiry => true
  | _ => false

theorem claimsAtLink_keeps {c : Instr} (claims : claimsAtLink c = true) : ∃ u, exec c s = done s u ∧ PeersKept u := by
  cases c
  case synCycleCompletion | synViewEvent | synBreakerRecord | synStationStateChange | syncTimerExpiry
    | synRetryExpiry | holdTimerExpiry | yieldTimerExpiry | refusalWaitExpiry =>
    refine ⟨_, rfl, ?_⟩
    repeat' first
      | with_reducible exact h
      | assumption
      | dsimp only
      | intro _
      | with_reducible first
        | apply PeersKept.expire | apply PeersKept.take | apply PeersKept.inForce
        | apply PeersKept.judgeEligible | apply PeersKept.claimingCycle | apply PeersKept.claimingView
        | apply PeersKept.yieldedView | apply PeersKept.endTold | apply PeersKept.synCancel
        | apply PeersKept.giveUpClaim | apply PeersKept.withdrawClaim | apply PeersKept.leaveYielded
        | apply PeersKept.avrCheck | apply PeersKept.evaluatePermit | apply PeersKept.send | apply PeersKept.withSyn
      | split
  all_goals cases claims

/-- The commands of the sequencer. -/
def sequences : Instr → Bool
  | .csqCycleCompletion | .csqViewEvent | .csqBreakerRecord | .csqPesPublication | .csqSynOutcome _ | .csqLscMode
  | .csqAutoEntry | .csqAutoExit | .failureConfirmExpiry | .retransferDelayExpiry | .overlapBackupExpiry
  | .startDelayExpiry | .startTimerExpiry | .cooldownExpiry | .shedDelayExpiry | .restoreWaitExpiry
  | .overloadTimerExpiry | .shedSettleExpiry => true
  | _ => false

theorem sequences_keeps {c : Instr} (runs : sequences c = true) : ∃ u, exec c s = done s u ∧ PeersKept u := by
  cases c
  case csqAutoEntry | csqAutoExit | csqPesPublication | retransferDelayExpiry =>
    refine ⟨_, rfl, ?_⟩
    repeat' first
      | with_reducible exact h
      | assumption
      | dsimp only
      | intro _
      | with_reducible first
        | apply PeersKept.expire | apply PeersKept.take | apply PeersKept.inForce | apply PeersKept.csqEvent
        | apply PeersKept.whenRunning | apply PeersKept.incomerEvaluated | apply PeersKept.incomerDelayEnds
        | apply PeersKept.csqTick | apply PeersKept.derive | apply PeersKept.evaluateMonitor
        | apply PeersKept.withdrawRequest | apply PeersKept.withCsq
      | split
  case csqCycleCompletion | csqViewEvent | csqBreakerRecord | csqSynOutcome | csqLscMode | failureConfirmExpiry
    | overlapBackupExpiry | startDelayExpiry | startTimerExpiry | cooldownExpiry | shedDelayExpiry | restoreWaitExpiry
    | overloadTimerExpiry | shedSettleExpiry =>
    -- what these do before the tests of every event (csqTick) is the sequencer's alone
    refine ⟨_, rfl, ?_⟩
    repeat' first
      | with_reducible exact h
      | with_reducible exact Only.refl
      | assumption
      | decide
      | dsimp only
      | intro _
      | with_reducible first
        | apply PeersKept.expire | apply PeersKept.take | apply PeersKept.sequenceEvent
        | apply Only.whenRunning | apply Only.feederDeadBus | apply Only.keepSheds | apply Only.roleView
        | apply Only.roleRecord | apply Only.takeOutcome | apply Only.setMonitor | apply Only.toBlocked
        | apply Only.sequenceOpen | apply Only.run | apply Only.toReadyOrStarting | apply Only.toCsq
        | apply Only.enterShed | apply Only.judgeShed | apply Only.withCsq
      | split
  all_goals cases runs

/-- The commands of the link and of the blocks that place items in its slots. -/
def placesAtLink : Instr → Bool
  | .presenceRepeatTimer | .conflictTimerExpiry | .lineFree | .arbitrationLost _ | .transmitBitError | .frameCompleted
  | .frameDiscarded _ | .settingsNoAcknowledge | .debounceExpiry _ | .tripClaim _ _ | .openClaim _ | .closeClaim _
  | .bfTimerExpiry | .pesCycleEvaluation | .pesStationStateChange _ _ | .drcBufferStore | .drcTrigger _ _ => true
  | _ => false

theorem placesAtLink_keeps {c : Instr} (places : placesAtLink c = true) :
    ∃ u, exec c s = done s u ∧ PeersKept u := by
  cases c
  case presenceRepeatTimer =>
    exact ⟨_, rfl, h.expire fun u hu => hu.withSli (u.sli.touch_ownNumber .presence)⟩
  case conflictTimerExpiry =>
    refine ⟨_, rfl, h.expire fun u hu => ?_⟩
    split
    · exact hu
    · exact hu.withSli (u.sli.touch_ownNumber .presence)
  case closeClaim purpose =>
    have taken := h.take (.closeClaim purpose)
    refine ⟨_, rfl, taken.atWork fun st => ?_⟩
    split
    · exact taken.only (Only.tellTaken _ (by decide) (by decide)
        (Only.takeClose _ st (by decide) (by decide) Only.refl))
    · exact taken.tellRefused _
  case lineFree | arbitrationLost | transmitBitError | frameCompleted | frameDiscarded | settingsNoAcknowledge
    | debounceExpiry | tripClaim | openClaim | bfTimerExpiry | pesCycleEvaluation | pesStationStateChange
    | drcBufferStore | drcTrigger =>
    refine ⟨_, rfl, ?_⟩
    repeat' first
      | with_reducible exact h
      | assumption
      | rfl
      | dsimp only
      | intro _
      | with_reducible first
        | apply PeersKept.expire | apply PeersKept.take | apply PeersKept.inForce | apply PeersKept.atWork
        | apply PeersKept.onLine | apply PeersKept.hearing | apply PeersKept.leaveFlight
        | apply PeersKept.enterConflict | apply PeersKept.withSli | apply PeersKept.failAttempt
        | apply PeersKept.debounced | apply PeersKept.takeTrip | apply PeersKept.takeOpening
        | apply PeersKept.failBreaker | apply PeersKept.withBkc | apply PeersKept.publishPes
        | apply PeersKept.pesFinish | apply PeersKept.takePassage | apply PeersKept.withPes
        | apply PeersKept.recording | apply PeersKept.takeTrigger | apply PeersKept.levelTriggers
        | apply PeersKept.withDrc
      | split
  all_goals cases places

/-- Every command but RESET ends as every command ends, after an effect that keeps the peer entries. -/
theorem exec_effect_keeps_peers {c : Instr} (hc : ∀ straps raw, c ≠ .reset straps raw) :
    ∃ u, exec c s = done s u ∧ PeersKept u := by
  cases c
  case reset straps raw => exact absurd rfl (hc straps raw)
  -- the commands of the peer table
  case freshnessTimerExpiry n => exact freshnessTimerExpiry_keeps h n
  case lossTimerExpiry n => exact lossTimerExpiry_keeps h n
  case conflictClearExpiry n => exact conflictClearExpiry_keeps h n
  case reportTimerExpiry => exact ⟨_, rfl, h.expire fun _ hu => hu.placeReport⟩
  case ptbMeasuredUpdate => exact ptbMeasuredUpdate_keeps h
  case ptbSourcePublication source => exact ptbSourcePublication_keeps h source
  -- frames of other stations
  case reportReceived =>
    exact ⟨_, rfl, h.filtered fun _ number other hu => hu.reportHeard number other _⟩
  case claimReceived =>
    exact ⟨_, rfl, h.filtered fun _ number other hu => (hu.claimFrame number other _).synClaimFrame _ _⟩
  case claimWithdrawReceived =>
    exact ⟨_, rfl, h.filtered fun _ number other hu => (hu.claimFrame number other _).synWithdrawFrame _⟩
  case conflictReceived => exact ⟨_, rfl, h.hearing fun _ hu => hu.conflictHeard _ _⟩
  case tripNoticeReceived | captureTriggerEventReceived =>
    exact ⟨_, rfl, h.filtered fun _ _ _ hu => hu.peerTrigger _⟩
  case bfTransferReceived => exact ⟨_, rfl, h.filtered fun _ _ _ hu => hu.transferNotice _ _⟩
  case inputChangeReceived | dataReceived | presenceReceived => exact ⟨_, rfl, h.filtered fun _ _ _ hu => hu⟩
  -- the number, and the end of START
  case assignNumber r => exact assignNumber_keeps h r
  case settingsImageRead image => exact settingsImageRead_keeps h image
  -- the other requests
  case openRequest r => exact ⟨_, rfl, h.intake fun u hu => hu.withForce (hu.ownOpen r)⟩
  case closeRequest r => exact ⟨_, rfl, h.intake fun u hu => hu.withForce (hu.ownClose r)⟩
  case resetLockout r => exact ⟨_, rfl, h.intake fun u hu => hu.withForce (hu.ownResetLockout r)⟩
  case setMode r => exact ⟨_, rfl, h.intake fun u hu => hu.ownSetMode r⟩
  case resetAlarm r => exact ⟨_, rfl, h.intake fun u hu => hu.ownResetAlarm r⟩
  case transferTest r => exact ⟨_, rfl, h.intake fun u hu => hu.withForce (hu.ownTransferTest r)⟩
  case retransferInhibit r => exact ⟨_, rfl, h.intake fun u hu => hu.withForce (hu.ownInhibit r)⟩
  case retransferNow r => exact ⟨_, rfl, h.intake fun u hu => hu.withForce (hu.ownRetransferNow r)⟩
  case runDiagnostics r => exact ⟨_, rfl, h.intake fun u hu => hu.ownDiagnostics r⟩
  case captureTrigger r => exact ⟨_, rfl, h.intake fun u hu => hu.withForce (hu.ownCaptureTrigger r)⟩
  case captureDirectory r => exact ⟨_, rfl, h.intake fun u hu => hu.withForce (hu.ownDirectory r)⟩
  case captureRead r => exact ⟨_, rfl, h.intake fun u hu => hu.ownRead r⟩
  case captureRelease r => exact ⟨_, rfl, h.intake fun u hu => hu.ownRelease r⟩
  case unknownRequest kind r => exact ⟨_, rfl, h.intake fun u hu => hu⟩
  -- the other blocks
  all_goals first
    | exact sparesPeers_keeps h rfl
    | exact placesAtLink_keeps h rfl
    | exact claimsAtLink_keeps h rfl
    | exact sequences_keeps h rfl

end commands

/-- The end of a command leaves the own number and the peer table. -/
theorem PeersKept.done {u t : State} (h : PeersKept u) (ht : Machine.done s u = .next t) : PeersKept t := by
  obtain rfl : publish s (settle u) = t := by simpa [Machine.done] using ht
  refine h.of_eq ?_ (by simp)
  rw [publish_sli, settle_sli]
  split <;> rfl

/-- Every entry of a table after RESET is unused (R120), and the strapped number is never 0 (R101). -/
theorem peersKept_of_pins (pins : Pins) : PeersKept (State.ofPins pins) := by
  have unused (n : StationNo) : (State.ofPins pins).entry n = Entry.empty := by
    simp [State.ofPins, State.entry, Ptb.reset]
  have number : strapNumber pins.straps ≠ 0 := by
    unfold strapNumber
    split
    · decide
    · next strapped => exact fun k => strapped (BitVec.eq_of_toFin_eq k)
  exact (peersKept_iff _).2 ⟨number, unused _, unused _, fun n => by rw [unused n]; exact Entry.empty_kept⟩

theorem exec_keeps_peers {c : Instr} {t : State} (h : PeersKept s) (ht : exec c s = .next t) : PeersKept t := by
  by_cases hc : ∀ straps raw, c ≠ .reset straps raw
  · obtain ⟨u, hu, k⟩ := exec_effect_keeps_peers h hc
    exact k.done (hu.symm.trans ht)
  · push Not at hc
    obtain ⟨straps, raw, rfl⟩ := hc
    obtain rfl : _ = t := Host.Outcome.next.inj ((exec_reset straps raw s).symm.trans ht)
    exact (peersKept_of_pins _).of_eq rfl rfl

end Sys2Proof.Machine

open Sys2Proof Sys2Proof.Machine

/-- Settles O52: the command at the front of the queue keeps the peer entries, and so does a tick of the local time. -/
theorem everyStepKeepsThePeers : Obligations.EveryStepKeepsThePeers := by
  unfold Obligations.EveryStepKeepsThePeers
  intro s t h ht
  unfold step at ht
  split at ht
  · obtain rfl : s.tick = t := by simpa using ht
    exact h.of_eq rfl rfl
  · next c rest _ => exact exec_keeps_peers (s := s.withPending rest) (h.of_eq rfl rfl) ht

end

section
/-! PROOFS. The report payload (R102, R206, R208, R209): each field is read back from its place as it was sent. -/

namespace Sys2Proof.Machine

/-! ### Codes (R206) -/

@[simp] theorem roleOfCode_code (x : Role) : roleOfCode x.code = x := by cases x <;> rfl

@[simp] theorem serviceOfCode_code (x : StationState) : serviceOfCode (serviceCode x) = x := by cases x <;> rfl

@[simp] theorem breakerOfCode_code (x : BreakerState) : breakerOfCode x.code = some x := by cases x <;> rfl

@[simp] theorem liveOfCode_code (x : LiveState) : liveOfCode x.code = x := by cases x <;> rfl

@[simp] theorem circuitOfCode_code (x : CircuitResult) : circuitOfCode x.code = some x := by cases x <;> rfl

@[simp] theorem outcomeOfCode_code (x : RunOutcome) : outcomeOfCode x.code = some x := by cases x <;> rfl

@[simp] theorem runCircuitOfCode_code (x : RunCircuit) : runCircuitOfCode x.code = some x := by cases x <;> rfl

@[simp] theorem resultOfCode_code (x : Result) : resultOfCode x.code = some x := by cases x <;> rfl

@[simp] theorem detailOfCode_code (x : EchoDetail) : detailOfCode x.code = some x := by cases x <;> rfl

@[simp] theorem monitorOfCode_code (x : Monitor) : monitorOfCode x.code = some x := by cases x <;> rfl

@[simp] theorem sectionsOfBits_sectionBits (x : SectionSet) : sectionsOfBits (sectionBits x) = x := by
  obtain ⟨a, b⟩ := x
  cases a <;> cases b <;> rfl

@[simp] theorem sectionsOfByte_sectionByte (x : SectionSet) : sectionsOfByte (sectionByte x) = x := by
  obtain ⟨a, b⟩ := x
  cases a <;> cases b <;> rfl

/-- A sequence state is the one that its code names in the list of its role. -/
theorem csqOfCode_code {role : Role} {x : CsqState} (listed : x ∈ CsqState.inactive :: roleStates role) :
    csqOfCode role x.code = some x := by
  cases role <;> cases x <;> first | rfl | simp [roleStates] at listed

/-- A role detail is read back from its byte by its own role. -/
theorem roleDetailOfCode_code (x : RoleDetail) (monitored : ∀ m i t c, x = .incomer m i t c → m.isSome) :
    roleDetailOfCode x.role x.code = x := by
  cases x with
  | incomer m i t c =>
    obtain ⟨m, rfl⟩ := Option.isSome_iff_exists.1 (monitored m i t c rfl)
    cases m <;> cases i <;> cases t <;> cases c <;> rfl
  | generator => rfl
  | tie fed => exact congrArg RoleDetail.tie (sectionsOfByte_sectionByte fed)
  | feeder overload => cases overload <;> rfl

/-- A claim field that a report can show is read back from its bits with its section set. -/
theorem claimOfCode_code {x : ClaimField} (shown : x ≠ .withdrawn) :
    claimOfCode (claimCode x) (claimSections x) = some x := by
  cases x with
  | none => rfl
  | claiming sections => rfl
  | won sections => rfl
  | withdrawn => exact absurd rfl shown

/-! ### Fields of several bytes -/

section fields
variable {at' : Nat → Byte} {i : Nat}

theorem read16_of_be16 {x : BitVec 16} (bytes : [at' i, at' (i + 1)] = be16 x) : read16 at' i = x := by
  obtain ⟨hi, lo⟩ : at' i = x.extractLsb' 8 8 ∧ at' (i + 1) = x.extractLsb' 0 8 := by simpa [be16] using bytes
  rw [read16, hi, lo, BitVec.extractLsb'_append_extractLsb'_eq_extractLsb' (by rfl)]
  exact BitVec.extractLsb'_eq_self

theorem read32_of_be32 {x : BitVec 32} (bytes : [at' i, at' (i + 1), at' (i + 2), at' (i + 3)] = be32 x) :
    read32 at' i = x := by
  obtain ⟨b0, b1, b2, b3⟩ : at' i = x.extractLsb' 24 8 ∧ at' (i + 1) = x.extractLsb' 16 8 ∧
      at' (i + 2) = x.extractLsb' 8 8 ∧ at' (i + 3) = x.extractLsb' 0 8 := by simpa [be32] using bytes
  rw [read32, b0, b1, b2, b3]
  iterate 3 rw [BitVec.extractLsb'_append_extractLsb'_eq_extractLsb' (by rfl)]
  exact BitVec.extractLsb'_eq_self

/-- A signed field of 16 bits keeps a value in its range. -/
theorem opt16_toInt {v : Int} (fits : -32768 ≤ v ∧ v ≤ 32767) : (opt16 (some v)).toInt = v := by
  rw [opt16, BitVec.toInt_ofInt]
  exact Int.bmod_eq_of_le (by omega) (by omega)

/-- An unsigned field of 32 bits keeps a value in its range. -/
theorem opt32_toNat {v : Int} (fits : 0 ≤ v ∧ v < 2 ^ 32) : ((opt32 (some v)).toNat : Int) = v := by
  rw [opt32, BitVec.toNat_ofInt, Int.toNat_of_nonneg (Int.emod_nonneg _ (by decide))]
  exact Int.emod_eq_of_lt fits.1 fits.2

/-! ### The presence mask (R209) -/

/-- A field that the mask lists is what its place holds. -/
theorem whenPresent_eq {α : Type} {mask : BitVec 16} {k : Nat} {x : α} {o : Option α}
    (listed : mask.getLsbD k = o.isSome) (value : ∀ v, o = some v → x = v) : whenPresent mask k x = o := by
  cases o with
  | none => simp [whenPresent, listed]
  | some v => simp [whenPresent, listed, value v rfl]

end fields

/-- The bits of the mask, from bit 0 upwards. -/
theorem presenceMask_getLsbD (b : ReportBody) {k : Nat} (h : k < 12) : (presenceMask b).getLsbD k =
    [b.lastTrip.isSome, b.fLine.isSome, b.fBus.isSome, b.load.isSome, b.ratedKw.isSome, b.feeder.isSome,
      b.theta.isSome, b.slip.isSome, b.lastRun.isSome, b.newestSeq.isSome, b.echo.isSome,
      b.echoDetail.isSome].getD k false := by
  unfold presenceMask bit1
  repeat rw [BitVec.getLsbD_append]
  interval_cases k <;> simp

/-! ### The payload read back -/

section payload
variable (service : StationState) (b : ReportBody)

/-- The bytes of a report that holds more than its service state. -/
def sentByte (i : Nat) : Byte := (encodeReport { service := service, body := some b }).getD i 0

/-- The service state, the role and the sections share the first byte. -/
theorem sentByte_head : serviceOfCode ((sentByte service b 0).extractLsb' 0 3) = service ∧
    roleOfCode ((sentByte service b 0).extractLsb' 6 2) = b.role ∧
    sectionsOfBits ((sentByte service b 0).extractLsb' 4 2) = b.sections := by
  have byte : sentByte service b 0 = b.role.code ++ sectionBits b.sections ++ 0#1 ++ serviceCode service := rfl
  rw [byte]
  refine ⟨?_, ?_, ?_⟩ <;> repeat rw [BitVec.extractLsb'_append_eq_ite]
  all_goals simp

theorem sentByte_mask : read16 (sentByte service b) 3 = presenceMask b := read16_of_be16 rfl

/-- The breaker, line and bus states share a byte. -/
theorem sentByte_states (shown : b.breaker.isSome) :
    breakerOfCode ((sentByte service b 2).extractLsb' 4 3) = b.breaker ∧
    liveOfCode ((sentByte service b 2).extractLsb' 2 2) = b.line ∧
    liveOfCode ((sentByte service b 2).extractLsb' 0 2) = b.bus := by
  obtain ⟨x, breaker⟩ := Option.isSome_iff_exists.1 shown
  have byte : sentByte service b 2 = 0#1 ++ (b.breaker.getD .opened).code ++ b.line.code ++ b.bus.code := rfl
  rw [byte, breaker]
  refine ⟨?_, ?_, ?_⟩ <;> repeat rw [BitVec.extractLsb'_append_eq_ite]
  all_goals simp

/-- The eight flags of byte 1. -/
theorem sentByte_flags {k : Nat} (h : k < 8) : (sentByte service b 1).getLsbD k =
    [b.eventsLost, b.driveReduced, b.closeCircuitFault, b.stuckAlarm, b.failedToClose, b.bf, b.lockout,
      b.clamped].getD k false := by
  have byte : sentByte service b 1 = BitVec.ofBool b.clamped ++ BitVec.ofBool b.lockout ++ BitVec.ofBool b.bf ++
    BitVec.ofBool b.failedToClose ++ BitVec.ofBool b.stuckAlarm ++ BitVec.ofBool b.closeCircuitFault ++
    BitVec.ofBool b.driveReduced ++ BitVec.ofBool b.eventsLost := rfl
  rw [byte]
  repeat rw [BitVec.getLsbD_append]
  interval_cases k <;> simp

/-- The three alarms of byte 24. -/
theorem sentByte_alarms {k : Nat} (h : k < 3) :
    (sentByte service b 24).getLsbD k = [b.startFailed, b.blocked, b.syncFailed].getD k false := by
  have byte : sentByte service b 24 =
    0#5 ++ BitVec.ofBool b.syncFailed ++ BitVec.ofBool b.blocked ++ BitVec.ofBool b.startFailed := rfl
  rw [byte]
  repeat rw [BitVec.getLsbD_append]
  interval_cases k <;> simp

/-- The claim field and its sections share a byte. -/
theorem sentByte_claim {c : ClaimField} (claim : b.claim = some c) (shown : c ≠ .withdrawn) :
    claimOfCode ((sentByte service b 25).extractLsb' 4 2)
      (sectionsOfBits ((sentByte service b 25).extractLsb' 0 2)) = some c := by
  have byte : sentByte service b 25 = 0#2 ++ claimCode (b.claim.getD .none) ++ 0#2 ++
    sectionBits (claimSections (b.claim.getD .none)) := rfl
  have code : (sentByte service b 25).extractLsb' 4 2 = claimCode c := by
    rw [byte, claim]
    repeat rw [BitVec.extractLsb'_append_eq_ite]
    simp
  have sections : sectionsOfBits ((sentByte service b 25).extractLsb' 0 2) = claimSections c := by
    rw [byte, claim]
    repeat rw [BitVec.extractLsb'_append_eq_ite]
    simp
  rw [code, sections, claimOfCode_code shown]

/-- The sets of picked-up and operated elements, and the mark of a held element before the latter. -/
theorem sentByte_elements : (read16 (sentByte service b) 30).extractLsb' 0 10 = b.pickedUp ∧
    (read16 (sentByte service b) 32).extractLsb' 0 10 = b.operated ∧ (sentByte service b 32).getLsbD 7 = b.held := by
  have picked : read16 (sentByte service b) 30 = 0#6 ++ b.pickedUp := read16_of_be16 rfl
  have operated : read16 (sentByte service b) 32 = BitVec.ofBool b.held ++ 0#5 ++ b.operated := read16_of_be16 rfl
  have held : sentByte service b 32 = (BitVec.ofBool b.held ++ 0#5 ++ b.operated).extractLsb' 8 8 := rfl
  refine ⟨?_, ?_, ?_⟩
  · rw [picked]; exact BitVec.extractLsb'_append_eq_right
  · rw [operated]; exact BitVec.extractLsb'_append_eq_right
  · rw [held, BitVec.getLsbD_extractLsb']
    repeat rw [BitVec.getLsbD_append]
    simp

/-- The results of the two coil circuits share a byte. -/
theorem sentByte_circuits (trip : b.tripCircuit.isSome) (close : b.closeCircuit.isSome) :
    circuitOfCode ((sentByte service b 34).extractLsb' 4 3) = b.tripCircuit ∧
    circuitOfCode ((sentByte service b 34).extractLsb' 0 3) = b.closeCircuit := by
  obtain ⟨x, trip⟩ := Option.isSome_iff_exists.1 trip
  obtain ⟨y, close⟩ := Option.isSome_iff_exists.1 close
  have byte : sentByte service b 34 =
    0#1 ++ (b.tripCircuit.getD .unknown).code ++ 0#1 ++ (b.closeCircuit.getD .unknown).code := rfl
  rw [byte, trip, close]
  refine ⟨?_, ?_⟩ <;> repeat rw [BitVec.extractLsb'_append_eq_ite]
  all_goals simp

/-- The circuit and the outcome of the last run share a byte. -/
theorem sentByte_lastRun {x : ReportRun} (run : b.lastRun = some x) (circuit : x.circuit.isSome)
    (outcome : x.outcome.isSome) :
    runCircuitOfCode ((sentByte service b 35).extractLsb' 5 2) = x.circuit ∧
    outcomeOfCode ((sentByte service b 35).extractLsb' 0 3) = x.outcome ∧
    read32 (sentByte service b) 36 = x.time := by
  obtain ⟨c, circuit⟩ := Option.isSome_iff_exists.1 circuit
  obtain ⟨o, outcome⟩ := Option.isSome_iff_exists.1 outcome
  have byte : sentByte service b 35 = 0#1 ++ ((b.lastRun.bind fun r => r.circuit).getD .noCircuit).code ++ 0#2 ++
    ((b.lastRun.bind fun r => r.outcome).getD .ok).code := rfl
  have time : read32 (sentByte service b) 36 = (b.lastRun.map fun r => r.time).getD 0 := read32_of_be32 rfl
  rw [byte, time, run]
  refine ⟨?_, ?_, rfl⟩ <;> repeat rw [BitVec.extractLsb'_append_eq_ite]
  all_goals simp [circuit, outcome]

/-- The count of records and the mark FULL share a byte. -/
theorem sentByte_records (few : b.recordsHeld < 16) :
    ((sentByte service b 40).extractLsb' 0 4).toNat = b.recordsHeld ∧ (sentByte service b 40).getLsbD 7 = b.full := by
  have byte : sentByte service b 40 = BitVec.ofBool b.full ++ 0#3 ++ BitVec.ofNat 4 b.recordsHeld := rfl
  rw [byte]
  refine ⟨?_, ?_⟩
  · rw [BitVec.extractLsb'_append_eq_right, BitVec.toNat_ofNat, Nat.mod_eq_of_lt few]
  · repeat rw [BitVec.getLsbD_append]
    simp

/-! ### Fields that the mask lists -/

theorem frequency_back {i k : Nat} {x : Option Int} (listed : (presenceMask b).getLsbD k = x.isSome)
    (bytes : read32 (sentByte service b) i = opt32 x) (fits : ∀ v, x = some v → 0 ≤ v ∧ v < 2 ^ 32) :
    whenPresent (presenceMask b) k ((read32 (sentByte service b) i).toNat : Int) = x :=
  whenPresent_eq listed fun v hv => by rw [bytes, hv]; exact opt32_toNat (fits v hv)

theorem signed_back {i k : Nat} {x : Option Int} (listed : (presenceMask b).getLsbD k = x.isSome)
    (bytes : read16 (sentByte service b) i = opt16 x) (fits : ∀ v, x = some v → -32768 ≤ v ∧ v ≤ 32767) :
    whenPresent (presenceMask b) k (read16 (sentByte service b) i).toInt = x :=
  whenPresent_eq listed fun v hv => by rw [bytes, hv]; exact opt16_toInt (fits v hv)

theorem lastTrip_back : whenPresent (presenceMask b) 0 (sentByte service b 5, sentByte service b 6) = b.lastTrip :=
  whenPresent_eq (presenceMask_getLsbD b (by decide)) fun v hv => by
    show ((b.lastTrip.getD (0, 0)).1, (b.lastTrip.getD (0, 0)).2) = v
    rw [hv]; rfl

theorem ratedKw_back (fits : ∀ k, b.ratedKw = some k → k < 65536) :
    whenPresent (presenceMask b) 4 (read16 (sentByte service b) 17).toNat = b.ratedKw :=
  whenPresent_eq (presenceMask_getLsbD b (by decide)) fun v hv => by
    rw [read16_of_be16 (x := BitVec.ofNat 16 (b.ratedKw.getD 0)) rfl, hv]
    exact Nat.mod_eq_of_lt (fits v hv)

theorem feeder_back (fits : ∀ f, b.feeder = some f → f.1 < 256 ∧ f.2 < 65536) :
    whenPresent (presenceMask b) 5 ((sentByte service b 19).toNat, (read16 (sentByte service b) 20).toNat) =
      b.feeder :=
  whenPresent_eq (presenceMask_getLsbD b (by decide)) fun v hv => by
    have priority : sentByte service b 19 = BitVec.ofNat 8 (b.feeder.getD (0, 0)).1 := rfl
    rw [priority, read16_of_be16 (x := BitVec.ofNat 16 (b.feeder.getD (0, 0)).2) rfl, hv]
    exact Prod.ext (Nat.mod_eq_of_lt (fits v hv).1) (Nat.mod_eq_of_lt (fits v hv).2)

theorem lastRun_back (fits : ∀ x, b.lastRun = some x → x.circuit.isSome ∧ x.outcome.isSome) :
    whenPresent (presenceMask b) 8
      { circuit := runCircuitOfCode ((sentByte service b 35).extractLsb' 5 2),
        outcome := outcomeOfCode ((sentByte service b 35).extractLsb' 0 3),
        time := read32 (sentByte service b) 36 : ReportRun } = b.lastRun :=
  whenPresent_eq (presenceMask_getLsbD b (by decide)) fun v hv => by
    obtain ⟨circuit, outcome, time⟩ := sentByte_lastRun service b hv (fits v hv).1 (fits v hv).2
    rw [circuit, outcome, time]

theorem newestSeq_back : whenPresent (presenceMask b) 9 (read16 (sentByte service b) 41) = b.newestSeq :=
  whenPresent_eq (presenceMask_getLsbD b (by decide)) fun v hv => by
    rw [read16_of_be16 (x := b.newestSeq.getD 0) rfl, hv]; rfl

theorem echo_back (fits : ∀ e, b.echo = some e → e.result.isSome ∧ ∃ k, e.kind = some k ∧ k.toNat < 14) :
    whenPresent (presenceMask b) 10
      { origin := sentByte service b 43,
        kind := if (sentByte service b 44).toNat < requestKinds then some (sentByte service b 44) else none,
        result := resultOfCode (sentByte service b 45) : EchoBody } = b.echo :=
  whenPresent_eq (presenceMask_getLsbD b (by decide)) fun v hv => by
    obtain ⟨answered, k, kind, known⟩ := fits v hv
    obtain ⟨x, result⟩ := Option.isSome_iff_exists.1 answered
    have originByte : sentByte service b 43 = (b.echo.map fun e => e.origin).getD 0 := rfl
    have kindByte : sentByte service b 44 = (b.echo.bind fun e => e.kind).getD 0 := rfl
    have resultByte : sentByte service b 45 = ((b.echo.bind fun e => e.result).map fun r => r.code).getD 0 := rfl
    rw [originByte, kindByte, resultByte, hv]
    obtain ⟨origin, _, _⟩ := v
    cases kind
    cases result
    have listed : k.toNat < requestKinds := known
    simp [listed]

theorem echoDetail_back : ((whenPresent (presenceMask b) 11 ()).bind fun _ => detailOfCode (sentByte service b 47)) =
    b.echoDetail := by
  have bit : (presenceMask b).getLsbD 11 = b.echoDetail.isSome := presenceMask_getLsbD b (by decide)
  have byte : sentByte service b 47 = (b.echoDetail.map fun d => d.code).getD 0 := rfl
  rw [byte, whenPresent, bit]
  cases b.echoDetail <;> simp

/-! ### Fields that are always present -/

theorem csq_back {q : CsqState} (csq : b.csq = some q) (listed : q ∈ CsqState.inactive :: roleStates b.role) :
    csqOfCode b.role (sentByte service b 22) = b.csq := by
  have byte : sentByte service b 22 = (b.csq.getD .inactive).code := rfl
  rw [byte, csq]
  exact csqOfCode_code listed

theorem roleDetail_back (role : b.roleDetail.role = b.role)
    (monitored : ∀ m i t c, b.roleDetail = .incomer m i t c → m.isSome) :
    roleDetailOfCode b.role (sentByte service b 23) = b.roleDetail := by
  rw [← role]
  exact roleDetailOfCode_code b.roleDetail monitored

theorem counters_back :
    (⟨read16 (sentByte service b) 48, read16 (sentByte service b) 50, read16 (sentByte service b) 52,
      read16 (sentByte service b) 54, read16 (sentByte service b) 56⟩ : Counters) = b.counters := by
  rw [read16_of_be16 (x := b.counters.txErrors) rfl, read16_of_be16 (x := b.counters.rxCrc) rfl,
    read16_of_be16 (x := b.counters.rxFormat) rfl, read16_of_be16 (x := b.counters.overruns) rfl,
    read16_of_be16 (x := b.counters.dropped) rfl]

end payload

/-- The body of a report that fits is read back as it was sent. -/
theorem decodeBody_sentByte {service : StationState} {b : ReportBody}
    (fits : ReportFits { service := service, body := some b }) :
    decodeBody (sentByte service b) b.role (presenceMask b) = b := by
  obtain ⟨breaker, fLine, fBus, load, theta, slip, ratedKw, feeder, ⟨q, csq, listed⟩, role, monitored,
    ⟨c, claim, shown⟩, trip, close, lastRun, few, echo⟩ := fits.2 b rfl
  have flag {k : Nat} (h : k < 8) := sentByte_flags service b h
  have alarm {k : Nat} (h : k < 3) := sentByte_alarms service b h
  have mask {k : Nat} (h : k < 12) := presenceMask_getLsbD b h
  obtain ⟨-, -, sections⟩ := sentByte_head service b
  obtain ⟨breakerBack, line, bus⟩ := sentByte_states service b breaker
  obtain ⟨pickedUp, operated, held⟩ := sentByte_elements service b
  obtain ⟨tripBack, closeBack⟩ := sentByte_circuits service b trip close
  obtain ⟨recordsHeld, full⟩ := sentByte_records service b few
  have fLineBack := frequency_back service b (i := 7) (x := b.fLine) (mask (k := 1) (by decide))
    (read32_of_be32 rfl) fLine
  have fBusBack := frequency_back service b (i := 11) (x := b.fBus) (mask (k := 2) (by decide))
    (read32_of_be32 rfl) fBus
  have loadBack := signed_back service b (i := 15) (x := b.load) (mask (k := 3) (by decide)) (read16_of_be16 rfl) load
  have thetaBack := signed_back service b (i := 26) (x := b.theta) (mask (k := 6) (by decide))
    (read16_of_be16 rfl) theta
  have slipBack := signed_back service b (i := 28) (x := b.slip) (mask (k := 7) (by decide)) (read16_of_be16 rfl) slip
  rw [decodeBody, sections, flag (k := 7) (by decide), flag (k := 6) (by decide), flag (k := 5) (by decide),
    flag (k := 4) (by decide), flag (k := 3) (by decide), flag (k := 2) (by decide), flag (k := 1) (by decide),
    flag (k := 0) (by decide), breakerBack, line, bus, lastTrip_back, fLineBack, fBusBack, loadBack,
    ratedKw_back service b ratedKw, feeder_back service b feeder, csq_back service b csq listed,
    roleDetail_back service b role monitored, alarm (k := 0) (by decide), alarm (k := 1) (by decide),
    alarm (k := 2) (by decide), sentByte_claim service b claim shown, ← claim, thetaBack, slipBack, pickedUp, operated,
    held, tripBack, closeBack, lastRun_back service b lastRun, recordsHeld, full, newestSeq_back,
    echo_back service b echo, echoDetail_back, counters_back]
  rfl

/-- A report in SETTINGS_FAULT is its service state in 58 bytes; any other is sent with its body. -/
theorem encodeReport_length (r : Report) : (encodeReport r).length = 58 := by
  cases body : r.body <;> rw [encodeReport, body] <;> rfl

theorem decodeReport_encodeReport {r : Report} (fits : ReportFits r) : decodeReport (encodeReport r) = r := by
  obtain ⟨service, body⟩ := r
  cases body with
  | none =>
    obtain rfl : service = .settingsFault := fits.1.2 rfl
    rfl
  | some b =>
    have working : service ≠ .settingsFault := fun k => by cases fits.1.1 k
    obtain ⟨serviceBack, roleBack, -⟩ := sentByte_head service b
    show (if serviceOfCode ((sentByte service b 0).extractLsb' 0 3) = .settingsFault then _ else
      ({ service := serviceOfCode ((sentByte service b 0).extractLsb' 0 3),
         body := some (decodeBody (sentByte service b) (roleOfCode ((sentByte service b 0).extractLsb' 6 2))
           (read16 (sentByte service b) 3)) } : Report)) = _
    rw [serviceBack, if_neg working, roleBack, sentByte_mask, decodeBody_sentByte fits]

end Sys2Proof.Machine

open Sys2Proof Sys2Proof.Machine

/-- Settles O53: byte by byte, each field from its own place. -/
theorem reportsAreReadBackAsSent : Obligations.ReportsAreReadBackAsSent := by
  unfold Obligations.ReportsAreReadBackAsSent
  exact fun r fits => ⟨encodeReport_length r, decodeReport_encodeReport fits⟩

end

section
/-! PROOFS. CLAIM and CLAIM_WITHDRAW frames of another station (R111, R134, R139): the claim field of the sender's entry,
the yield to a lower number, and the end of a wait for a winner. -/

namespace Sys2Proof.Machine

/-- What changes no more than some fields changes no more than these and others. -/
theorem Only.widen {fs gs : List Fld} {s t : State} (k : Only fs s t) (wider : ∀ f ∈ fs, f ∈ gs) : Only gs s t :=
  ⟨fun f => (k.same f).imp_left (wider f)⟩

theorem Only.trans {fs : List Fld} {s t u : State} (h : Only fs s t) (k : Only fs t u) : Only fs s u :=
  ⟨fun f => (h.same f).elim .inl fun before => (k.same f).imp_right fun after => by
    cases f <;> exact Eq.trans after before⟩

/-- R107, R111: a CONFLICTED entry whose cleared flag is clear. -/
theorem Entry.barred_iff (e : Entry) :
    e.barred = true ↔ e.state = .conflicted ∧ ∀ c, e.conflict = some c → c.cleared = false := by
  cases h : e.conflict <;> simp [Entry.barred, h]

section frames
variable {s u : State} {n : StationNo} {c : ClaimField}

/-! ### The sender's entry (R111) -/

theorem claimFrame_of_barred (barred : (s.entry n).barred = true) : claimFrame n c s = s := if_pos barred

theorem claimFrame_ptb (recorded : (s.entry n).barred ≠ true) :
    (claimFrame n c s).ptb = { s.ptb with entries := s.ptb.entries.set n { s.ptb.entries[n] with claim := c } } := by
  rw [claimFrame, if_neg recorded, publishView_ptb]
  rfl

/-- The peer table takes the frame before the synchronizer does, and changes the entries and the ledger. -/
theorem claimFrame_only : Only [.ptb, .due] s (claimFrame n c s) :=
  Only.claimFrame n c (by decide) (by decide) Only.refl

@[simp] theorem claimFrame_sli : (claimFrame n c s).sli = s.sli := claimFrame_only.get .sli (by decide)
@[simp] theorem claimFrame_syn : (claimFrame n c s).syn = s.syn := claimFrame_only.get .syn (by decide)

/-! ### A line that stays busy -/

/-- What holds whether or not settings are in force. -/
theorem State.inForce_cases {p : State → Prop} {act : Settings → State → State} (idle : p s)
    (force : ∀ st, s.settings = some st → p (act st s)) : p (s.inForce act) := by
  cases set : s.settings with
  | none => rwa [State.inForce_none set]
  | some st => rw [State.inForce_some set]; exact force st set

section busy
variable {l : Sli} (busy : l.lineFree = false)
include busy

theorem Sli.touch_busy (slot : Slot) : (l.touch slot).lineFree = false := by
  unfold Sli.touch
  repeat' split
  all_goals exact busy

theorem Sli.placeClaim_busy (x : ClaimItem) : (l.placeClaim x).lineFree = false := by
  unfold Sli.placeClaim Sli.whenOnAir
  split
  · exact busy
  · exact Sli.touch_busy busy _

theorem Sli.giveUpClaim_busy : l.giveUpClaim.lineFree = false := by
  unfold Sli.giveUpClaim
  split
  · exact Sli.touch_busy busy _
  · exact Sli.placeClaim_busy busy _

end busy

section busy
variable (busy : s.sli.lineFree = false)
include busy

theorem giveUpClaim_busy : (giveUpClaim s).sli.lineFree = false := by
  unfold giveUpClaim
  split
  · exact Sli.giveUpClaim_busy busy
  · exact busy

theorem yieldTo_busy (claimants : List StationNo) : (yieldTo claimants s).sli.lineFree = false := giveUpClaim_busy busy

theorem judgeEligible_busy : (judgeEligible s).sli.lineFree = false := by
  unfold judgeEligible
  refine State.inForce_cases (p := fun v => v.sli.lineFree = false) busy fun st _ => ?_
  split
  · exact Sli.placeClaim_busy busy _
  · exact busy

theorem leaveYielded_busy : (leaveYielded s).sli.lineFree = false := judgeEligible_busy (s := s.withSyn s.syn.resume) busy

theorem lowerWinner_busy (claimants : List StationNo) : (lowerWinner claimants s).sli.lineFree = false := by
  unfold lowerWinner
  repeat' split
  all_goals exact busy

/-- A claim frame leaves the synchronizer and the link, or makes it yield, or gives it another winner to wait for. -/
theorem synClaimFrame_busy (sections : SectionSet) : (synClaimFrame n sections s).sli.lineFree = false := by
  unfold synClaimFrame
  refine State.inForce_cases (p := fun v => v.sli.lineFree = false) busy fun st _ => ?_
  cases s.syn.state
  case claiming =>
    cases s.syn.openClaim with
    | none => exact busy
    | some claim =>
      dsimp only
      split
      · exact yieldTo_busy busy _
      · exact busy
  case yielded =>
    dsimp only
    split
    · exact lowerWinner_busy busy _
    · exact busy
  all_goals exact busy

theorem synWithdrawFrame_busy : (synWithdrawFrame n s).sli.lineFree = false := by
  unfold synWithdrawFrame
  split
  · exact leaveYielded_busy busy
  · exact busy

end busy

/-! ### The yield (R134) -/

/-- The lowest of some numbers is none above the first. -/
theorem lowest_le_head (n : StationNo) (rest : List StationNo) : ∃ w, lowest (n :: rest) = some w ∧ w ≤ n := by
  rw [lowest]
  cases lowest rest with
  | none => exact ⟨n, rfl, le_rfl⟩
  | some m =>
    refine ⟨_, rfl, ?_⟩
    split
    · exact le_rfl
    · next below => exact not_lt.1 below

theorem yieldTo_syn {claim : Claim} (claimed : s.syn.claim = some claim) (claimants : List StationNo) :
    (yieldTo claimants s).syn = { s.syn.dropClaim.avrOff with
      state := .yielded, winner := lowest claimants, yieldTimer := s.after 2000 } := by
  simp only [yieldTo, giveUpClaim, claimed, Option.isSome_some, if_true]
  rfl

section claim
variable {st : Settings} {claim : Claim} {sections : SectionSet} (set : s.settings = some st)
include set

/-- A claim not yet WON yields to a lower number that claims a section of it. -/
theorem synClaimFrame_yields (claimed : s.syn.claim = some claim) (state : s.syn.state = .claiming)
    (open_ : claim.phase ≠ .won) (lower : n < s.sli.ownNumber) (overlaps : sections.overlaps claim.sections = true) :
    ∃ below, synClaimFrame n sections s = yieldTo (n :: below) s := by
  have openClaim : s.syn.openClaim = some claim := by simp [Syn.openClaim, claimed, open_]
  refine ⟨s.lowerClaims (s.wantedSections st.station) claim.sections s.sli.ownNumber, ?_⟩
  simp only [synClaimFrame, State.inForce_some set, state, openClaim, lower, overlaps, and_self, if_true]

/-- A claim WON, one of a lower number than the sender's, and one on other sections stand. -/
theorem synClaimFrame_stands (claimed : s.syn.claim = some claim) (state : s.syn.state = .claiming)
    (stands : claim.phase = .won ∨ s.sli.ownNumber < n ∨ sections.overlaps claim.sections = false) :
    synClaimFrame n sections s = s := by
  rw [synClaimFrame, State.inForce_some set]
  by_cases won : claim.phase = .won
  · have openClaim : s.syn.openClaim = none := by simp [Syn.openClaim, claimed, won]
    simp only [state, openClaim]
  · have openClaim : s.syn.openClaim = some claim := by simp [Syn.openClaim, claimed, won]
    have beaten : ¬ (n < s.sli.ownNumber ∧ sections.overlaps claim.sections = true) := by
      rintro ⟨lower, overlaps⟩
      obtain phase | higher | apart := stands
      · exact won phase
      · exact absurd lower (not_lt_of_gt higher)
      · exact Bool.false_ne_true (apart.symm.trans overlaps)
    simp only [state, openClaim, beaten, if_false]

theorem synClaimFrame_of_no_claim (state : s.syn.state ∈ ([.idle, .synchronizing, .syncFailed] : List SynState)) :
    synClaimFrame n sections s = s := by
  simp only [List.mem_cons, List.not_mem_nil, or_false] at state
  obtain state | state | state := state <;> simp only [synClaimFrame, State.inForce_some set, state]

end claim

/-! ### The end of a wait for a winner (R139) -/

/-- Eligibility judged leaves the synchronizer, or makes its claim. -/
theorem judgeEligible_syn (s : State) : (judgeEligible s).syn = s.syn ∨
    ∃ claim, (judgeEligible s).syn = { s.syn.avrOff with state := .claiming, claim := some claim } := by
  unfold judgeEligible
  refine State.inForce_cases (p := fun v => v.syn = s.syn ∨
    ∃ claim, v.syn = { s.syn.avrOff with state := .claiming, claim := some claim }) (.inl rfl) fun st _ => ?_
  dsimp only
  split
  · exact .inr ⟨_, rfl⟩
  · exact .inl rfl

theorem leaveYielded_syn (s : State) :
    ((leaveYielded s).syn.state = .synchronizing ∨ (leaveYielded s).syn.state = .claiming) ∧
      (leaveYielded s).syn.winner = none ∧ (leaveYielded s).syn.yieldTimer = none := by
  obtain stays | ⟨claim, claims⟩ := judgeEligible_syn (s.withSyn s.syn.resume)
  · rw [leaveYielded, stays]
    exact ⟨.inl rfl, rfl, rfl⟩
  · rw [leaveYielded, claims]
    exact ⟨.inr rfl, rfl, rfl⟩

theorem synWithdrawFrame_of_winner (state : s.syn.state = .yielded) (winner : s.syn.winner = some n) :
    synWithdrawFrame n s = leaveYielded s := if_pos ⟨state, winner⟩

theorem synWithdrawFrame_of_other (other : s.syn.state ≠ .yielded ∨ s.syn.winner ≠ some n) :
    synWithdrawFrame n s = s := if_neg fun ⟨state, winner⟩ => other.elim (· state) (· winner)

/-! ### The commands -/

/-- The end of a command that heard a claim frame: what it made of the peer table, the synchronizer and the link stands. -/
theorem done_of_claimFrame (k : Only [.sli, .ptb, .syn, .due] s u) (busy : u.sli.lineFree = false) :
    ∃ t, done s u = .next t ∧ t = { s with sli := t.sli, ptb := t.ptb, syn := t.syn, lsc := t.lsc, due := t.due } ∧
      t.sli = u.sli ∧ t.ptb = u.ptb ∧ t.syn = u.syn := by
  have written : Only [.sli, .ptb, .syn, .lsc, .due] s (publish s (settle u)) :=
    Only.publish s (by decide) (Only.settle (by decide) (by decide) (k.widen (by decide)))
  exact ⟨_, rfl, written.eq, by rw [publish_sli, settle_sli_of_busy busy], by simp, by simp⟩

/-- The entry after a claim frame, as the end of the command leaves it. -/
theorem claimFrame_entered (s : State) (n : StationNo) (c : ClaimField) :
    let e := s.ptb.entries[n]
    (e.barred = true → (claimFrame n c s.heard).ptb = s.ptb) ∧
      (e.barred ≠ true → (claimFrame n c s.heard).ptb =
        { s.ptb with entries := s.ptb.entries.set n { e with claim := c } }) :=
  ⟨fun barred => by rw [claimFrame_of_barred (s := s.heard) barred]; rfl, fun recorded =>
    claimFrame_ptb (s := s.heard) recorded⟩

theorem claimFrame_heard_sli : (claimFrame n c s.heard).sli = afterHearing s.sli := by
  rw [claimFrame_sli, ← Sli.hear_eq_afterHearing]
  rfl

theorem claimFrame_heard_only : Only [.sli, .ptb, .syn, .due] s (claimFrame n c s.heard) :=
  Only.claimFrame n c (by decide) (by decide) (Only.heard (by decide) Only.refl)

theorem synClaimFrame_ptb (sections : SectionSet) : (synClaimFrame n sections s).ptb = s.ptb :=
  (Only.synClaimFrame (fs := [.sli, .syn]) n sections (by decide) (by decide) Only.refl).get .ptb (by decide)

theorem synWithdrawFrame_ptb : (synWithdrawFrame n s).ptb = s.ptb :=
  (Only.synWithdrawFrame (fs := [.sli, .syn]) n (by decide) (by decide) Only.refl).get .ptb (by decide)

end frames

end Sys2Proof.Machine

open Sys2Proof Sys2Proof.Machine

/-- Settles O50: the peer table sets the sender's entry, then the synchronizer judges the frame by its own claim; the line
is busy, so that the end of the command begins nothing. -/
theorem claimFramesAreEnteredAndYieldedTo : Obligations.ClaimFramesAreEnteredAndYieldedTo := by
  unfold Obligations.ClaimFramesAreEnteredAndYieldedTo
  intro s st n sections set away watching other number
  refine ⟨?_, ?_⟩
  · obtain ⟨barred, recorded⟩ := claimFrame_entered s n (.claiming (sectionsOfByte sections))
    have sli : (claimFrame n (.claiming (sectionsOfByte sections)) s.heard).sli = afterHearing s.sli :=
      claimFrame_heard_sli
    have only : Only [.sli, .ptb, .syn, .due] s (claimFrame n (.claiming (sectionsOfByte sections)) s.heard) :=
      claimFrame_heard_only
    have now := only.get .localTime (by decide)
    have syn : (claimFrame n (.claiming (sectionsOfByte sections)) s.heard).syn = s.syn := claimFrame_syn
    have own : (claimFrame n (.claiming (sectionsOfByte sections)) s.heard).sli.ownNumber = s.sli.ownNumber := by
      rw [sli]; rfl
    have force := (only.get .settings (by decide)).trans set
    have effect : exec (.claimReceived n sections) s = done s (synClaimFrame n (sectionsOfByte sections)
        (claimFrame n (.claiming (sectionsOfByte sections)) s.heard)) :=
      congrArg (done s) (filtered_of_other away watching other number)
    generalize claimFrame n (.claiming (sectionsOfByte sections)) s.heard = v at *
    obtain ⟨t, run, written, link, table, synchronizer⟩ := done_of_claimFrame
      (Only.synClaimFrame n (sectionsOfByte sections) (by decide) (by decide) only)
      (synClaimFrame_busy (by rw [sli]; rfl) _)
    rw [synClaimFrame_ptb] at table
    refine ⟨t, effect.trans run, written, fun h => ?_, fun h => ?_, ?_, ?_, ?_⟩
    · rw [table, barred ((Entry.barred_iff _).2 h)]
    · rw [table, recorded fun b => h ((Entry.barred_iff _).1 b)]
    · intro claim claimed state open_ lower overlaps
      obtain ⟨below, yields⟩ := synClaimFrame_yields force (by rw [syn]; exact claimed) (by rw [syn]; exact state)
        open_ (by rw [own]; exact lower) overlaps
      rw [synchronizer, yields, yieldTo_syn (by rw [syn]; exact claimed), State.after, now]
      exact ⟨rfl, rfl, rfl, rfl, lowest_le_head n below⟩
    · intro claim claimed state stands
      have still := synClaimFrame_stands force (by rw [syn]; exact claimed) (by rw [syn]; exact state)
        (by rw [own]; exact stands)
      rw [synchronizer, link, still, syn, sli]
      exact ⟨rfl, rfl⟩
    · intro state
      have still := synClaimFrame_of_no_claim (n := n) (sections := sectionsOfByte sections) force
        (by rw [syn]; exact state)
      rw [synchronizer, link, still, syn, sli]
      exact ⟨rfl, rfl⟩
  · obtain ⟨barred, recorded⟩ := claimFrame_entered s n .withdrawn
    have sli : (claimFrame n .withdrawn s.heard).sli = afterHearing s.sli := claimFrame_heard_sli
    have only : Only [.sli, .ptb, .syn, .due] s (claimFrame n .withdrawn s.heard) := claimFrame_heard_only
    have syn : (claimFrame n .withdrawn s.heard).syn = s.syn := claimFrame_syn
    have effect : exec (.claimWithdrawReceived n) s = done s (synWithdrawFrame n (claimFrame n .withdrawn s.heard)) :=
      congrArg (done s) (filtered_of_other away watching other number)
    generalize claimFrame n .withdrawn s.heard = v at *
    obtain ⟨t, run, written, link, table, synchronizer⟩ := done_of_claimFrame
      (Only.synWithdrawFrame n (by decide) (by decide) only) (synWithdrawFrame_busy (by rw [sli]; rfl))
    rw [synWithdrawFrame_ptb] at table
    refine ⟨t, effect.trans run, written, fun h => ?_, fun h => ?_, fun state winner => ?_, fun waits => ?_⟩
    · rw [table, barred ((Entry.barred_iff _).2 h)]
    · rw [table, recorded fun b => h ((Entry.barred_iff _).1 b)]
    · rw [synchronizer, synWithdrawFrame_of_winner (by rw [syn]; exact state) (by rw [syn]; exact winner)]
      exact leaveYielded_syn v
    · rw [synchronizer, link, synWithdrawFrame_of_other (by rw [syn]; exact waits), syn, sli]
      exact ⟨rfl, rfl⟩

end

section
/-! PROOFS. The own report (R102 to R105): when it is placed, what the own record takes, and what the fields show. -/

namespace Sys2Proof.Machine

/-! ### What the fields show -/

/-- Bit n - 1 of a set of elements is element n's. -/
theorem elementSet_getLsbD (f : ElementNo → Bool) (e : ElementNo) :
    (elementSet f).getLsbD (elementNumber e - 1) = f e := by
  change BitVec.getLsbD (w := 1 + 1 + 1 + 1 + 1 + 1 + 1 + 1 + 1 + 1) (elementSet f) _ = _
  simp only [elementSet, BitVec.getLsbD_append]
  cases e <;> simp [elementNumber, elementIdx, bit1]

theorem Pes.pickedUpSet_iff (x : Pes) (e : ElementNo) :
    x.pickedUpSet.getLsbD (elementNumber e - 1) = true ↔ (x.el e).state ≠ .dropped := by
  simp [Pes.pickedUpSet, elementSet_getLsbD, Element.isPickedUp]

theorem Pes.operatedSet_iff (x : Pes) (e : ElementNo) :
    x.operatedSet.getLsbD (elementNumber e - 1) = true ↔ (x.el e).state = .operated := by
  simp [Pes.operatedSet, elementSet_getLsbD]

theorem Pes.heldFlag_iff (x : Pes) : x.heldFlag = true ↔ ∃ e, (x.el e).held = true := by
  have listed (e : ElementNo) : e ∈ allElements := by cases e <;> decide
  simp [Pes.heldFlag, listed]

/-- R103: slip is the difference of the frequencies. -/
theorem OwnMeasured.slip_of_both {m : OwnMeasured} {l f : Int} (line : m.fLine = some l) (bus : m.fBus = some f) :
    m.slip = some (l - f) := by
  simp [OwnMeasured.slip, line, bus]

theorem OwnMeasured.slip_of_none {m : OwnMeasured} (absent : m.fLine = none ∨ m.fBus = none) : m.slip = none := by
  unfold OwnMeasured.slip
  split
  · next line bus => simp [line, bus] at absent
  · rfl

section body
variable {s : State} {st : Settings} {q : OwnSequence} {m : OwnMeasured} (sequence : s.ptb.ownSequence = some q)
  (measured : s.ptb.ownMeasured = some m)
include sequence measured

/-- θ and slip are shown by an INCOMER in RETRANSFER. -/
theorem reportBody_retransfer (h : st.station.role = .incomer ∧ q.state = .retransfer) :
    (s.reportBody st).theta = m.theta ∧ (s.reportBody st).slip = m.slip := by
  simp [State.reportBody, sequence, measured, h.1, h.2]

theorem reportBody_of_no_retransfer (h : ¬ (st.station.role = .incomer ∧ q.state = .retransfer)) :
    (s.reportBody st).theta = none ∧ (s.reportBody st).slip = none := by
  simp [State.reportBody, sequence, measured, h]

end body

/-! ### A part taken, and the report placed on its change -/

/-- The command that took the station from `s` to `t` took a part of the own record, which left `v`, and placed a report
exactly when `fires` (R104). -/
structure PartTaken (s v t : State) (fires : Prop) : Prop where
  frame : t = { s with sli := t.sli, ptb := t.ptb, due := t.due, localTime := t.localTime }
  time : t.localTime = v.localTime
  ptb : t.ptb = { v.ptb with reportTimer := t.ptb.reportTimer }
  timer : fires → t.ptb.reportTimer = some (t.localTime + 20)
  offAir : fires → s.sli.conflict.isSome → t.sli = s.sli
  onAir : fires → s.sli.conflict = none → t.sli.reportSlot = some v.report
  kept : ¬ fires → t.sli = s.sli ∧ t.ptb.reportTimer = v.ptb.reportTimer

section taken
variable {s v w : State}

theorem Sli.placeReport_of_conflict {l : Sli} (x : Report) (conflict : l.conflict.isSome) : l.placeReport x = l :=
  if_pos conflict

theorem Sli.placeReport_slot {l : Sli} (x : Report) (free : l.conflict = none) :
    (l.placeReport x).reportSlot = some x := by
  simp [Sli.placeReport, Sli.whenOnAir, free]

theorem placeReport_of_working (away : s.ssc.station ≠ .start) :
    placeReport s = (s.withSli (s.sli.placeReport s.report)).withPtb { s.ptb with reportTimer := s.after 20 } :=
  if_neg away

/-- Where no report is placed, the end of the command changes nothing. -/
theorem partTaken_of_same (settled : Settled s) (k : Only [.localTime, .ptb, .due] s v) (published : Only [.due] v w) :
    PartTaken s v (publish s (settle w)) False := by
  have only : Only [.localTime, .ptb, .due] s w :=
    k.trans (published.widen (by decide))
  have quiet : Only quietFields s w := only.widen (by decide)
  have ends : publish s (settle w) = w := by
    rw [settle_of_settled (settled.of_quiet quiet), publish_of_quiet quiet]
  have sli : w.sli = s.sli := only.get .sli (by decide)
  have ptb : w.ptb = v.ptb := published.get .ptb (by decide)
  rw [ends]
  refine ⟨?_, published.get .localTime (by decide), by rw [ptb], False.elim, False.elim, False.elim,
    fun _ => ⟨sli, by rw [ptb]⟩⟩
  have written := only.eq
  rw [← sli] at written
  exact written

/-- A report placed begins its frame where the line stands free, and changes nothing else that the end of a command looks
at. -/
theorem partTaken_of_change (away : s.ssc.station ≠ .start) (settled : Settled s)
    (k : Only [.localTime, .ptb, .due] s v) (published : Only [.due] (placeReport v) w) :
    PartTaken s v (publish s (settle w)) True := by
  have ssc : v.ssc = s.ssc := k.get .ssc (by decide)
  have sli : v.sli = s.sli := k.get .sli (by decide)
  have placed := placeReport_of_working (s := v) (by rw [ssc]; exact away)
  have only : Only [.localTime, .sli, .ptb, .due] s w :=
    (Only.placeReport (by decide) (by decide) (k.widen (by decide))).trans (published.widen (by decide))
  have link : w.sli = s.sli.placeReport v.report := by
    rw [published.get .sli (by decide), placed, ← sli]
    rfl
  have table : w.ptb = { v.ptb with reportTimer := v.after 20 } := by
    rw [published.get .ptb (by decide), placed]
    rfl
  have now : w.localTime = v.localTime := by
    rw [published.get .localTime (by decide), placed]
    rfl
  have station : w.ssc = s.ssc := only.get .ssc (by decide)
  have zero : w.zeroHolds = s.zeroHolds :=
    zeroHolds_congr (only.get .settings (by decide)) (congrArg Ssc.station station)
      (congrArg Bkc.state (only.get .bkc (by decide))) (congrArg Syn.state (only.get .syn (by decide)))
  have lsc : (settle w).lsc = s.lsc := by
    have same : w.lsc = s.lsc := only.get .lsc (by decide)
    rw [settle_lsc, zero, same]
    split
    · next holds => exact settled.1 holds
    · rfl
  have ends : Only [.localTime, .sli, .ptb, .lsc, .due] s (publish s (settle w)) :=
    Only.publish s (by decide) (Only.settle (by decide) (by decide) (only.widen (by decide)))
  refine ⟨?_, by simp [now], by simp [table], fun _ => ?_, fun _ conflict => ?_, fun _ free => ?_,
    fun h => absurd trivial h⟩
  · have written := ends.eq
    rw [publish_lsc, lsc] at written
    exact written
  · simp [table, now, State.after]
  · rw [publish_sli]
    exact settle_sli_of_line settled.2 (congrArg Ssc.station station)
      (link.trans (Sli.placeReport_of_conflict _ conflict))
  · rw [publish_sli, (settle_slots w).2.2.2, link]
    exact Sli.placeReport_slot _ free

theorem PartTaken.of_iff {t : State} {p q : Prop} (h : PartTaken s v t p) (same : p ↔ q) : PartTaken s v t q := by
  rwa [← propext same]

/-- The part that was taken left `v`, and a change placed a report; the group view may be published besides. -/
theorem partTaken {fires : Bool} (away : s.ssc.station ≠ .start) (settled : Settled s)
    (k : Only [.localTime, .ptb, .due] s v) (published : Only [.due] (if fires then placeReport v else v) w) :
    PartTaken s v (publish s (settle w)) (fires = true) := by
  cases fires with
  | true => exact (partTaken_of_change away settled k published).of_iff (by simp)
  | false => exact (partTaken_of_same settled k published).of_iff (by simp)

end taken

/-! ### The commands -/

section commands
variable {s : State} (away : s.ssc.station ≠ .start) (settled : Settled s)
include away settled

theorem reportTimerExpiry_taken {due : Time} (timer : s.ptb.reportTimer = some due) :
    ∃ t, exec .reportTimerExpiry s = .next t ∧ PartTaken s (s.reach due) t True := by
  refine ⟨publish s (settle (placeReport (s.reach due))), ?_,
    partTaken_of_change away settled (Only.reach due (by decide) Only.refl) Only.refl⟩
  show done s (expire s.ptb.reportTimer s placeReport) = _
  rw [timer]
  rfl

theorem sequencePublication_taken {old : OwnSequence} (own : s.ptb.ownSequence = some old) :
    ∃ t, exec (.ptbSourcePublication .csq) s = .next t ∧
      PartTaken s ((s.take (.ptb .csq)).withPtb { s.ptb with ownSequence := some s.sequence }) t
        (old.state ≠ s.csq.state) := by
  have fires : s.ptb.ownSequence.all (fun q => q.state != s.sequence.state) = true ↔ old.state ≠ s.csq.state := by
    simp [own, State.sequence]
  have effect : exec (.ptbSourcePublication .csq) s = done s (takeSequence (s.take (.ptb .csq))) :=
    congrArg (done s) (if_neg away)
  exact ⟨_, effect, (partTaken away settled (Only.withPtb (by decide) (Only.take _ (by decide) Only.refl) _)
    Only.refl).of_iff fires⟩

theorem claimPublication_taken {old : ClaimField} (own : s.ptb.ownClaim = some old) :
    ∃ t, exec (.ptbSourcePublication .syn) s = .next t ∧
      PartTaken s ((s.take (.ptb .syn)).withPtb { s.ptb with ownClaim := some s.syn.claimField }) t
        (old ≠ s.syn.claimField) := by
  have fires : s.ptb.ownClaim.all (fun c => c != s.syn.claimField) = true ↔ old ≠ s.syn.claimField := by
    simp [own]
  have effect : exec (.ptbSourcePublication .syn) s = done s (takeClaim (s.take (.ptb .syn))) :=
    congrArg (done s) (if_neg away)
  exact ⟨_, effect, (partTaken away settled (Only.withPtb (by decide) (Only.take _ (by decide) Only.refl) _)
    Only.refl).of_iff fires⟩

theorem servicePublication_taken {old : StationState} (own : s.ptb.ownService = some old) :
    ∃ t, exec (.ptbSourcePublication .ssc) s = .next t ∧
      PartTaken s ((s.take (.ptb .ssc)).withPtb { s.ptb with ownService := some s.ssc.station }) t
        (old ≠ s.ssc.station) := by
  have fires : s.ptb.ownService.all (fun x => x != s.ssc.station) = true ↔ old ≠ s.ssc.station := by
    simp [own]
  have effect : exec (.ptbSourcePublication .ssc) s = done s (takeService (s.take (.ptb .ssc))) :=
    congrArg (done s) (if_neg away)
  exact ⟨_, effect, (partTaken away settled (Only.withPtb (by decide) (Only.take _ (by decide) Only.refl) _)
    Only.refl).of_iff fires⟩

/-- The table once the breaker part is taken, with the add mark of a passage into CLOSED (R110). -/
def breakerTaken (old : OwnBreaker) (s : State) : State :=
  let v := (s.take (.ptb .bkc)).withPtb { s.ptb with ownBreaker := some s.breakerReport }
  if old.state ≠ .closed ∧ s.bkc.state = .closed then addMark v else v

omit away settled in
theorem breakerTaken_of_close {old : OwnBreaker} (closes : old.state ≠ .closed ∧ s.bkc.state = .closed) :
    (breakerTaken old s).ptb.addMark = some s.localTime ∧
      ∀ n : Fin 32, (breakerTaken old s).ptb.entries[n].refresh = 0 := by
  rw [breakerTaken, if_pos closes]
  exact ⟨rfl, fun n => by simp [addMark]⟩

omit away settled in
theorem breakerTaken_of_no_close {old : OwnBreaker} (stays : ¬ (old.state ≠ .closed ∧ s.bkc.state = .closed)) :
    (breakerTaken old s).ptb = { s.ptb with ownBreaker := some s.breakerReport } := by
  rw [breakerTaken, if_neg stays]
  rfl

omit away settled in
theorem breakerTaken_ownBreaker (old : OwnBreaker) :
    (breakerTaken old s).ptb.ownBreaker = some s.breakerReport ∧
      (breakerTaken old s).ptb.reportTimer = s.ptb.reportTimer ∧ (breakerTaken old s).localTime = s.localTime := by
  unfold breakerTaken
  dsimp only
  split <;> exact ⟨rfl, rfl, rfl⟩

omit away settled in
theorem breakerTaken_only (old : OwnBreaker) : Only [.localTime, .ptb, .due] s (breakerTaken old s) := by
  unfold breakerTaken
  dsimp only
  split
  · exact Only.addMark (by decide) (Only.withPtb (by decide) (Only.take _ (by decide) Only.refl) _)
  · exact Only.withPtb (by decide) (Only.take _ (by decide) Only.refl) _

theorem breakerPublication_taken {old : OwnBreaker} (own : s.ptb.ownBreaker = some old) :
    ∃ t, exec (.ptbSourcePublication .bkc) s = .next t ∧
      PartTaken s (breakerTaken old s) t
        (old.state ≠ s.bkc.state ∨ old.lockout ≠ s.bkc.lockout ∨ old.bf ≠ s.bkc.bfFlag) := by
  have fires : s.ptb.ownBreaker.all (fun b => b.state != s.breakerReport.state || b.lockout != s.breakerReport.lockout ||
      b.bf != s.breakerReport.bf) = true ↔
      (old.state ≠ s.bkc.state ∨ old.lockout ≠ s.bkc.lockout ∨ old.bf ≠ s.bkc.bfFlag) := by
    simp [own, State.breakerReport, or_assoc]
  have closes : (s.ptb.ownBreaker.any (fun b => b.state != .closed) && s.breakerReport.state == .closed) = true ↔
      (old.state ≠ .closed ∧ s.bkc.state = .closed) := by
    simp [own, State.breakerReport]
  have effect : exec (.ptbSourcePublication .bkc) s = done s (takeBreaker (s.take (.ptb .bkc))) :=
    congrArg (done s) (if_neg away)
  refine ⟨_, effect, (partTaken away settled (breakerTaken_only old) ?_).of_iff fires⟩
  have taken : takeBreaker (s.take (.ptb .bkc)) = (if s.ptb.ownBreaker.all (fun b => b.state != s.breakerReport.state ||
      b.lockout != s.breakerReport.lockout || b.bf != s.breakerReport.bf) then placeReport (breakerTaken old s)
      else breakerTaken old s).publishView := by
    rw [breakerTaken, ← if_congr closes rfl rfl]
    rfl
  rw [taken]
  exact Only.publishView (by decide) Only.refl

omit away in
theorem measuredUpdate_taken {r : Record} (record : s.cme.record = some r) :
    exec .ptbMeasuredUpdate s = .next ((s.take .ptbRecord).withPtb { s.ptb with ownMeasured := some s.measured }) := by
  have effect : exec .ptbMeasuredUpdate s =
      done s ((s.take .ptbRecord).withPtb { s.ptb with ownMeasured := some s.measured }) := by
    show execPtbMeasuredUpdate s = _
    simp only [execPtbMeasuredUpdate, State.take_cme, record]
    rfl
  exact effect.trans (done_of_quiet settled (Only.withPtb (by decide) (Only.take _ (by decide) Only.refl) _))

end commands

end Sys2Proof.Machine

open Sys2Proof Sys2Proof.Machine

/-- Settles O51: a part taken places a report exactly at a change of one of the six fields, built from the own record as
it then stands. -/
theorem reportsArePlacedAtTimerAndChange : Obligations.ReportsArePlacedAtTimerAndChange := by
  unfold Obligations.ReportsArePlacedAtTimerAndChange
  intro s away settled built placed kept frame
  have built_of (v : State) (k : Only [.localTime, .ptb, .due] s v) {st b q c m} (breaker : v.ptb.ownBreaker = some b)
      (sequence : v.ptb.ownSequence = some q) (claim : v.ptb.ownClaim = some c)
      (measured : v.ptb.ownMeasured = some m) : built st b q c m (v.reportBody st) := by
    have pes : v.pes = s.pes := k.get .pes (by decide)
    refine ⟨?_, ?_, rfl, rfl, fun h => ?_, fun h => ?_, fun e => ⟨?_, ?_⟩, ?_⟩
    · have ssc : v.ssc = s.ssc := k.get .ssc (by decide)
      have cds : v.cds = s.cds := k.get .cds (by decide)
      have sli : v.sli = s.sli := k.get .sli (by decide)
      have drc : v.drc = s.drc := k.get .drc (by decide)
      simp only [State.reportBody, breaker, sequence, claim, measured, Option.getD_some, ssc, cds, sli, drc]
      rfl
    · simp [State.reportBody, measured]
    · obtain ⟨theta, slip⟩ := reportBody_retransfer sequence measured h
      exact ⟨theta, fun l line f bus => slip.trans (OwnMeasured.slip_of_both line bus), fun absent =>
        slip.trans (OwnMeasured.slip_of_none absent)⟩
    · exact reportBody_of_no_retransfer sequence measured h
    · exact pes ▸ v.pes.pickedUpSet_iff e
    · exact pes ▸ v.pes.operatedSet_iff e
    · exact pes ▸ v.pes.heldFlag_iff
  have placed_of {v t : State} {fires : Prop} (k : Only [.localTime, .ptb, .due] s v) (h : PartTaken s v t fires)
      (fired : fires) : placed t := by
    have settings : v.settings = s.settings := k.get .settings (by decide)
    have ssc : v.ssc = s.ssc := k.get .ssc (by decide)
    have sli : v.sli = s.sli := k.get .sli (by decide)
    refine ⟨h.timer fired, h.offAir fired, fun free => ⟨v.report, h.onAir fired free, ?_, fun fault => ?_,
      fun working set => ?_⟩⟩
    · rw [h.ptb, ← ssc]
      rfl
    · exact if_pos fault
    · obtain ⟨st, set⟩ := Option.isSome_iff_exists.1 set
      have shown : v.report.body = some (v.reportBody st) := (if_neg working).trans (by rw [settings, set]; rfl)
      rw [h.ptb]
      refine ⟨_, shown, fun x own => ?_, fun x own => ?_, fun x own => ?_, ?_, ?_⟩
      · simp [State.reportBody, show v.ptb.ownBreaker = some x from own]
      · simp [State.reportBody, show v.ptb.ownSequence = some x from own]
      · simp [State.reportBody, show v.ptb.ownClaim = some x from own]
      · simp [State.reportBody, sli]
      · intro st' set' b breaker q sequence c claim m measured
        obtain rfl : st = st' := Option.some.inj (set.symm.trans set')
        exact built_of v k breaker sequence claim measured
  refine ⟨fun due timer => ?_, fun old own => ?_, fun old own => ?_, fun old own => ?_, fun old own => ?_,
    fun r record => ?_⟩
  · obtain ⟨t, run, taken⟩ := reportTimerExpiry_taken away settled timer
    exact ⟨t, run, taken.frame, placed_of (Only.reach due (by decide) Only.refl) taken trivial, taken.time⟩
  · obtain ⟨t, run, taken⟩ := breakerPublication_taken away settled own
    obtain ⟨breaker, timer, now⟩ := breakerTaken_ownBreaker (s := s) old
    refine ⟨t, run, taken.frame, by rw [taken.ptb]; exact breaker, taken.time.trans now,
      placed_of (breakerTaken_only old) taken, fun state lockout bf => ?_, fun before after => ?_, fun stays => ?_⟩
    · obtain ⟨sli, still⟩ := taken.kept (by simp [state, lockout, bf])
      exact ⟨sli, still.trans timer⟩
    · rw [taken.ptb]
      exact breakerTaken_of_close ⟨before, after⟩
    · rw [taken.ptb, breakerTaken_of_no_close stays]
      exact ⟨rfl, rfl⟩
  · obtain ⟨t, run, taken⟩ := sequencePublication_taken away settled own
    have sequence : t.ptb.ownSequence = some s.sequence := by rw [taken.ptb]; rfl
    refine ⟨t, run, taken.frame, fun st set => ?_, sequence,
      placed_of (Only.withPtb (by decide) (Only.take _ (by decide) Only.refl) _) taken, fun same => ?_⟩
    · rw [sequence, State.sequence, show s.role = st.station.role by simp [State.role, set]]
      rfl
    · exact taken.kept (not_not.2 same)
  · obtain ⟨t, run, taken⟩ := claimPublication_taken away settled own
    refine ⟨t, run, taken.frame, by rw [taken.ptb]; rfl,
      placed_of (Only.withPtb (by decide) (Only.take _ (by decide) Only.refl) _) taken, fun same => ?_⟩
    exact taken.kept (not_not.2 same)
  · obtain ⟨t, run, taken⟩ := servicePublication_taken away settled own
    refine ⟨t, run, taken.frame, by rw [taken.ptb]; rfl,
      placed_of (Only.withPtb (by decide) (Only.take _ (by decide) Only.refl) _) taken, fun same => ?_⟩
    exact taken.kept (not_not.2 same)
  · refine ⟨_, measuredUpdate_taken settled record, rfl, rfl, ?_⟩
    simp [State.measured, record]

end

section
/-! PROOFS. A delivery that waits goes on waiting: the blocks that a recorded report reaches, and the end of the command,
only add to the ledger (notes/assumptions/3). -/

namespace Sys2Proof.Machine

/-- What waited in `s` waits in `t`. -/
def Waits (s t : State) : Prop := ∀ d ∈ s.due, d ∈ t.due

section waits
variable {s t u : State}

theorem Waits.refl : Waits s s := fun _ h => h

theorem Waits.trans (h : Waits s t) (k : Waits t u) : Waits s u := fun d hd => k d (h d hd)

theorem Waits.of_eq (h : t.due = s.due) : Waits s t := fun _ hd => h ▸ hd

/-- The fields besides the ledger. -/
def besidesLedger : List Fld :=
  [.localTime, .pins, .settings, .siu, .cme, .pes, .bkc, .cds, .sli, .ptb, .syn, .lsc, .csq, .drc, .ssc, .freeCount,
    .pending]

theorem Waits.of_only (k : Only besidesLedger s t) : Waits s t := .of_eq (k.get .due (by decide))

theorem Waits.send (d : Delivery) : Waits s (s.send d) := fun _ => List.mem_append_left _

theorem Waits.sendAll (ds : List Delivery) : Waits s (s.sendAll ds) := fun _ => List.mem_append_left _

theorem Waits.notify (d : Delivery) : Waits s (s.notify d) := fun _ h => State.mem_notify_due.2 (.inl h)

theorem Waits.notifyAll (ds : List Delivery) : Waits s (s.notifyAll ds) := fun _ h => State.mem_notifyAll_due.2 (.inl h)

theorem Waits.inForce {act : Settings → State → State} (ha : ∀ st, Waits s (act st s)) : Waits s (s.inForce act) :=
  State.inForce_cases (p := Waits s) .refl fun st _ => ha st

end waits

/-! ### The sequence that a trip reaches (R172) -/

section sequence
variable (s : State) (st : Settings)

theorem waits_sequenceOpen : Waits s (sequenceOpen s) := .send _

theorem waits_withdrawRequest : Waits s (withdrawRequest s) := by
  have withdrawn : Waits s (synWithdraw s) := by
    unfold synWithdraw endTold
    split
    · split
      · exact (Waits.of_only (Only.endRequest .cancelled (by decide) (by decide) Only.refl)).trans (.send _)
      · exact .refl
    · exact .refl
  exact withdrawn

theorem waits_incomerMonitor : Waits s (incomerMonitor st s) := by
  have reopens : Waits s (returnOrLost st (sequenceOpen s)) :=
    (waits_sequenceOpen s).trans (.of_only (Only.returnOrLost st (by decide) Only.refl))
  unfold incomerMonitor
  split
  · split
    · exact reopens
    · exact .refl
  · split
    · exact reopens
    · exact .refl
  · split
    · exact .of_only (Only.returnOrLost st (by decide) Only.refl)
    · exact .refl
  · exact .refl

theorem waits_generatorReady : Waits s (generatorReady st s) := by
  unfold generatorReady
  split
  · exact .refl
  · split
    · exact (waits_withdrawRequest s).trans (.of_only (Only.toCooldown st (by decide) Only.refl))
    · split
      · exact .of_only (Only.handRequest (by decide) (by decide) (by decide) Only.refl)
      · exact .refl

theorem waits_tieTest : Waits s (tieTest st s) := by
  unfold tieTest
  split
  · split
    · exact .of_only (Only.handRequest (by decide) (by decide) (by decide) (Only.withCsq (by decide) Only.refl _))
    · exact .refl
  · split
    · exact (waits_withdrawRequest s).trans (.of_only (Only.tieOpened (by decide) Only.refl))
    · exact .refl
  · exact .refl

theorem waits_feederRestore : Waits s (feederRestore st s) := by
  unfold feederRestore
  split
  · exact .send _
  · exact .refl

theorem waits_csqTick : Waits s (csqTick st s) := by
  unfold csqTick
  split
  · split
    · exact (waits_incomerMonitor s st).trans (.of_only (Only.incomerHand (by decide) (by decide) (by decide)
        (Only.incomerRunOut st (by decide) (by decide) (by decide) Only.refl)))
    · have starting : Waits s (generatorStarting st s) := .of_only (Only.generatorStarting st (by decide) Only.refl)
      exact (starting.trans (waits_generatorReady _ st)).trans
        (.of_only (Only.generatorShown (by decide) (Only.generatorDelay st (by decide) Only.refl)))
    · exact waits_tieTest s st
    · exact waits_feederRestore s st
  · exact .refl

theorem waits_tellTrip : Waits s (tellTrip s) := by
  refine Waits.inForce fun st => Waits.trans ?_ (waits_csqTick _ st)
  unfold whenRunning
  split
  · dsimp only
    split
    · exact .refl
    · exact .refl
  · exact .refl

end sequence

/-! ### The PES (R35, R38) -/

section protection
variable (s : State)

theorem waits_operate (station : StationState) (c : TripCause) : Waits s (operate station c s) := by
  unfold operate
  split
  · exact .send _
  · have claimed : Waits s ((s.withSli (s.sli.placeNotice c)).send (.tripClaim c.element c.detail)) :=
      (Waits.of_eq rfl).trans (.send _)
    exact (claimed.trans (.send _)).trans (waits_tellTrip _)

theorem waits_pesFinish (station : StationState) (before : Pes) (claim : Option TripCause) :
    Waits s (pesFinish station before claim s) := by
  unfold pesFinish
  split
  · exact waits_operate s _ _
  · exact .send _
  · exact .refl

theorem waits_takeTransfer (st : Settings) (n : StationNo) (sections : SectionSet) :
    Waits s (takeTransfer st n sections s) := by
  have finished (x : Pes) (claim : Option TripCause) :
      Waits s (pesFinish s.ssc.station s.pes claim (s.withPes x)) :=
    (Waits.of_eq (t := s.withPes x) rfl).trans (waits_pesFinish _ _ _ _)
  unfold takeTransfer
  split
  · exact finished _ _
  · split
    · dsimp only
      split
      · exact finished _ _
      · exact finished _ _
    · exact .refl

theorem waits_transferReport (n : StationNo) (body : Option ReportBody) : Waits s (transferReport n body s) := by
  refine Waits.inForce fun st => ?_
  split
  · exact .refl
  · split
    · refine Waits.trans ?_ (.notify _)
      split
      · exact waits_takeTransfer s st n _
      · exact .of_only (Only.removeOrigin n (by decide) Only.refl)
    · exact .refl

end protection

/-! ### The end of the command -/

theorem waits_publish (old s : State) : Waits s (publish old s) := by
  have breaker : Waits s (publishBreaker old s) := by
    unfold publishBreaker
    split
    · exact .refl
    · exact .notifyAll _
  have station (v : State) : Waits v (publishStation old v) := by
    unfold publishStation
    split
    · exact .refl
    · exact (Waits.sendAll _).trans (.notify _)
  have sequence (v : State) : Waits v (publishSequence old v) := by
    unfold publishSequence
    split
    · exact .refl
    · exact .notify _
  have syn (v : State) : Waits v (publishSyn old v) := by
    unfold publishSyn
    split
    · exact .refl
    · exact .notifyAll _
  have lsc (v : State) : Waits v (publishLsc old v) := by
    unfold publishLsc
    split
    · exact .refl
    · exact .notify _
  exact (((breaker.trans (station _)).trans (sequence _)).trans (syn _)).trans (lsc _)

theorem waits_done (old s : State) : Waits s (publish old (settle s)) :=
  (Waits.of_eq (settle_due s)).trans (waits_publish _ _)

end Sys2Proof.Machine
end

section
/-! PROOFS. The peer entries (R106 to R113): what a report, an expiry and a CONFLICT frame make of one. -/

namespace Sys2Proof.Machine

/-! ### What a report shows -/

theorem Report.closed_iff (r : Report) : r.closed = true ↔ ∃ b, r.body = some b ∧ b.breaker = some .closed := by
  simp [Report.closed, Option.any_eq_true]

/-- An entry's report contents, when it holds a role, have a property. -/
def Entry.Shows (e : Entry) (p : ReportBody → Prop) : Prop := ∃ r, e.report = some r ∧ ∃ b, r.body = some b ∧ p b

theorem Entry.shows_iff (e : Entry) (p : ReportBody → Prop) : e.Shows p ↔ ∃ b, e.body = some b ∧ p b := by
  simp only [Entry.Shows, Entry.body, Option.bind_eq_some_iff]
  exact ⟨fun ⟨r, hr, b, hb, k⟩ => ⟨b, ⟨r, hr, hb⟩, k⟩, fun ⟨b, ⟨r, hr, hb⟩, k⟩ => ⟨r, hr, b, hb, k⟩⟩

theorem Entry.showsClosed_iff (e : Entry) :
    e.showsClosed = true ↔ e.Shows fun b => b.breaker = some .closed := by
  simp [Entry.showsClosed, Entry.breaker, Entry.shows_iff, Option.bind_eq_some_iff]

theorem Entry.marks_iff (e : Entry) (r : Report) : e.marks r = true ↔
    r.closed = true ∧ (∃ b, r.body = some b ∧ b.role = .feeder) ∧ ¬ e.showsClosed = true := by
  simp [Entry.marks, and_assoc, Option.any_eq_true]

section contents
variable {e : Entry} {r : Report} {now : Time}

/-- The claim field that a report shows, NONE where it shows none. -/
theorem Entry.take_claim_of_field {b : ReportBody} {x : ClaimField} (body : r.body = some b) (claim : b.claim = some x) :
    (e.take r now).claim = x := by
  simp [Entry.take, body, claim]

theorem Entry.take_claim_of_none (body : r.body = none) : (e.take r now).claim = .none := by
  simp [Entry.take, body]

/-- R109: the breaker-closed time is absent, taken, or kept. -/
theorem Entry.take_closedTime_of_not_closed (h : ¬ r.closed = true) : (e.take r now).closedTime = none := if_neg h

theorem Entry.take_closedTime_of_close (h : r.closed = true) (before : ¬ e.showsClosed = true) :
    (e.take r now).closedTime = some now := by
  simp [Entry.take, Entry.closedTimeAfter, h, before]

theorem Entry.take_closedTime_of_closed {x : Time} (h : r.closed = true) (before : e.showsClosed = true)
    (time : e.closedTime = some x) : (e.take r now).closedTime = some x := by
  simp [Entry.take, Entry.closedTimeAfter, h, before, time]

end contents

/-! ### The table after a report (R107, R110) -/

section table
variable {s : State} {n : StationNo} {r : Report} (recorded : (s.entry n).barred = false)
include recorded

theorem takeReport_ptb : (takeReport n r s).ptb =
    ((if (s.entry n).marks r then addMark s else s).setEntry n
      ((if (s.entry n).marks r then { s.entry n with refresh := 0 } else s.entry n).take r s.localTime)).ptb := by
  rw [takeReport, if_neg (by simp [recorded]), publishView_ptb]
  cases (s.entry n).marks r with
  | true => simp only [if_true, addMark_entry, addMark_localTime]
  | false => rfl

theorem takeReport_of_mark (marks : (s.entry n).marks r = true) :
    (takeReport n r s).entry n = { (s.entry n).take r s.localTime with refresh := 1 } ∧
      (takeReport n r s).ptb.addMark = some s.localTime ∧
      ∀ m, m ≠ n → (takeReport n r s).entry m = { s.entry m with refresh := 0 } := by
  have table := takeReport_ptb (r := r) recorded
  rw [if_pos marks, if_pos marks] at table
  refine ⟨?_, by rw [table]; rfl, fun m apart => ?_⟩
  · rw [State.entry, table]
    exact State.entry_setEntry_same
  · rw [State.entry, table]
    exact (State.entry_setEntry_ne apart).trans addMark_entry

theorem takeReport_of_no_mark (marks : (s.entry n).marks r = false) :
    (takeReport n r s).entry n = (s.entry n).take r s.localTime ∧
      (takeReport n r s).ptb.addMark = s.ptb.addMark ∧
      ∀ m, m ≠ n → (takeReport n r s).entry m = s.entry m := by
  have table := takeReport_ptb (r := r) recorded
  rw [marks] at table
  refine ⟨?_, by rw [table]; rfl, fun m apart => ?_⟩
  · rw [State.entry, table]
    exact State.entry_setEntry_same
  · rw [State.entry, table]
    exact State.entry_setEntry_ne apart

theorem takeReport_entry_eq :
    ∃ k, (takeReport n r s).entry n = { (s.entry n).take r s.localTime with refresh := k } := by
  cases marks : (s.entry n).marks r with
  | true => exact ⟨_, (takeReport_of_mark recorded marks).1⟩
  | false => exact ⟨_, (takeReport_of_no_mark recorded marks).1⟩

/-- The own record stands, and the group view is published (R119). -/
theorem takeReport_rest : (takeReport n r s).ptb.ownBreaker = s.ptb.ownBreaker ∧
    (takeReport n r s).ptb.reportTimer = s.ptb.reportTimer := by
  rw [takeReport_ptb recorded]
  cases (s.entry n).marks r <;> exact ⟨rfl, rfl⟩

end table

/-- The group view is published to its three readers (R119). -/
def ViewShown (t : State) : Prop := .synView ∈ t.due ∧ .lscView ∈ t.due ∧ .csqView ∈ t.due

theorem viewShown_publishView (v : State) : ViewShown v.publishView := by
  simp [ViewShown, State.publishView, State.mem_notifyAll_due]

theorem ViewShown.of_waits {s t : State} (h : ViewShown s) (k : Waits s t) : ViewShown t :=
  ⟨k _ h.1, k _ h.2.1, k _ h.2.2⟩

/-! ### REPORT_RECEIVED -/

section report
variable {s : State} {n : StationNo} {payload : Vector Byte 58} (away : s.ssc.station ≠ .start)
  (watching : s.sli.watching = true) (other : n ≠ s.sli.ownNumber) (number : n ≠ 0)
include away watching other number

/-- A report for a CONFLICTED entry not cleared leaves the link that heard it and nothing else. -/
theorem exec_reportReceived_of_barred (settled : Settled s) (barred : (s.ptb.entries[n]).barred = true) :
    ∃ t, exec (.reportReceived n payload) s = .next t ∧ t = { s with sli := afterHearing s.sli, due := t.due } := by
  have discarded : filtered n (reportHeard n (decodeReport payload.toList)) s = s.withSli (afterHearing s.sli) := by
    rw [filtered_of_other away watching other number, reportHeard, if_pos (show (s.heard.entry n).barred = true from
      barred), State.heard, Sli.hear_eq_afterHearing]
  exact ⟨_, congrArg (done s) discarded, publish_busy settled.1 rfl⟩

/-- A recorded report leaves the table as the PTB set it, whatever the PES makes of the report. -/
theorem exec_reportReceived_recorded (recorded : (s.ptb.entries[n]).barred = false) :
    ∃ t, exec (.reportReceived n payload) s = .next t ∧
      Only [.sli, .ptb, .pes, .csq, .syn, .lsc, .ssc, .freeCount, .due] s t ∧
      t.ptb = (takeReport n (decodeReport payload.toList) s.heard).ptb ∧ ViewShown t := by
  generalize hr : decodeReport payload.toList = r
  have taken : Only [.sli, .ptb, .pes, .csq, .syn, .lsc, .ssc, .freeCount, .due] s (takeReport n r s.heard) :=
    Only.takeReport n r (by decide) (by decide) (Only.heard (by decide) Only.refl)
  have ptb : (transferReport n r.body (takeReport n r s.heard)).ptb = (takeReport n r s.heard).ptb :=
    (Only.transferReport (fs := [.csq, .due, .pes, .sli, .syn]) n r.body (by decide) (by decide) (by decide)
      (by decide) (by decide) Only.refl).get .ptb (by decide)
  have shown : ViewShown (takeReport n r s.heard) := by
    rw [takeReport, if_neg (show ¬ (s.heard.entry n).barred = true by
      rw [show s.heard.entry n = s.ptb.entries[n] from rfl, recorded]; exact Bool.false_ne_true)]
    exact viewShown_publishView _
  refine ⟨_, exec_reportReceived hr away watching other number recorded, ?_, by simp [ptb],
    (shown.of_waits (waits_transferReport _ n r.body)).of_waits (waits_done _ _)⟩
  exact Only.publish s (by decide) (Only.settle (by decide) (by decide)
    (Only.transferReport n r.body (by decide) (by decide) (by decide) (by decide) (by decide) taken))

end report

/-! ### Expiries (R108, R113) -/

section expiry
variable {s : State} {n : StationNo}

/-- The end of an expiry that sets one entry and publishes the group view. -/
theorem entryExpiry_done (settled : Settled s) (due : Time) (e : Entry) :
    ∃ t, done s (((s.reach due).setEntry n e).publishView) = .next t ∧
      t = { s with ptb := t.ptb, localTime := (s.reach due).localTime, due := t.due } ∧
      t.ptb = { s.ptb with entries := s.ptb.entries.set n e } ∧ ViewShown t := by
  have only : Only [.localTime, .ptb, .due] s (((s.reach due).setEntry n e).publishView) :=
    Only.publishView (by decide) (Only.setEntry n e (by decide) (Only.reach due (by decide) Only.refl))
  have quiet : Only quietFields s (((s.reach due).setEntry n e).publishView) := only.widen (by decide)
  have now : (((s.reach due).setEntry n e).publishView).localTime = (s.reach due).localTime := by
    simp [State.publishView]
  refine ⟨_, done_of_quiet settled quiet, ?_, ?_, viewShown_publishView _⟩
  · have written := only.eq
    rw [now] at written
    exact written
  · rw [publishView_ptb, State.setEntry, State.reach_ptb]
    rfl

theorem exec_freshnessTimerExpiry {due : Time} (timer : s.ptb.entries[n].freshTimer = some due) :
    exec (.freshnessTimerExpiry n) s = done s (((s.reach due).setEntry n { s.ptb.entries[n] with
      freshTimer := none
      state := if s.ptb.entries[n].state = .fresh then .stale else s.ptb.entries[n].state }).publishView) := by
  show done s (expire (s.entry n).freshTimer s _) = _
  rw [show (s.entry n).freshTimer = some due from timer, expire_some, State.entry_reach]
  rfl

theorem exec_lossTimerExpiry {due : Time} (timer : s.ptb.entries[n].lossTimer = some due) :
    exec (.lossTimerExpiry n) s = done s (((s.reach due).setEntry n { s.ptb.entries[n] with
      lossTimer := none, freshTimer := none
      state := if s.ptb.entries[n].present then .lost else s.ptb.entries[n].state }).publishView) := by
  show done s (expire (s.entry n).lossTimer s _) = _
  rw [show (s.entry n).lossTimer = some due from timer, expire_some, State.entry_reach]
  rfl

theorem exec_conflictClearExpiry {k : ConflictRecord} {due : Time} (conflict : s.ptb.entries[n].conflict = some k)
    (timer : k.clearTimer = some due) (state : s.ptb.entries[n].state = .conflicted) :
    exec (.conflictClearExpiry n) s = done s (((s.reach due).setEntry n { s.ptb.entries[n] with
      conflict := some { time := k.time, cleared := true, clearTimer := none } }).publishView) := by
  have record : (s.entry n).conflict = some k := conflict
  have conflicted : (s.entry n).state = .conflicted := state
  show done s (expire ((s.entry n).conflict.bind fun c => c.clearTimer) s _) = _
  rw [record, Option.bind_some, timer, expire_some, clearConflict, State.entry_reach, if_pos conflicted, record]
  rfl

theorem Entry.present_iff (e : Entry) : e.present = true ↔ e.state = .fresh ∨ e.state = .stale := by
  simp [Entry.present]

/-! ### A CONFLICT frame that contests another number (R112) -/

theorem conflictHeard_of_other {identity : BitVec 48} (number : n ≠ 0) (other : n ≠ s.sli.ownNumber) :
    conflictHeard identity (BitVec.ofNat 8 n.val) s = conflictFrame n s := by
  have byte : (BitVec.ofNat 8 n.val).toNat = n.val := by
    rw [BitVec.toNat_ofNat]
    omega
  have positive : n.val ≠ 0 := fun k => number (Fin.ext k)
  have station : ¬ (n.val = 0 ∨ 31 < n.val) := by omega
  rw [conflictHeard, byte, if_neg station, if_neg fun k => other (Fin.ext k), Fin.ofNat_val_eq_self]

theorem conflictReceived_done {identity : BitVec 48} (settled : Settled s) (away : s.ssc.station ≠ .start)
    (watching : s.sli.watching = true) (number : n ≠ 0) (other : n ≠ s.sli.ownNumber) :
    ∃ t, exec (.conflictReceived identity (BitVec.ofNat 8 n.val)) s = .next t ∧
      t = { s with ptb := t.ptb, sli := afterHearing s.sli, due := t.due } ∧
      t.ptb = { s.ptb with entries := s.ptb.entries.set n (s.ptb.entries[n].markConflict s.localTime) } ∧
      ViewShown t ∧ .pesConflict n ∈ t.due := by
  have effect : exec (.conflictReceived identity (BitVec.ofNat 8 n.val)) s = done s (conflictFrame n s.heard) := by
    show done s (s.hearing _) = _
    rw [State.hearing_of_watching away watching, conflictHeard_of_other number (show n ≠ s.heard.sli.ownNumber from
      other)]
  have only : Only [.sli, .ptb, .due] s (conflictFrame n s.heard) :=
    Only.conflictFrame n (by decide) (by decide) (Only.heard (by decide) Only.refl)
  have sli : (conflictFrame n s.heard).sli = afterHearing s.sli := by
    simp [conflictFrame, State.publishView, State.heard, ← Sli.hear_eq_afterHearing]
  have table : (conflictFrame n s.heard).ptb =
      { s.ptb with entries := s.ptb.entries.set n (s.ptb.entries[n].markConflict s.localTime) } := publishView_ptb _
  have shown : ViewShown (conflictFrame n s.heard) := viewShown_publishView _
  have told : .pesConflict n ∈ (conflictFrame n s.heard).due := by
    simp [conflictFrame, State.publishView, State.mem_notifyAll_due]
  have ends : settle (conflictFrame n s.heard) = conflictFrame n s.heard :=
    settle_of_busy settled.1 (only.get .lsc (by decide))
      (zeroHolds_congr (only.get .settings (by decide)) (congrArg Ssc.station (only.get .ssc (by decide)))
        (congrArg Bkc.state (only.get .bkc (by decide))) (congrArg Syn.state (only.get .syn (by decide))))
      (by rw [sli]; rfl)
  refine ⟨_, effect, ?_, by simp [table], shown.of_waits (waits_done _ _), waits_done _ _ _ told⟩
  have written := (Only.publish s (by decide) only).eq
  rw [ends]
  rw [publish_sli, sli] at written
  exact written

end expiry

end Sys2Proof.Machine
end

section
/-! PROOFS. The group view (R115 to R118): the joined flag, the group sections, and the members of each derived set. -/

namespace Sys2Proof.Machine

/-! ### What a member's report shows -/

theorem BreakerState.countsClosed_iff (x : BreakerState) :
    x.countsClosed = true ↔ x ∈ ([.closed, .opening, .stuckClosed, .discrepant] : List BreakerState) := by
  cases x <;> decide

theorem SectionSet.overlaps_iff (x y : SectionSet) :
    x.overlaps y = true ↔ (x.a = true ∧ y.a = true) ∨ (x.b = true ∧ y.b = true) := by
  simp [SectionSet.overlaps]

/-- The breaker state that a report shows counts as closed (R115). -/
def ReportBody.Shut (b : ReportBody) : Prop :=
  ∃ y, b.breaker = some y ∧ y ∈ ([.closed, .opening, .stuckClosed, .discrepant] : List BreakerState)

/-- A report shows a section of a set; a TIE shows both (R117). -/
def ReportBody.InSections (b : ReportBody) (x : SectionSet) : Prop :=
  if b.role = .tie then x.a = true ∨ x.b = true
  else (b.sections.a = true ∧ x.a = true) ∨ (b.sections.b = true ∧ x.b = true)

theorem ReportBody.shownSections_iff (b : ReportBody) (x : SectionSet) :
    b.shownSections.overlaps x = true ↔ b.InSections x := by
  rw [ReportBody.shownSections, ReportBody.InSections]
  by_cases tie : b.role = .tie
  · simp [tie, SectionSet.overlaps, SectionSet.both]
  · simp [tie, SectionSet.overlaps_iff]

section body
variable {m : Member} {b : ReportBody} (body : m.entry.body = some b)
include body

theorem Member.hasRole_iff (r : Role) : m.hasRole r = true ↔ b.role = r := by simp [Member.hasRole, body]

theorem Member.closed_iff : m.closed = true ↔ b.Shut := by
  simp only [ReportBody.Shut, ← BreakerState.countsClosed_iff]
  simp [Member.closed, countsClosed?, Entry.breaker, body, Option.any_eq_true]

theorem Member.csq_iff (x : CsqState) : (m.csq == some x) = true ↔ b.csq = some x := by simp [Member.csq, body]

theorem Member.priority_isSome : m.priority.isSome = b.feeder.isSome := by simp [Member.priority, body]

end body

/-- A Boolean test of a member's report that only a report can pass. -/
theorem Entry.any_iff_shows {e : Entry} {q : Bool} {p : ReportBody → Prop} (without : e.body = none → q = false)
    (within : ∀ b, e.body = some b → (q = true ↔ p b)) : q = true ↔ e.Shows p := by
  rw [e.shows_iff]
  cases body : e.body with
  | none => simp [without body]
  | some b => simp [within b body]

/-! ### Lists of members -/

/-- A FRESH or STALE entry of another station. -/
def State.Present (s : State) (n : StationNo) : Prop :=
  n ≠ 0 ∧ n ≠ s.sli.ownNumber ∧ (s.ptb.entries[n].state = .fresh ∨ s.ptb.entries[n].state = .stale)

/-- A list of exactly the members whose numbers have a property, each once with its entry. -/
def State.Lists (s : State) (l : List Member) (p : StationNo → Prop) : Prop :=
  (∀ n, p n ↔ ∃ m ∈ l, m.number = n) ∧ (∀ m ∈ l, m.entry = s.ptb.entries[m.number]) ∧
    (l.map fun m => m.number).Nodup

/-- The numbers rise. -/
def Rising (l : List Member) : Prop := l.Pairwise fun m k => m.number < k.number

section lists
variable {s : State} {l k : List Member} {p q : StationNo → Prop} {x : SectionSet}

theorem State.Lists.congr (h : s.Lists l p) (same : ∀ n, p n ↔ q n) : s.Lists l q :=
  ⟨fun n => (same n).symm.trans (h.1 n), h.2⟩

theorem State.Lists.perm (h : s.Lists l p) (same : l.Perm k) : s.Lists k p := by
  obtain ⟨members, entries, once⟩ := h
  refine ⟨fun n => ?_, fun m hm => entries m (same.mem_iff.2 hm), (same.map _).nodup_iff.1 once⟩
  rw [members n]
  exact exists_congr fun m => and_congr_left' same.mem_iff

theorem State.mem_present {m : Member} : m ∈ s.present ↔ s.Present m.number ∧ m.entry = s.entry m.number := by
  have shown (n : StationNo) : (s.entry n).present = true ↔
      s.ptb.entries[n].state = .fresh ∨ s.ptb.entries[n].state = .stale := Entry.present_iff _
  simp only [State.present, State.others, List.mem_filter, List.mem_map, List.mem_finRange, true_and, bne_iff_ne,
    Bool.and_eq_true, State.Present]
  constructor
  · rintro ⟨⟨n, ⟨number, other⟩, rfl⟩, present⟩
    exact ⟨⟨number, other, (shown n).1 present⟩, rfl⟩
  · rintro ⟨⟨number, other, state⟩, entry⟩
    refine ⟨⟨m.number, ⟨number, other⟩, ?_⟩, ?_⟩
    · rw [← entry]
    · rw [entry]
      exact (shown m.number).2 state

theorem State.present_rising (s : State) : Rising s.present := by
  have numbers : s.others.Pairwise (· < ·) := (List.sortedLT_finRange 32).pairwise.filter _
  exact List.Pairwise.filter _ (List.pairwise_map.2 numbers)

/-- A filter of the FRESH and STALE entries lists those that pass it. -/
theorem State.lists_filter (f : Member → Bool) (hf : ∀ n, f { number := n, entry := s.entry n } = true ↔ q n) :
    s.Lists (s.present.filter f) (fun n => s.Present n ∧ q n) ∧ Rising (s.present.filter f) := by
  have rising : Rising (s.present.filter f) := s.present_rising.filter f
  have entries {m : Member} (hm : m ∈ s.present.filter f) : m.entry = s.entry m.number :=
    (State.mem_present.1 (List.mem_of_mem_filter hm)).2
  refine ⟨⟨fun n => ⟨fun ⟨present, passes⟩ => ⟨{ number := n, entry := s.entry n }, ?_, rfl⟩, ?_⟩,
    fun m hm => entries hm, List.pairwise_map.2 (rising.imp fun h => ne_of_lt h)⟩, rising⟩
  · exact List.mem_filter.2 ⟨State.mem_present.2 ⟨present, rfl⟩, (hf n).2 passes⟩
  · rintro ⟨m, hm, rfl⟩
    obtain ⟨present, passes⟩ := List.mem_filter.1 hm
    refine ⟨(State.mem_present.1 present).1, (hf m.number).1 ?_⟩
    rw [← entries hm]
    exact passes

/-- A filter of the members of a section set, by what their reports show. -/
theorem State.lists_members_filter (x : SectionSet) (f : Member → Bool) (p : ReportBody → Prop)
    (hf : ∀ m b, m.entry.body = some b → (f m = true ↔ p b)) :
    s.Lists ((s.members x).filter f) (fun n => s.Present n ∧ (s.entry n).Shows fun b => p b ∧ b.InSections x) ∧
      Rising ((s.members x).filter f) := by
  rw [State.members, List.filter_filter]
  refine State.lists_filter _ fun n => Entry.any_iff_shows (fun none => by simp [none]) fun b body => ?_
  simp [body, hf { number := n, entry := s.entry n } b body, ReportBody.shownSections_iff]

theorem State.lists_members (s : State) (x : SectionSet) :
    s.Lists (s.members x) (fun n => s.Present n ∧ (s.entry n).Shows fun b => True ∧ b.InSections x) ∧
      Rising (s.members x) := by
  have all := State.lists_members_filter (s := s) x (fun _ => true) (fun _ => True) fun _ _ _ => by simp
  rwa [List.filter_true] at all

/-! ### Derived sets (R118) -/

theorem State.lists_closedSources (s : State) (x : SectionSet) :
    s.Lists (s.closedSources x) (fun n => s.Present n ∧ (s.entry n).Shows fun b =>
        ((b.role = .incomer ∨ b.role = .generator) ∧ b.Shut) ∧ b.InSections x) ∧
      Rising (s.closedSources x) :=
  State.lists_members_filter x (fun m => (m.hasRole .incomer || m.hasRole .generator) && m.closed) _ fun m b body => by
    rw [Bool.and_eq_true, Bool.or_eq_true, Member.hasRole_iff body, Member.hasRole_iff body, Member.closed_iff body]

theorem State.lists_onlineGenerators (s : State) (x : SectionSet) :
    s.Lists (s.onlineGenerators x) (fun n => s.Present n ∧ (s.entry n).Shows fun b =>
        (b.role = .generator ∧ b.csq = some .online) ∧ b.InSections x) ∧
      Rising (s.onlineGenerators x) :=
  State.lists_members_filter x (fun m => m.hasRole .generator && m.csq == some .online) _ fun m b body => by
    rw [Bool.and_eq_true, Member.hasRole_iff body, Member.csq_iff body]

theorem State.lists_incomers (s : State) (x : SectionSet) :
    s.Lists (s.incomers x) (fun n => s.Present n ∧ (s.entry n).Shows fun b => b.role = .incomer ∧ b.InSections x) ∧
      Rising (s.incomers x) :=
  State.lists_members_filter x (fun m => m.hasRole .incomer) _ fun _ _ body => Member.hasRole_iff body .incomer

theorem State.lists_closedNormalIncomers (s : State) (x : SectionSet) :
    s.Lists (s.closedNormalIncomers x) (fun n => s.Present n ∧ (s.entry n).Shows fun b =>
        (b.role = .incomer ∧ b.Shut ∧ b.csq = some .incNormal) ∧ b.InSections x) ∧
      Rising (s.closedNormalIncomers x) := by
  rw [State.closedNormalIncomers, State.incomers, List.filter_filter]
  refine State.lists_members_filter x _ _ fun m b body => ?_
  rw [Bool.and_eq_true, Bool.and_eq_true, Member.hasRole_iff body, Member.closed_iff body, Member.csq_iff body]
  exact and_comm

theorem State.lists_claimsActive (s : State) (x : SectionSet) :
    s.Lists (s.claimsActive x) (fun n => (s.Present n ∧ (s.entry n).Shows fun b => True ∧ b.InSections x) ∧
        ∃ y : SectionSet, ((s.entry n).claim = .claiming y ∨ (s.entry n).claim = .won y) ∧
          ((y.a = true ∧ x.a = true) ∨ (y.b = true ∧ x.b = true))) ∧
      Rising (s.claimsActive x) := by
  have active (c : ClaimField) : c.activeOn x = true ↔ ∃ y : SectionSet, (c = .claiming y ∨ c = .won y) ∧
      ((y.a = true ∧ x.a = true) ∨ (y.b = true ∧ x.b = true)) := by
    cases c <;> simp [ClaimField.activeOn, SectionSet.overlaps_iff]
  rw [State.claimsActive, State.members, List.filter_filter]
  have listed := State.lists_filter (s := s)
    (fun m => m.entry.claim.activeOn x && m.entry.body.any fun b => b.shownSections.overlaps x)
    (q := fun n => (∃ y : SectionSet, ((s.entry n).claim = .claiming y ∨ (s.entry n).claim = .won y) ∧
      ((y.a = true ∧ x.a = true) ∨ (y.b = true ∧ x.b = true))) ∧
        (s.entry n).Shows fun b => True ∧ b.InSections x)
    fun n => by
      rw [Bool.and_eq_true, active]
      refine and_congr_right' (Entry.any_iff_shows (fun none => by simp [none]) fun b body => ?_)
      simp [body, ReportBody.shownSections_iff]
  exact ⟨listed.1.congr fun n => by rw [and_assoc, and_comm (a := ∃ y, _)], listed.2⟩

/-! ### Feeders by priority -/

/-- A feeder comes before another: the lower priority number, then the lower station number. -/
def Member.Before (m k : Member) : Prop :=
  m.priority.getD 0 < k.priority.getD 0 ∨ (m.priority.getD 0 = k.priority.getD 0 ∧ m.number < k.number)

theorem Member.Before.trans {m k j : Member} (h : m.Before k) (h' : k.Before j) : m.Before j := by
  simp only [Member.Before, Fin.lt_def] at *
  omega

/-- Of two stations one comes before the other. -/
theorem Member.before_of_not {m k : Member} (apart : k.number ≠ m.number) (h : ¬ m.Before k) : k.Before m := by
  have apart := Fin.val_ne_of_ne apart
  simp only [Member.Before, Fin.lt_def] at *
  omega

theorem insertFeeder_perm (m : Member) (l : List Member) : (insertFeeder m l).Perm (m :: l) := by
  induction l with
  | nil => exact .refl _
  | cons k ks ih =>
    rw [insertFeeder]
    split
    · exact .refl _
    · exact (ih.cons k).trans (.swap m k ks)

theorem insertFeeder_ordered {m : Member} {l : List Member} (ordered : l.Pairwise Member.Before)
    (apart : ∀ k ∈ l, k.number ≠ m.number) : (insertFeeder m l).Pairwise Member.Before := by
  induction l with
  | nil => exact List.pairwise_singleton _ _
  | cons k ks ih =>
    obtain ⟨first, rest⟩ := List.pairwise_cons.1 ordered
    rw [insertFeeder]
    split
    · next before =>
      refine List.pairwise_cons.2 ⟨fun j hj => ?_, ordered⟩
      obtain rfl | later := List.mem_cons.1 hj
      · exact before
      · exact Member.Before.trans before (first j later)
    · next after =>
      refine List.pairwise_cons.2 ⟨fun j hj => ?_, ih rest fun j hj => apart j (List.mem_cons_of_mem _ hj)⟩
      obtain rfl | later := List.mem_cons.1 ((insertFeeder_perm m ks).mem_iff.1 hj)
      · exact Member.before_of_not (apart k List.mem_cons_self) after
      · exact first j later

/-- Insertion one by one orders a list of different stations and keeps its members. -/
theorem insertFeeders_perm_ordered {l : List Member} (once : (l.map fun m => m.number).Nodup) :
    (l.foldr insertFeeder []).Perm l ∧ (l.foldr insertFeeder []).Pairwise Member.Before := by
  induction l with
  | nil => exact ⟨.refl _, .nil⟩
  | cons m ms ih =>
    obtain ⟨apart, once⟩ := List.nodup_cons.1 once
    obtain ⟨same, ordered⟩ := ih once
    refine ⟨(insertFeeder_perm m _).trans (same.cons m), insertFeeder_ordered ordered fun k hk number => ?_⟩
    exact apart (List.mem_map.2 ⟨k, same.mem_iff.1 hk, number⟩)

theorem State.lists_feedersByPriority (s : State) (x : SectionSet) :
    s.Lists (s.feedersByPriority x) (fun n => s.Present n ∧ (s.entry n).Shows fun b =>
        (b.role = .feeder ∧ b.feeder.isSome) ∧ b.InSections x) ∧
      (s.feedersByPriority x).Pairwise Member.Before := by
  have feeders := (State.lists_members_filter (s := s) x (fun m => m.hasRole .feeder && m.priority.isSome)
    (fun b => b.role = .feeder ∧ b.feeder.isSome) fun m b body => by
      rw [Bool.and_eq_true, Member.hasRole_iff body, Member.priority_isSome body]).1
  obtain ⟨same, ordered⟩ := insertFeeders_perm_ordered feeders.2.2
  exact ⟨feeders.perm same.symm, ordered⟩

/-! ### Joined sections (R116) -/

theorem State.joined_iff (s : State) : s.joined = true ↔
    (∃ st, s.settings = some st ∧ st.station.role = .tie ∧ ∃ b, s.ptb.ownBreaker = some b ∧
      b.state ∈ ([.closed, .opening, .stuckClosed, .discrepant] : List BreakerState)) ∨
    ∃ n, s.Present n ∧ (s.entry n).Shows fun b => b.role = .tie ∧ b.Shut := by
  have own : (s.settings.any (fun st => st.station.role == .tie) &&
      s.ptb.ownBreaker.any fun b => b.state.countsClosed) = true ↔
      ∃ st, s.settings = some st ∧ st.station.role = .tie ∧ ∃ b, s.ptb.ownBreaker = some b ∧
        b.state ∈ ([.closed, .opening, .stuckClosed, .discrepant] : List BreakerState) := by
    simp only [Bool.and_eq_true, Option.any_eq_true, beq_iff_eq, BreakerState.countsClosed_iff]
    exact ⟨fun ⟨⟨st, set, tie⟩, closed⟩ => ⟨st, set, tie, closed⟩, fun ⟨st, set, tie, closed⟩ => ⟨⟨st, set, tie⟩, closed⟩⟩
  obtain ⟨members, -⟩ := (State.lists_filter (s := s)
    (fun m => m.entry.body.any (fun b => b.role == .tie) && countsClosed? m.entry.breaker)
    (q := fun n => (s.entry n).Shows fun b => b.role = .tie ∧ b.Shut) fun n =>
      Entry.any_iff_shows (fun none => by simp [none]) fun b body => by
        rw [Bool.and_eq_true]
        exact and_congr (Member.hasRole_iff (m := { number := n, entry := s.entry n }) body .tie)
          (Member.closed_iff (m := { number := n, entry := s.entry n }) body)).1
  rw [State.joined, Bool.or_eq_true, own]
  refine or_congr_right ?_
  rw [List.any_eq_true, exists_congr members]
  simp only [List.mem_filter]
  exact ⟨fun ⟨m, hm, passes⟩ => ⟨m.number, m, ⟨hm, passes⟩, rfl⟩, fun ⟨_, m, ⟨hm, passes⟩, _⟩ => ⟨m, hm, passes⟩⟩

theorem State.groupSections_of_none (h : s.settings = none) : s.groupSections = { a := false, b := false } := by
  simp [State.groupSections, State.ownSections, h, SectionSet.empty]

theorem State.groupSections_of_settings {st : Settings} (h : s.settings = some st) :
    s.groupSections = if s.joined then { a := true, b := true } else st.station.sections := by
  simp [State.groupSections, State.ownSections, h, SectionSet.both]

/-- The FRESH generators whose loads count (R148, R173, R175). -/
theorem State.freshLoads_eq (s : State) :
    s.freshLoads = ((s.onlineGenerators s.groupSections).filter fun m => m.entry.state = .fresh).filterMap fun m =>
      m.entry.body.bind fun b => b.load.bind fun p => b.ratedKw.map fun kw => (p, kw) := by
  have rated (m : Member) : (match m.load, m.ratedKw with
      | some p, some kw => some (p, kw)
      | _, _ => none) = m.entry.body.bind fun b => b.load.bind fun p => b.ratedKw.map fun kw => (p, kw) := by
    unfold Member.load Member.ratedKw
    cases m.entry.body with
    | none => rfl
    | some b =>
      simp only [Option.bind_some]
      cases b.load <;> cases b.ratedKw <;> rfl
  rw [State.freshLoads, ← funext rated]
  rfl

end lists

end Sys2Proof.Machine

open Sys2Proof Sys2Proof.Machine

/-- Settles O49: a report, an expiry or a CONFLICT frame sets one entry, besides the add mark; the group view is computed
from the entries, each derived set as a filter of the members in rising order. -/
theorem entriesFollowTheirReports : Obligations.EntriesFollowTheirReports := by
  unfold Obligations.EntriesFollowTheirReports
  refine ⟨?_, ?_, fun s => ?_⟩
  · intro s n payload away watching other number settled r e shows marks barred
    by_cases h : barred
    · obtain ⟨t, run, written⟩ := exec_reportReceived_of_barred (payload := payload) away watching other number settled
        ((Entry.barred_iff _).2 h)
      refine ⟨t, run, ?_, fun _ => written, fun recorded => absurd h recorded⟩
      rw [written]
    · have recorded : (s.ptb.entries[n]).barred = false := Bool.eq_false_iff.2 fun k => h ((Entry.barred_iff _).1 k)
      obtain ⟨t, run, only, ptb, view⟩ :=
        exec_reportReceived_recorded (payload := payload) away watching other number recorded
      obtain ⟨breaker, timer⟩ := takeReport_rest (s := s.heard) (r := r) recorded
      obtain ⟨k, entry⟩ : ∃ k, t.ptb.entries[n] = { e.take r s.localTime with refresh := k } := by
        rw [ptb]
        exact takeReport_entry_eq (s := s.heard) (r := r) recorded
      have closed : r.closed = true ↔ shows (some r) := r.closed_iff.trans (by simp [shows])
      have closed_before : e.showsClosed = true ↔ shows e.report := e.showsClosed_iff
      have marked : e.marks r = true ↔ marks := by
        rw [e.marks_iff, closed, closed_before]
      refine ⟨t, run, only.eq, fun absurd_barred => absurd absurd_barred h, fun _ => ?_⟩
      refine ⟨by rw [entry]; rfl, by rw [entry]; rfl, by rw [entry]; rfl, by rw [entry]; rfl, by rw [entry]; rfl,
        by rw [entry]; rfl, fun b body x claim => ?_, fun body => ?_, fun open_ => ?_, fun shut before => ?_,
        fun x time shut before => ?_, fun m => ?_, fun m => ?_, view.1, view.2.1, view.2.2, ?_, ?_⟩
      · rw [entry]
        exact Entry.take_claim_of_field (e := e) (now := s.localTime) body claim
      · rw [entry]
        exact Entry.take_claim_of_none (e := e) (now := s.localTime) body
      · rw [entry]
        exact Entry.take_closedTime_of_not_closed (mt closed.1 open_)
      · rw [entry]
        exact Entry.take_closedTime_of_close (closed.2 shut) (mt closed_before.1 before)
      · rw [entry]
        exact Entry.take_closedTime_of_closed (closed.2 shut) (closed_before.2 before) time
      · obtain ⟨own, mark, others⟩ := takeReport_of_mark (s := s.heard) (r := r) recorded (marked.2 m)
        rw [ptb]
        exact ⟨mark, congrArg Entry.refresh own, others⟩
      · obtain ⟨own, mark, others⟩ :=
          takeReport_of_no_mark (s := s.heard) (r := r) recorded (Bool.eq_false_iff.2 fun k => m (marked.1 k))
        rw [ptb]
        exact ⟨mark, congrArg Entry.refresh own, others⟩
      · rw [ptb]
        exact breaker
      · rw [ptb]
        exact timer
  · intro s n settled e becomes
    refine ⟨fun due timer => ?_, fun due timer => ?_, fun identity away watching number other => ?_,
      fun k conflict due timer state => ?_⟩
    · rw [exec_freshnessTimerExpiry timer]
      obtain ⟨t, run, frame, table⟩ := entryExpiry_done (n := n) settled due _
      refine ⟨t, run, frame, fun fresh => ?_, fun old => ?_⟩
      · rw [if_pos fresh] at table
        exact table
      · rw [if_neg old] at table
        exact table
    · rw [exec_lossTimerExpiry timer]
      obtain ⟨t, run, frame, table⟩ := entryExpiry_done (n := n) settled due _
      refine ⟨t, run, frame, fun present => ?_, fun fresh stale => ?_⟩
      · rw [if_pos (e.present_iff.2 present)] at table
        exact table
      · rw [if_neg fun present => (e.present_iff.1 present).elim fresh stale] at table
        exact table
    · obtain ⟨t, run, frame, table, view, told⟩ := conflictReceived_done (identity := identity) settled away watching
        number other
      exact ⟨t, run, frame, ⟨table, view⟩, told⟩
    · rw [exec_conflictClearExpiry conflict timer state]
      exact entryExpiry_done settled due _
  · intro closed present shows joined
    refine ⟨s.joined_iff, fun st set => ⟨fun j => ?_, fun j => ?_⟩, State.groupSections_of_none, fun x => ?_,
      s.freshLoads_eq⟩
    · rw [State.groupSections_of_settings set, if_pos (s.joined_iff.2 j)]
    · rw [State.groupSections_of_settings set, if_neg (mt s.joined_iff.1 j)]
    · intro listed rising member shut
      obtain ⟨feeders, ordered⟩ := s.lists_feedersByPriority x
      refine ⟨s.lists_members x, s.lists_closedSources x, s.lists_onlineGenerators x, s.lists_incomers x,
        s.lists_closedNormalIncomers x, s.lists_claimsActive x, feeders, ordered.imp fun before p hp q hq => ?_⟩
      simpa [Member.Before, hp, hq] using before

end

section
/-! PROOFS. What the operations of the synchronizer do (R124, R132 to R136): a claim given up, a request ended,
eligibility judged, an open claim withdrawn, and the end of a command of the synchronizer. -/

namespace Sys2Proof.Machine

variable {s t u : State} {st : Settings} {r : Record}

/-! ### A claim given up, and a request ended (R124, R135) -/

theorem giveUpClaim_of_claim {c : Claim} (claimed : s.syn.claim = some c) :
    giveUpClaim s = (s.withSli s.sli.giveUpClaim).withSyn s.syn.dropClaim := by
  simp [giveUpClaim, claimed]

/-- Giving up a claim leaves the record without one. -/
theorem giveUpClaim_syn (s : State) :
    (giveUpClaim s).syn = if s.syn.claim.isSome then s.syn.dropClaim else s.syn := by
  unfold giveUpClaim
  split <;> rfl

theorem giveUpClaim_syn_claim (s : State) : (giveUpClaim s).syn.claim = none := by
  rw [giveUpClaim_syn]
  split
  · rfl
  · next unclaimed => exact Option.not_isSome_iff_eq_none.1 unclaimed

theorem endClaim_syn (o : SynOutcome) (s : State) :
    (endClaim o s).syn = if s.syn.claim.isSome then s.syn.dropClaim else s.syn := by
  unfold endClaim
  split
  · next unclaimed => simp [unclaimed]
  · next c claimed =>
    split
    · simp [claimed]
    · exact giveUpClaim_syn s

/-- A request ends with its claim, however the claim is given up (R124). -/
theorem endRequest_syn (o : SynOutcome) (s : State) :
    (endRequest o s).syn = s.syn.dropClaim.endRequest (o == .syncFailed) := by
  have ended : (endClaim o s).syn.endRequest (o == .syncFailed) = s.syn.dropClaim.endRequest (o == .syncFailed) := by
    rw [endClaim_syn]
    cases claim : s.syn.claim with
    | some c => simp
    | none => simp [Syn.endRequest, Syn.dropClaim, Syn.avrOff, claim]
  exact ended

theorem endTold_of_held {o : SynOutcome} (held : s.syn.request.isSome) :
    endTold o s = (endRequest o s).send (.csqSyn (some o)) := if_pos held

/-- Another winner to wait for leaves the state. -/
theorem lowerWinner_state (claimants : List StationNo) (s : State) :
    (lowerWinner claimants s).syn.state = s.syn.state := by
  unfold lowerWinner
  repeat' split
  all_goals rfl

/-! ### Eligibility (R132, R133) -/

theorem generatorReady_iff :
    s.generatorReady st.station = true ↔
      (st.station.role = .generator → s.input .genReady = true ∧
        ∃ r, s.cme.record = some r ∧ ∃ f, r.fLine = some f ∧ (f - st.station.fnom * 1000).natAbs ≤ 500) := by
  have near (r : Record) : r.nearNominal st.station.fnom = true ↔
      ∃ f, r.fLine = some f ∧ (f - st.station.fnom * 1000).natAbs ≤ 500 := by
    unfold Record.nearNominal
    split
    · next f shown => simp [shown]
    · next absent => simp [absent]
  by_cases generator : st.station.role = .generator <;>
    simp [State.generatorReady, generator, Option.any_eq_true, near]

/-- The list of R132. -/
theorem eligible_iff (state : s.syn.state = .synchronizing) :
    s.eligible st.station = true ↔
      s.syn.deadCount = 3 ∧ (∃ r, s.cme.record = some r ∧ r.line = .live ∧
        (st.station.role = .generator → s.input .genReady = true ∧
          ∃ f, r.fLine = some f ∧ (f - st.station.fnom * 1000).natAbs ≤ 500)) ∧
      s.syn.refusalTimer = none ∧ s.syn.closeInFlight = false ∧
      s.closedSources (s.wantedSections st.station) = [] ∧ s.claimsActive (s.wantedSections st.station) = [] := by
  simp only [State.eligible, state, Bool.and_eq_true, beq_self_eq_true, true_and, beq_iff_eq, generatorReady_iff,
    Bool.not_eq_true', Option.isNone_iff_eq_none, List.isEmpty_iff]
  cases record : s.cme.record with
  | none => simp
  | some r => simp; tauto

theorem judgeEligible_of_eligible (set : s.settings = some st) (eligible : s.eligible st.station = true) :
    judgeEligible s = makeClaim (s.wantedSections st.station) s := by
  rw [judgeEligible, State.inForce_some set, if_pos eligible]

theorem judgeEligible_of_not (barred : ∀ st, s.settings = some st → s.eligible st.station = false) :
    judgeEligible s = s := by
  rw [judgeEligible]
  refine State.inForce_cases (p := fun v => v = s) rfl fun st set => ?_
  rw [barred st set]
  rfl

/-- On a bus that is not dead no claim is made. -/
theorem judgeEligible_of_alive (alive : s.syn.deadCount ≠ 3) : judgeEligible s = s :=
  judgeEligible_of_not fun st _ => by simp [State.eligible, alive]

/-- In the refusal wait no claim is made (R128). -/
theorem judgeEligible_of_wait (wait : s.syn.refusalTimer.isSome) : judgeEligible s = s :=
  judgeEligible_of_not fun st _ => by
    have runs : s.syn.refusalTimer.isNone = false := by rwa [Option.isNone_eq_false_iff]
    simp [State.eligible, runs]

/-- Out of SYNCHRONIZING no claim is made. -/
theorem judgeEligible_of_state (state : s.syn.state ≠ .synchronizing) : judgeEligible s = s :=
  judgeEligible_of_not fun st _ => by simp [State.eligible, state]

/-- A claim is made only on a dead bus. -/
theorem judgeEligible_rows (s : State) :
    judgeEligible s = s ∨ (s.syn.deadCount = 3 ∧ ∃ st, s.settings = some st ∧
      judgeEligible s = makeClaim (s.wantedSections st.station) s) := by
  by_cases dead : s.syn.deadCount = 3
  · cases set : s.settings with
    | none => exact .inl (by rw [judgeEligible, State.inForce_none set])
    | some st =>
      cases eligible : s.eligible st.station with
      | true => exact .inr ⟨dead, st, rfl, judgeEligible_of_eligible set eligible⟩
      | false =>
        exact .inl (judgeEligible_of_not fun st' set' => by
          obtain rfl : st = st' := Option.some.inj (set.symm.trans set')
          exact eligible)
  · exact .inl (judgeEligible_of_alive dead)

@[simp] theorem judgeEligible_due (s : State) : (judgeEligible s).due = s.due :=
  (Only.judgeEligible (fs := [.sli, .syn]) (by decide) (by decide) Only.refl).get .due (by decide)

/-- Eligibility judged leaves the counts. -/
theorem judgeEligible_counts (s : State) :
    (judgeEligible s).syn.deadCount = s.syn.deadCount ∧ (judgeEligible s).syn.permitCount = s.syn.permitCount := by
  obtain stays | ⟨claim, claims⟩ := judgeEligible_syn s
  · rw [stays]
    exact ⟨rfl, rfl⟩
  · rw [claims]
    exact ⟨rfl, rfl⟩

/-! ### An open claim withdrawn (R136) -/

theorem Syn.openClaim_of_open {y : Syn} {c : Claim} (claimed : y.claim = some c) (phase : c.phase ≠ .won) :
    y.openClaim = some c := by
  simp [Syn.openClaim, claimed, phase]

theorem Syn.openClaim_of_won {y : Syn} {c : Claim} (claimed : y.claim = some c) (won : c.phase = .won) :
    y.openClaim = none := by
  simp [Syn.openClaim, claimed, won]

theorem withdrawClaim_of_claim {c : Claim} (claimed : s.syn.claim = some c) :
    withdrawClaim s = judgeEligible ((s.withSli s.sli.giveUpClaim).withSyn s.syn.dropClaim.resume) := by
  rw [withdrawClaim, giveUpClaim_of_claim claimed]
  rfl

/-- On a bus that is not dead the station does not claim anew. -/
theorem withdrawClaim_of_alive {c : Claim} (claimed : s.syn.claim = some c) (alive : s.syn.deadCount ≠ 3) :
    withdrawClaim s = (s.withSli s.sli.giveUpClaim).withSyn s.syn.dropClaim.resume := by
  rw [withdrawClaim_of_claim claimed]
  exact judgeEligible_of_alive (s := (s.withSli s.sli.giveUpClaim).withSyn s.syn.dropClaim.resume) alive

theorem withdrawClaim_counts (s : State) :
    (withdrawClaim s).syn.deadCount = s.syn.deadCount ∧ (withdrawClaim s).syn.permitCount = 0 := by
  obtain ⟨dead, permit⟩ := judgeEligible_counts ((giveUpClaim s).withSyn (giveUpClaim s).syn.resume)
  refine ⟨dead.trans ?_, permit⟩
  rw [State.withSyn_syn, Syn.resume, giveUpClaim_syn]
  split <;> rfl

/-! ### The end of a command of the synchronizer -/

/-- The fields that a command of the synchronizer writes. -/
def synFields : List Fld := [.syn, .sli, .lsc, .due]

theorem synFields_eq (k : Only synFields s t) :
    t = { s with syn := t.syn, sli := t.sli, lsc := t.lsc, due := t.due } := by
  simpa [synFields] using k.eq

theorem synFields_reach_eq {due : Time} (k : Only synFields (s.reach due) t) :
    t = { s with syn := t.syn, sli := t.sli, lsc := t.lsc, due := t.due, localTime := (s.reach due).localTime } := by
  have eq := synFields_eq k
  rw [s.reach_eq due] at eq
  exact eq

/-- The publications after a command make no close claim. -/
theorem closeClaim_mem_publish {old : State} {purpose : ClosePurpose} :
    .closeClaim purpose ∈ (publish old s).due ↔ .closeClaim purpose ∈ s.due := by
  have breaker : .closeClaim purpose ∈ (publishBreaker old s).due ↔ .closeClaim purpose ∈ s.due := by
    unfold publishBreaker
    split <;> simp [State.mem_notifyAll_due]
  have station (v : State) : .closeClaim purpose ∈ (publishStation old v).due ↔ .closeClaim purpose ∈ v.due := by
    unfold publishStation
    split <;> simp [State.mem_notify_due]
  have sequence (v : State) : .closeClaim purpose ∈ (publishSequence old v).due ↔ .closeClaim purpose ∈ v.due := by
    unfold publishSequence
    split <;> simp [State.mem_notify_due]
  have syn (v : State) : .closeClaim purpose ∈ (publishSyn old v).due ↔ .closeClaim purpose ∈ v.due := by
    unfold publishSyn
    split <;> simp [State.mem_notifyAll_due]
  have lsc (v : State) : .closeClaim purpose ∈ (publishLsc old v).due ↔ .closeClaim purpose ∈ v.due := by
    unfold publishLsc
    split <;> simp [State.mem_notify_due]
  rw [publish, lsc, syn, sequence, station, breaker]

/-- A command of the synchronizer has ended in `t` after an effect that led from `s` to `u`. -/
structure SynEnds (s u t : State) : Prop where
  only : Only synFields s t
  syn : t.syn = u.syn
  claimSlot : t.sli.claimSlot = u.sli.claimSlot
  /-- With the line settled and the link left, no frame begins. -/
  still : LineSettled s → u.sli = s.sli → t.sli = s.sli
  closes : ∀ purpose, .closeClaim purpose ∈ t.due ↔ .closeClaim purpose ∈ u.due
  waits : Waits u t

theorem done_synEnds (old : State) (k : Only synFields s u) : ∃ t, done old u = .next t ∧ SynEnds s u t := by
  have ssc : u.ssc = s.ssc := k.get .ssc (by decide)
  refine ⟨_, rfl, Only.publish old (by decide) (k.settle (by decide) (by decide)), by simp, by simp,
    fun line sli => ?_, fun purpose => ?_, waits_done old u⟩
  · rw [publish_sli, settle_sli_of_line line (by rw [ssc]) sli]
  · rw [closeClaim_mem_publish, settle_due]

/-- The command that has this effect ends so. -/
theorem synEnds_of_effect {old : State} {c : Instr} (effect : exec c old = done old u) (k : Only synFields s u)
    (run : exec c old = .next t) : SynEnds s u t := by
  obtain ⟨t', run', ends⟩ := done_synEnds old k
  obtain rfl : t' = t := Host.Outcome.next.inj (run'.symm.trans (effect.symm.trans run))
  exact ends

/-- Reaching an expiry leaves the line settled. -/
theorem LineSettled.reach (h : LineSettled s) (due : Time) : LineSettled (s.reach due) := by
  unfold LineSettled
  rw [State.reach_ssc, State.reach_sli]
  exact h

end Sys2Proof.Machine
end

section
/-! PROOFS. SYN_CYCLE_COMPLETION (R125 to R130, R136, R139): the permit's conditions, the evaluation, the
voltage-regulator check, and what the command does in each state of the synchronizer. -/

namespace Sys2Proof.Machine

variable {s : State} {st : Settings} {r : Record}

/-! ### The permit (R126, R127) -/

theorem reduceAngle_eq (x : Int) : reduceAngle x = x - 36000 * ((x + 17999) / 36000) := by
  have rest : (x + 17999).emod 36000 = x + 17999 - 36000 * ((x + 17999) / 36000) := Int.emod_def _ _
  rw [reduceAngle, rest]
  omega

theorem permit_iff :
    permit st r = true ↔ r.line = .live ∧ r.bus = .live ∧ ∃ th, r.theta = some th ∧ ∃ fl, r.fLine = some fl ∧
      ∃ fb, r.fBus = some fb ∧ r.voltageDifference.natAbs ≤ st.syn.voltageWindow ∧
        (fl - fb).natAbs ≤ st.syn.slipWindow ∧
        (st.station.role = .generator → st.syn.positiveSlipOnly = true → 0 < fl - fb) ∧
        (predicted th (fl - fb) st.syn.tcMs).natAbs ≤ st.syn.angleWindow ∧
        (predicted th (fl - fb) st.syn.tcMs).natAbs ≤ th.natAbs := by
  have direction (slip : Int) :
      (st.station.role != .generator || !st.syn.positiveSlipOnly || decide (0 < slip)) = true ↔
        (st.station.role = .generator → st.syn.positiveSlipOnly = true → 0 < slip) := by
    by_cases generator : st.station.role = .generator <;> cases st.syn.positiveSlipOnly <;> simp [generator]
  unfold permit Record.slip Record.bothLive
  cases theta : r.theta with
  | none => simp
  | some th =>
    cases line : r.fLine with
    | none => simp
    | some fl =>
      cases bus : r.fBus with
      | none => simp
      | some fb => simp only [Bool.and_eq_true, direction, decide_eq_true_eq, beq_iff_eq, Option.some.injEq,
          exists_eq_left', and_assoc]

/-! ### The evaluation (R128) -/

/-- An evaluation writes the count, and may make a SYNC claim. -/
theorem evaluatePermit_eq (st : Settings) (r : Record) (s : State) :
    evaluatePermit st r s =
      (s.withSyn { s.syn with permitCount := (evaluatePermit st r s).syn.permitCount }).withDue
        (evaluatePermit st r s).due := by
  obtain ⟨-, e⟩ | ⟨-, e⟩ | ⟨-, -, -, e⟩ | ⟨-, -, -, e⟩ := evaluatePermit_cases st r s <;> rw [e] <;> rfl

section evaluate
variable (s : State) (st : Settings) (r : Record)

@[simp] theorem evaluatePermit_sli : (evaluatePermit st r s).sli = s.sli := by rw [evaluatePermit_eq]; rfl
@[simp] theorem evaluatePermit_localTime : (evaluatePermit st r s).localTime = s.localTime := by
  rw [evaluatePermit_eq]; rfl
@[simp] theorem evaluatePermit_state : (evaluatePermit st r s).syn.state = s.syn.state := by rw [evaluatePermit_eq]; rfl
@[simp] theorem evaluatePermit_deadCount : (evaluatePermit st r s).syn.deadCount = s.syn.deadCount := by
  rw [evaluatePermit_eq]; rfl
@[simp] theorem evaluatePermit_refusalTimer : (evaluatePermit st r s).syn.refusalTimer = s.syn.refusalTimer := by
  rw [evaluatePermit_eq]; rfl
@[simp] theorem evaluatePermit_correction : (evaluatePermit st r s).syn.correction = s.syn.correction := by
  rw [evaluatePermit_eq]; rfl
@[simp] theorem evaluatePermit_avrPulse : (evaluatePermit st r s).syn.avrPulse = s.syn.avrPulse := by
  rw [evaluatePermit_eq]; rfl
@[simp] theorem evaluatePermit_avrSpacing : (evaluatePermit st r s).syn.avrSpacing = s.syn.avrSpacing := by
  rw [evaluatePermit_eq]; rfl
@[simp] theorem evaluatePermit_avrRaise : (evaluatePermit st r s).syn.avrRaise = s.syn.avrRaise := by
  rw [evaluatePermit_eq]; rfl
@[simp] theorem evaluatePermit_avrLower : (evaluatePermit st r s).syn.avrLower = s.syn.avrLower := by
  rw [evaluatePermit_eq]; rfl

end evaluate

section free
variable (flight : s.syn.closeInFlight = false) (taken : s.syn.closeTaken = false)
include flight taken

/-- Without a permit, and in the refusal wait, the count is 0 and no claim is made. -/
theorem evaluatePermit_of_none (none : permit st r = false ∨ s.syn.refusalTimer.isSome) :
    evaluatePermit st r s = s.withSyn { s.syn with permitCount := 0 } := by
  obtain none | wait := none
  · simp [evaluatePermit, flight, taken, none]
  · simp [evaluatePermit, flight, taken, wait]

/-- The first permit is counted. -/
theorem evaluatePermit_first (permitted : permit st r = true) (wait : s.syn.refusalTimer = none)
    (count : s.syn.permitCount = 0) : evaluatePermit st r s = s.withSyn { s.syn with permitCount := 1 } := by
  simp [evaluatePermit, flight, taken, permitted, wait, count]

/-- The second permit in succession makes the SYNC claim. -/
theorem evaluatePermit_second (permitted : permit st r = true) (wait : s.syn.refusalTimer = none)
    (count : s.syn.permitCount = 1) :
    evaluatePermit st r s = (s.withSyn { s.syn with permitCount := 0 }).send (.closeClaim .sync) := by
  simp [evaluatePermit, flight, taken, permitted, wait, count]

end free

/-! ### The voltage-regulator check (R130) -/

/-- A pulse is due: correction is active on a live line and bus, the difference exceeds half the window, and neither a
pulse nor its spacing runs. -/
def State.pulseDue (s : State) (st : Settings) (r : Record) : Prop :=
  s.syn.correction = true ∧ r.bothLive = true ∧ st.syn.voltageWindow / 2 < r.voltageDifference.natAbs ∧
    s.syn.avrPulse = none ∧ s.syn.avrSpacing = none

theorem avrCheck_of_due (due : s.pulseDue st r) :
    avrCheck st r s = s.withSyn { s.syn with
      avrRaise := decide (r.voltageDifference < 0), avrLower := decide (0 < r.voltageDifference)
      avrPulse := s.after (min 500 (r.voltageDifference.natAbs * 10)), avrSpacing := s.after 1000 } := by
  obtain ⟨correction, live, exceeds, pulse, spacing⟩ := due
  simp [avrCheck, correction, live, exceeds, pulse, spacing]

theorem avrCheck_of_not_due (rests : ¬ s.pulseDue st r) : avrCheck st r s = s := by
  refine if_neg fun due => rests ?_
  simpa [State.pulseDue, and_assoc] using due

/-- The check writes nothing but the outputs, the pulse and its spacing. -/
theorem avrCheck_eq (st : Settings) (r : Record) (s : State) :
    avrCheck st r s = s.withSyn { s.syn with
      avrRaise := (avrCheck st r s).syn.avrRaise, avrLower := (avrCheck st r s).syn.avrLower
      avrPulse := (avrCheck st r s).syn.avrPulse, avrSpacing := (avrCheck st r s).syn.avrSpacing } := by
  by_cases due : s.pulseDue st r
  · rw [avrCheck_of_due due]; rfl
  · rw [avrCheck_of_not_due due]; rfl

section check
variable (s : State) (st : Settings) (r : Record)

@[simp] theorem avrCheck_sli : (avrCheck st r s).sli = s.sli := by rw [avrCheck_eq]; rfl
@[simp] theorem avrCheck_due : (avrCheck st r s).due = s.due := by rw [avrCheck_eq]; rfl
@[simp] theorem avrCheck_state : (avrCheck st r s).syn.state = s.syn.state := by rw [avrCheck_eq]; rfl
@[simp] theorem avrCheck_permitCount : (avrCheck st r s).syn.permitCount = s.syn.permitCount := by rw [avrCheck_eq]; rfl
@[simp] theorem avrCheck_deadCount : (avrCheck st r s).syn.deadCount = s.syn.deadCount := by rw [avrCheck_eq]; rfl
@[simp] theorem avrCheck_refusalTimer : (avrCheck st r s).syn.refusalTimer = s.syn.refusalTimer := by
  rw [avrCheck_eq]; rfl

end check

/-! ### A record counted (R125) -/

/-- The synchronizer's record once a cycle record is counted. -/
def Syn.counted (y : Syn) (r : Record) : Syn :=
  { y with deadCount := deadAfter y.deadCount r, permitCount := if r.warmup then 0 else y.permitCount }

/-- The state once the cycle record is taken and counted. -/
def State.counted (s : State) (r : Record) : State := (s.take .synRecord).withSyn (s.syn.counted r)

/-- A live bus ends the dead count. -/
theorem deadAfter_of_live (n : Nat) (bus : r.bus = .live) : deadAfter n r = 0 := by
  unfold deadAfter
  rw [bus]
  split <;> rfl

/-- The evaluations of SYNCHRONIZING at a record that is not WARMUP, before eligibility is judged. -/
def State.evaluated (s : State) (st : Settings) (r : Record) : State :=
  avrCheck st r (evaluatePermit st r (s.counted r))

section evaluated
variable (s : State) (st : Settings) (r : Record)

@[simp] theorem State.evaluated_state : (s.evaluated st r).syn.state = s.syn.state := by
  simp [State.evaluated]; rfl
@[simp] theorem State.evaluated_deadCount :
    (s.evaluated st r).syn.deadCount = deadAfter s.syn.deadCount r := by
  simp [State.evaluated]; rfl
@[simp] theorem State.evaluated_refusalTimer : (s.evaluated st r).syn.refusalTimer = s.syn.refusalTimer := by
  simp [State.evaluated]; rfl
@[simp] theorem State.evaluated_sli : (s.evaluated st r).sli = s.sli := by
  simp [State.evaluated]; rfl

end evaluated

/-- What follows the count of a record, by the state of the synchronizer. -/
def cycleEffect (st : Settings) (r : Record) (v : State) : State :=
  match v.syn.state with
  | .synchronizing => if r.warmup then v else judgeEligible (avrCheck st r (evaluatePermit st r v))
  | .claiming => claimingCycle v
  | .yielded => if !r.warmup && r.bus == .live then v.withSyn v.syn.resume else v
  | .idle | .syncFailed => v

/-- Before the settings are in force, and before the first record, nothing is counted. -/
theorem synCycle_of_none (none : s.settings = none ∨ s.cme.record = none) :
    exec .synCycleCompletion s = done s (s.take .synRecord) := by
  cases set : s.settings with
  | none => simp only [exec, execSynCycleCompletion, State.inForce_none (s := s.take .synRecord) set]
  | some st =>
    have record : s.cme.record = Option.none := none.resolve_left (by simp [set])
    simp only [exec, execSynCycleCompletion, State.inForce_some (s := s.take .synRecord) set, State.take_cme, record]

section command
variable (set : s.settings = some st) (record : s.cme.record = some r)
include set record

theorem synCycle_effect : exec .synCycleCompletion s = done s (cycleEffect st r (s.counted r)) := by
  simp only [exec, execSynCycleCompletion, State.inForce_some (s := s.take .synRecord) set, State.take_cme, record]
  rfl

theorem synCycle_of_synchronizing (state : s.syn.state = .synchronizing) (warm : r.warmup = false) :
    exec .synCycleCompletion s = done s (judgeEligible (s.evaluated st r)) := by
  have counted : (s.counted r).syn.state = .synchronizing := state
  simp [synCycle_effect set record, cycleEffect, counted, warm, State.evaluated]

theorem synCycle_of_claiming (state : s.syn.state = .claiming) :
    exec .synCycleCompletion s = done s (claimingCycle (s.counted r)) := by
  have counted : (s.counted r).syn.state = .claiming := state
  simp [synCycle_effect set record, cycleEffect, counted]

theorem synCycle_of_yielded (state : s.syn.state = .yielded) (warm : r.warmup = false) (bus : r.bus = .live) :
    exec .synCycleCompletion s = done s ((s.counted r).withSyn (s.syn.counted r).resume) := by
  have counted : (s.counted r).syn.state = .yielded := state
  simp [synCycle_effect set record, cycleEffect, counted, warm, bus]
  rfl

/-- In IDLE and SYNC_FAILED the record is counted and nothing more is done; so in SYNCHRONIZING at a WARMUP record, and
in YIELDED at one and while the bus is not live. -/
theorem synCycle_of_rest (rests : s.syn.state = .idle ∨ s.syn.state = .syncFailed ∨
      (s.syn.state = .synchronizing ∧ r.warmup = true) ∨
      (s.syn.state = .yielded ∧ (r.warmup = true ∨ r.bus ≠ .live))) :
    exec .synCycleCompletion s = done s (s.counted r) := by
  have counted : (s.counted r).syn.state = s.syn.state := rfl
  obtain state | state | ⟨state, warm⟩ | ⟨state, away⟩ := rests
  · simp [synCycle_effect set record, cycleEffect, counted, state]
  · simp [synCycle_effect set record, cycleEffect, counted, state]
  · simp [synCycle_effect set record, cycleEffect, counted, state, warm]
  · obtain warm | bus := away
    · simp [synCycle_effect set record, cycleEffect, counted, state, warm]
    · simp [synCycle_effect set record, cycleEffect, counted, state, bus]

/-- What the command does, by the state of the synchronizer and the record. -/
theorem synCycle_cases :
    (s.syn.state = .synchronizing ∧ r.warmup = false ∧
      exec .synCycleCompletion s = done s (judgeEligible (s.evaluated st r))) ∨
    (s.syn.state = .claiming ∧ exec .synCycleCompletion s = done s (claimingCycle (s.counted r))) ∨
    (s.syn.state = .yielded ∧ r.warmup = false ∧ r.bus = .live ∧
      exec .synCycleCompletion s = done s ((s.counted r).withSyn (s.syn.counted r).resume)) ∨
    (s.syn.state ≠ .claiming ∧ (s.syn.state = .synchronizing → r.warmup = true) ∧
      (s.syn.state = .yielded → r.warmup = false → r.bus ≠ .live) ∧
      exec .synCycleCompletion s = done s (s.counted r)) := by
  have rest := synCycle_of_rest set record
  cases state : s.syn.state with
  | claiming => exact .inr (.inl ⟨rfl, synCycle_of_claiming set record state⟩)
  | synchronizing =>
    cases warm : r.warmup with
    | false => exact .inl ⟨rfl, rfl, synCycle_of_synchronizing set record state warm⟩
    | true => exact .inr (.inr (.inr ⟨nofun, fun _ => rfl, nofun, rest (by simp [state, warm])⟩))
  | yielded =>
    by_cases live : r.warmup = false ∧ r.bus = .live
    · exact .inr (.inr (.inl ⟨rfl, live.1, live.2, synCycle_of_yielded set record state live.1 live.2⟩))
    · rw [not_and] at live
      refine .inr (.inr (.inr ⟨nofun, nofun, fun _ => live, rest (.inr (.inr (.inr ⟨state, ?_⟩)))⟩))
      cases warm : r.warmup
      · exact .inr (live warm)
      · exact .inl rfl
  | idle => exact .inr (.inr (.inr ⟨nofun, nofun, nofun, rest (by simp [state])⟩))
  | syncFailed => exact .inr (.inr (.inr ⟨nofun, nofun, nofun, rest (by simp [state])⟩))

end command

end Sys2Proof.Machine
end

section
/-! PROOFS. The invariant of the synchronizer's record (R121, R122, R128, R131, R133, R139): its parts, and the writes
to the record that keep them. -/

namespace Sys2Proof.Machine

/-! ### The parts of the invariant -/

/-- The invariant of the synchronizer's record, part by part. -/
structure Syn.Kept (y : Syn) : Prop where
  dead : y.deadCount ≤ 3
  permit : y.permitCount ≤ 1
  attempt : y.attempt = 1 ∨ y.attempt = 2
  avr : y.avrRaise = true → y.avrLower = false
  claim : y.claim.isSome ↔ y.state = .claiming
  request : y.state ∈ ([.synchronizing, .claiming, .yielded] : List SynState) → y.request.isSome
  sync : y.syncTimer.isSome → y.request.isSome
  retry : y.retryTimer.isSome → y.state = .idle ∧ y.request.isSome
  hold : y.holdTimer.isSome → ∃ c, y.claim = some c ∧ c.phase = .holding
  yield : y.yieldTimer.isSome → y.state = .yielded
  winner : y.winner.isSome → y.state = .yielded
  refusal : y.refusalTimer.isSome → y.permitCount = 0

theorem synKept_iff (s : State) : SynKept s ↔ s.syn.Kept :=
  ⟨fun ⟨dead, permit, attempt, avr, claim, request, sync, retry, hold, yield, winner, refusal⟩ =>
    ⟨dead, permit, attempt, avr, claim, request, sync, retry, hold, yield, winner, refusal⟩,
   fun ⟨dead, permit, attempt, avr, claim, request, sync, retry, hold, yield, winner, refusal⟩ =>
    ⟨dead, permit, attempt, avr, claim, request, sync, retry, hold, yield, winner, refusal⟩⟩

theorem Syn.reset_kept : Syn.reset.Kept := by constructor <;> simp [Syn.reset]

section record
variable {y : Syn} (h : y.Kept)
include h

/-! ### What the invariant excludes -/

theorem Syn.Kept.no_claim (state : y.state ≠ .claiming) : y.claim = none :=
  Option.not_isSome_iff_eq_none.1 fun claimed => state (h.claim.1 claimed)

theorem Syn.Kept.no_hold (unclaimed : y.claim = none) : y.holdTimer = none :=
  Option.not_isSome_iff_eq_none.1 fun runs => by
    obtain ⟨c, claimed, -⟩ := h.hold runs
    exact nomatch unclaimed.symm.trans claimed

theorem Syn.Kept.no_retry (state : y.state ≠ .idle) : y.retryTimer = none :=
  Option.not_isSome_iff_eq_none.1 fun runs => state (h.retry runs).1

theorem Syn.Kept.no_yield (state : y.state ≠ .yielded) : y.yieldTimer = none :=
  Option.not_isSome_iff_eq_none.1 fun runs => state (h.yield runs)

theorem Syn.Kept.no_winner (state : y.state ≠ .yielded) : y.winner = none :=
  Option.not_isSome_iff_eq_none.1 fun waits => state (h.winner waits)

/-- Without a claim there is none to drop, and no hold timer to stop. -/
theorem Syn.Kept.dropClaim_of_no_claim (unclaimed : y.claim = none) : y.dropClaim = y := by
  rw [Syn.dropClaim, ← h.no_hold unclaimed, ← unclaimed]

/-! ### Writes that leave state, request and claim -/

theorem Syn.Kept.avrOff : y.avrOff.Kept := { h with avr := nofun }

theorem Syn.Kept.count {n : Nat} (permit : n ≤ 1) (refusal : y.refusalTimer.isSome → n = 0) :
    ({ y with permitCount := n } : Syn).Kept := { h with permit, refusal }

theorem Syn.Kept.dead_after (r : Record) : ({ y with deadCount := deadAfter y.deadCount r } : Syn).Kept := by
  have dead : deadAfter y.deadCount r ≤ 3 := by
    unfold deadAfter
    split_ifs
    · exact Nat.zero_le _
    · exact Nat.min_le_left _ _
    · exact Nat.zero_le _
  exact { h with dead }

theorem Syn.Kept.tripped : y.tripped.Kept := { h with }

theorem Syn.Kept.syncTaken : y.syncTaken.Kept := { h with avr := nofun, sync := nofun }

theorem Syn.Kept.deadTaken : y.deadTaken.Kept := by
  unfold Syn.deadTaken
  split
  · exact { h with sync := nofun }
  · exact h

theorem Syn.Kept.syncRefused (due : Timer) : (y.syncRefused due).Kept :=
  { h with permit := Nat.zero_le 1, refusal := fun _ => rfl }

/-! ### Writes of the claim and of the state -/

/-- The claim is made in SYNCHRONIZING (R133). -/
theorem Syn.Kept.claims (state : y.state = .synchronizing) (sections : SectionSet) :
    ({ y.avrOff with state := .claiming, claim := some { sections := sections, phase := .pending } } : Syn).Kept :=
  { h with
    avr := nofun
    claim := by simp
    request := fun _ => h.request (by simp [state])
    retry := by simp [Syn.avrOff, h.no_retry (by simp [state])]
    hold := by simp [Syn.avrOff, h.no_hold (h.no_claim (by simp [state]))]
    yield := by simp [Syn.avrOff, h.no_yield (by simp [state])]
    winner := by simp [Syn.avrOff, h.no_winner (by simp [state])] }

/-- Back to SYNCHRONIZING with a request held and no claim (R136, R139). -/
theorem Syn.Kept.resume (held : y.request.isSome) (state : y.state ≠ .idle) : y.dropClaim.resume.Kept :=
  { h with
    permit := Nat.zero_le 1
    claim := by simp [Syn.dropClaim, Syn.resume]
    request := fun _ => held
    retry := by simp [Syn.dropClaim, Syn.resume, h.no_retry state]
    hold := nofun
    yield := nofun
    winner := nofun
    refusal := fun _ => rfl }

/-- A yield with a request held (R134). -/
theorem Syn.Kept.yielded (held : y.request.isSome) (state : y.state ≠ .idle) (winner : Option StationNo) (due : Timer) :
    ({ y.dropClaim.avrOff with state := .yielded, winner := winner, yieldTimer := due } : Syn).Kept :=
  { h with
    avr := nofun
    claim := by simp [Syn.dropClaim, Syn.avrOff]
    request := fun _ => held
    retry := by simp [Syn.dropClaim, Syn.avrOff, h.no_retry state]
    hold := nofun
    yield := fun _ => rfl
    winner := fun _ => rfl }

/-- The end of a request (R124). -/
theorem Syn.Kept.endRequest (failed : Bool) : (y.dropClaim.endRequest failed).Kept :=
  { h with
    permit := Nat.zero_le 1
    avr := nofun
    claim := by cases failed <;> simp [Syn.dropClaim, Syn.endRequest, Syn.avrOff]
    request := by cases failed <;> simp [Syn.endRequest]
    sync := nofun
    retry := nofun
    hold := nofun
    yield := nofun
    winner := nofun
    refusal := nofun }

/-- The wait for the second attempt (R131). -/
theorem Syn.Kept.awaits_retry (held : y.request.isSome) (due : Timer) :
    ({ y.dropClaim.avrOff with
      state := .idle, permitCount := 0, winner := none, syncTimer := none, yieldTimer := none,
      retryTimer := due } : Syn).Kept :=
  { h with
    permit := Nat.zero_le 1
    avr := nofun
    claim := by simp [Syn.dropClaim, Syn.avrOff]
    request := by simp
    sync := nofun
    retry := fun _ => ⟨rfl, held⟩
    hold := nofun
    yield := nofun
    winner := nofun
    refusal := fun _ => rfl }

/-- The second attempt starts from IDLE (R131). -/
theorem Syn.Kept.retries (held : y.request.isSome) (state : y.state = .idle) (due : Timer) :
    ({ y with state := .synchronizing, attempt := 2, retryTimer := none, syncTimer := due } : Syn).Kept :=
  { h with
    attempt := .inr rfl
    claim := by simp [h.no_claim (by simp [state])]
    request := fun _ => held
    sync := fun _ => held
    retry := nofun
    yield := by simp [h.no_yield (by simp [state])]
    winner := by simp [h.no_winner (by simp [state])] }

/-- A request is taken where none is held (R123). -/
theorem Syn.Kept.takes (free : y.request = none) (q : SynRequest) (due : Timer) :
    ({ y with
      state := .synchronizing, request := some q, attempt := 1, permitCount := 0, syncTimer := due,
      closeTaken := false } : Syn).Kept := by
  have state : y.state ≠ .claiming ∧ y.state ≠ .yielded := by
    refine ⟨fun claiming => ?_, fun yielded => ?_⟩
    · simpa [free, claiming] using h.request
    · simpa [free, yielded] using h.request
  exact { h with
    permit := Nat.zero_le 1
    attempt := .inl rfl
    claim := by simp [h.no_claim state.1]
    request := fun _ => rfl
    sync := fun _ => rfl
    retry := fun runs => by simpa [free] using (h.retry runs).2
    yield := by simp [h.no_yield state.2]
    winner := by simp [h.no_winner state.2]
    refusal := fun _ => rfl }

/-- The request held becomes the CSQ's (R123). -/
theorem Syn.Kept.handed (q : SynRequest) : ({ y with request := some q } : Syn).Kept :=
  { h with request := fun _ => rfl, sync := fun _ => rfl, retry := fun runs => ⟨(h.retry runs).1, rfl⟩ }

/-- The CLAIM has left its slot, and the hold starts (R133). -/
theorem Syn.Kept.holds {c : Claim} (claimed : y.claim = some c) (due : Timer) :
    ({ y with claim := some { c with phase := .holding }, holdTimer := due } : Syn).Kept :=
  { h with
    claim := by simpa [claimed] using h.claim
    hold := fun _ => ⟨_, rfl, rfl⟩ }

/-- The claim is WON (R137). -/
theorem Syn.Kept.wins {c : Claim} (claimed : y.claim = some c) :
    ({ y with claim := some { c with phase := .won }, holdTimer := none } : Syn).Kept :=
  { h with claim := by simpa [claimed] using h.claim, hold := nofun }

/-- RESET_ALARM (R131). -/
theorem Syn.Kept.resetAlarm : y.resetAlarm.Kept := by
  by_cases failed : y.state = .syncFailed
  · exact { h with
      claim := by simp [Syn.resetAlarm, failed, h.no_claim (by simp [failed])]
      request := by simp [Syn.resetAlarm, failed]
      retry := by simp [Syn.resetAlarm, failed, h.no_retry (by simp [failed])]
      yield := by simp [Syn.resetAlarm, failed, h.no_yield (by simp [failed])]
      winner := by simp [Syn.resetAlarm, failed, h.no_winner (by simp [failed])] }
  · have same : y.resetAlarm = { y with failedAlarm := false } := by simp [Syn.resetAlarm, failed]
    rw [same]
    exact { h with }

end record

end Sys2Proof.Machine
end

section
/-! PROOFS. The operations of the synchronizer keep the invariant of its record; the operations of the other blocks
write the record through these alone. -/

namespace Sys2Proof.Machine

variable {s t : State}

/-! ### What the invariant reads -/

/-- The fields that the invariant does not read. -/
def asideSynFields : List Fld :=
  [.localTime, .pins, .settings, .siu, .cme, .pes, .bkc, .cds, .sli, .ptb, .lsc, .csq, .drc, .ssc, .due, .freeCount,
    .pending]

theorem SynKept.of_syn (h : t.syn.Kept) : SynKept t := (synKept_iff t).2 h

section operations
variable (h : SynKept s)
include h

theorem SynKept.syn : s.syn.Kept := (synKept_iff s).1 h

theorem SynKept.only (k : Only asideSynFields s t) : SynKept t :=
  .of_syn ((k.get .syn (by decide) : t.syn = s.syn) ▸ h.syn)

/-! ### Shared operations -/

theorem SynKept.inForce {act : Settings → State → State} (ha : ∀ st, SynKept (act st s)) :
    SynKept (s.inForce act) :=
  State.inForce_cases (p := SynKept) h fun st _ => ha st

theorem SynKept.atWork {act : Settings → State → State} (ha : ∀ st, SynKept (act st s)) : SynKept (s.atWork act) := by
  refine h.inForce fun st => ?_
  split
  · exact ha st
  · exact h

theorem SynKept.take (d : Delivery) : SynKept (s.take d) := h.only (Only.take d (by decide) Only.refl)

theorem SynKept.send (d : Delivery) : SynKept (s.send d) := h.only (Only.send d (by decide) Only.refl)

theorem SynKept.withSli (x : Sli) : SynKept (s.withSli x) := h.only (Only.withSli (by decide) Only.refl x)

theorem SynKept.withCsq (x : Csq) : SynKept (s.withCsq x) := h.only (Only.withCsq (by decide) Only.refl x)

theorem SynKept.withPes (x : Pes) : SynKept (s.withPes x) := h.only (Only.withPes (by decide) Only.refl x)

theorem SynKept.withSsc (x : Ssc) : SynKept (s.withSsc x) := h.only (Only.withSsc (by decide) Only.refl x)

/-- The owner of a timer acts at its expiry on a record that still shows the timer running. -/
theorem SynKept.expire {tm : Timer} {act : State → State}
    (ha : ∀ u, SynKept u → u.syn = s.syn → tm.isSome → SynKept (act u)) : SynKept (expire tm s act) := by
  cases tm with
  | none => exact h
  | some due => exact ha _ (h.only (Only.reach due (by decide) Only.refl)) (s.reach_syn due) rfl

/-! ### Claims -/

theorem SynKept.judgeEligible : SynKept (judgeEligible s) := by
  refine h.inForce fun st => ?_
  split
  · next eligible =>
    have state : s.syn.state = .synchronizing := by
      simp only [State.eligible, Bool.and_eq_true, beq_iff_eq] at eligible
      tauto
    exact .of_syn (h.syn.claims state _)
  · exact h

/-- Without a claim, giving one up changes nothing. -/
theorem SynKept.giveUpClaim_syn : (giveUpClaim s).syn = s.syn.dropClaim := by
  rw [Machine.giveUpClaim_syn]
  split
  · rfl
  · next unclaimed => rw [h.syn.dropClaim_of_no_claim (Option.not_isSome_iff_eq_none.1 unclaimed)]

theorem SynKept.working (state : s.syn.state = .claiming ∨ s.syn.state = .yielded) :
    s.syn.request.isSome ∧ s.syn.state ≠ .idle := by
  obtain state | state := state <;> exact ⟨h.syn.request (by simp [state]), by simp [state]⟩

theorem SynKept.withdrawClaim (claiming : s.syn.state = .claiming) : SynKept (withdrawClaim s) := by
  obtain ⟨held, state⟩ := h.working (.inl claiming)
  refine SynKept.judgeEligible (.of_syn ?_)
  rw [State.withSyn_syn, h.giveUpClaim_syn]
  exact h.syn.resume held state

theorem SynKept.resume (yielded : s.syn.state = .yielded) : s.syn.resume.Kept := by
  obtain ⟨held, state⟩ := h.working (.inr yielded)
  have unclaimed := h.syn.no_claim (by simp [yielded])
  exact h.syn.dropClaim_of_no_claim unclaimed ▸ h.syn.resume held state

theorem SynKept.leaveYielded (yielded : s.syn.state = .yielded) : SynKept (leaveYielded s) :=
  SynKept.judgeEligible (.of_syn (h.resume yielded))

theorem SynKept.yieldTo (claiming : s.syn.state = .claiming) (claimants : List StationNo) :
    SynKept (yieldTo claimants s) := by
  obtain ⟨held, state⟩ := h.working (.inl claiming)
  refine .of_syn ?_
  rw [Machine.yieldTo, State.withSyn_syn, h.giveUpClaim_syn]
  exact h.syn.yielded held state _ _

theorem SynKept.lowerWinner (yielded : s.syn.state = .yielded) (claimants : List StationNo) :
    SynKept (lowerWinner claimants s) := by
  unfold Machine.lowerWinner
  repeat' split
  · exact h
  · exact .of_syn { h.syn with winner := fun _ => yielded }
  · exact h

theorem SynKept.claimLeft : SynKept (claimLeft s) := by
  unfold Machine.claimLeft
  repeat' split
  · next claimed _ => exact .of_syn (h.syn.holds claimed _)
  · exact h
  · exact h

theorem SynKept.deadRefused : SynKept (deadRefused s) := by
  unfold Machine.deadRefused
  split
  · next won =>
    have claimed : s.syn.claim.isSome := by cases claim : s.syn.claim <;> simp [claim] at won ⊢
    obtain ⟨held, state⟩ := h.working (.inl (h.syn.claim.1 claimed))
    refine .of_syn ?_
    rw [State.withSyn_syn, h.giveUpClaim_syn]
    exact { h.syn.resume held state with refusal := fun _ => rfl }
  · exact h

theorem SynKept.syncRefused : SynKept (syncRefused s) := by
  obtain ⟨-, refused⟩ | ⟨-, refused⟩ := syncRefused_cases s <;> rw [refused]
  · exact .of_syn (h.syn.syncRefused _)
  · exact h

/-! ### Requests -/

theorem SynKept.endTold (o : SynOutcome) : SynKept (endTold o s) := by
  unfold Machine.endTold
  split
  · refine .of_syn ?_
    rw [State.send_syn, endRequest_syn]
    exact h.syn.endRequest _
  · exact h

theorem SynKept.synCancel : SynKept (synCancel s) := h.endTold _

theorem SynKept.synTrip (closing : Bool) : SynKept (synTrip closing s) := by
  obtain ⟨-, -, -, noted⟩ | ⟨-, cancelled⟩ := synTrip_cases closing s
  · exact noted ▸ .of_syn h.syn.tripped
  · exact cancelled ▸ h.synCancel

theorem SynKept.takeRequest (free : s.syn.request = none) (requester : Requester) (st : Settings) :
    SynKept (takeRequest requester st s) :=
  SynKept.judgeEligible (.of_syn (h.syn.takes free _ _))

theorem SynKept.sequenceRequest : SynKept (sequenceRequest s) := by
  refine h.inForce fun st => ?_
  repeat' split
  · exact h
  · exact h.takeRequest ‹_› _ _
  · exact .of_syn (h.syn.handed _)

theorem SynKept.synWithdraw : SynKept (synWithdraw s) := by
  unfold Machine.synWithdraw
  split
  · exact h.endTold _
  · exact h

/-! ### Cycle completions, views and claim frames -/

theorem SynKept.evaluatePermit (st : Settings) (r : Record) : SynKept (evaluatePermit st r s) := by
  obtain ⟨-, kept⟩ | ⟨-, none⟩ | ⟨-, -, -, second⟩ | ⟨-, wait, first, counted⟩ := evaluatePermit_cases st r s
  · rwa [kept]
  · rw [none]
    exact .of_syn (h.syn.count (Nat.zero_le 1) fun _ => rfl)
  · rw [second]
    exact .of_syn (h.syn.count (Nat.zero_le 1) fun _ => rfl)
  · have permit := h.syn.permit
    rw [counted]
    exact .of_syn (h.syn.count (by omega) (by simp [wait]))

/-- A pulse raises or lowers, as the bus stands above or below (R130). -/
theorem SynKept.avrCheck (st : Settings) (r : Record) : SynKept (avrCheck st r s) := by
  unfold Machine.avrCheck
  dsimp only
  split
  · exact .of_syn { h.syn with avr := fun raise => by simp at raise ⊢; omega }
  · exact h

theorem SynKept.claimingCycle (claiming : s.syn.state = .claiming) : SynKept (claimingCycle s) := by
  unfold Machine.claimingCycle
  split
  · exact h.withdrawClaim claiming
  · exact h

theorem SynKept.claimingView (claiming : s.syn.state = .claiming) (st : Settings) (c : Claim) :
    SynKept (claimingView st c s) := by
  unfold Machine.claimingView
  dsimp only
  split_ifs
  · exact h.yieldTo claiming _
  · exact h.withdrawClaim claiming
  · exact h

theorem SynKept.yieldedView (yielded : s.syn.state = .yielded) (st : Settings) : SynKept (yieldedView st s) := by
  unfold Machine.yieldedView
  dsimp only
  split
  · exact (h.lowerWinner yielded _).leaveYielded ((lowerWinner_state _ s).trans yielded)
  · exact h.lowerWinner yielded _

theorem SynKept.synClaimFrame (n : StationNo) (x : SectionSet) : SynKept (synClaimFrame n x s) := by
  refine h.inForce fun st => ?_
  split
  · repeat' split
    · exact h.yieldTo ‹_› _
    · exact h
    · exact h
  · split
    · exact h.lowerWinner ‹_› _
    · exact h
  · exact h

theorem SynKept.synWithdrawFrame (n : StationNo) : SynKept (synWithdrawFrame n s) := by
  unfold Machine.synWithdrawFrame
  split
  · next waits => exact h.leaveYielded waits.1
  · exact h

/-! ### The changeover sequencer -/

theorem SynKept.handRequest : SynKept (handRequest s) := by
  unfold Machine.handRequest
  split
  · exact h
  · exact h.sequenceRequest.withCsq _

theorem SynKept.withdrawRequest : SynKept (withdrawRequest s) := h.synWithdraw.withCsq _

theorem SynKept.enterRetransfer (st : Settings) : SynKept (enterRetransfer st s) := by
  unfold Machine.enterRetransfer
  dsimp only
  split
  · exact (h.withCsq _).handRequest
  · exact h.withCsq _

theorem SynKept.incomerDelayEnds (st : Settings) : SynKept (incomerDelayEnds st s) := by
  unfold Machine.incomerDelayEnds
  split
  · exact h.enterRetransfer st
  · exact h

theorem SynKept.incomerEvaluated (st : Settings) : SynKept (incomerEvaluated st s) := by
  unfold Machine.incomerEvaluated
  repeat' split
  · exact h
  · exact h.only (Only.returnOrLost st (by decide) Only.refl)
  · exact h.withdrawRequest.only (Only.returnOrLost st (by decide) Only.refl)
  · exact h

theorem SynKept.incomerTick (st : Settings) : SynKept (incomerHand (incomerRunOut st (incomerMonitor st s))) := by
  have monitored : SynKept (incomerMonitor st s) := h.only (Only.incomerMonitor st (by decide) (by decide) Only.refl)
  have run_out : SynKept (incomerRunOut st (incomerMonitor st s)) := by
    unfold incomerRunOut
    split
    · exact monitored.enterRetransfer st
    · exact monitored
  unfold incomerHand
  split
  · exact run_out.handRequest
  · exact run_out

theorem SynKept.generatorTick (st : Settings) :
    SynKept (generatorShown (generatorDelay st (generatorReady st (generatorStarting st s)))) := by
  have starting : SynKept (generatorStarting st s) := h.only (Only.generatorStarting st (by decide) Only.refl)
  have ready : SynKept (generatorReady st (generatorStarting st s)) := by
    unfold generatorReady
    split_ifs
    · exact starting
    · exact starting.withdrawRequest.only (Only.toCooldown st (by decide) Only.refl)
    · exact starting.handRequest
    · exact starting
  exact ready.only (Only.generatorShown (by decide) (Only.generatorDelay st (by decide) Only.refl))

theorem SynKept.tieTest (st : Settings) : SynKept (tieTest st s) := by
  unfold Machine.tieTest
  repeat' split
  · exact (h.withCsq _).handRequest
  · exact h
  · exact h.withdrawRequest.only (Only.tieOpened (by decide) Only.refl)
  · exact h
  · exact h

/-- The tests of every event, by the role. -/
theorem SynKept.csqTick (st : Settings) : SynKept (csqTick st s) := by
  unfold Machine.csqTick
  split
  · split
    · exact h.incomerTick st
    · exact h.generatorTick st
    · exact h.tieTest st
    · exact h.only (Only.feederRestore st (by decide) (by decide) Only.refl)
  · exact h

theorem SynKept.csqEvent {act : Settings → State → State} (ha : ∀ st, SynKept (act st s)) :
    SynKept (csqEvent act s) :=
  h.inForce fun st => (ha st).csqTick st

theorem SynKept.whenRunning {act : Settings → State → State} {st : Settings} (ha : SynKept (act st s)) :
    SynKept (whenRunning act st s) := by
  unfold Machine.whenRunning
  split
  · exact ha
  · exact h

/-- An event of the sequencer whose act is its own. -/
theorem SynKept.sequenceEvent {act : Settings → State → State} (ha : ∀ st, Only asideSynFields s (act st s)) :
    SynKept (Machine.csqEvent act s) :=
  h.csqEvent fun st => h.only (ha st)

theorem SynKept.tellTrip : SynKept (tellTrip s) := by
  refine h.sequenceEvent fun st => Only.whenRunning _ st (fun st u k => ?_) Only.refl
  split
  · exact Only.feederTo _ (by decide) k
  · exact k

theorem SynKept.tellLockoutClear : SynKept (tellLockoutClear s) := by
  refine h.sequenceEvent fun st => Only.whenRunning _ st (fun st u k => ?_) Only.refl
  split_ifs
  · exact k
  · exact Only.feederTo _ (by decide) k
  · exact Only.feederTo _ (by decide) k

theorem SynKept.tellOpenRequest : SynKept (tellOpenRequest s) := by
  refine h.sequenceEvent fun st => Only.whenRunning _ st (fun st u k => ?_) Only.refl
  split
  · exact Only.feederTo _ (by decide) k
  · exact k

theorem SynKept.csqResetAlarm : SynKept (csqResetAlarm s) := by
  refine (h.withCsq _).sequenceEvent fun st => Only.whenRunning _ st (fun st u k => ?_) Only.refl
  split
  · exact Only.toCsq _ (by decide) k
  · exact Only.derive st (by decide) (by decide) (by decide) k
  · exact k

theorem SynKept.transferTestStart : SynKept (transferTestStart s) := by
  unfold Machine.transferTestStart
  split
  · exact h
  · exact h.csqEvent fun st => (h.withCsq _).withCsq _

theorem SynKept.transferTestEnd : SynKept (transferTestEnd s) := by
  unfold Machine.transferTestEnd
  split
  · exact h.csqEvent fun st => (h.withCsq _).withCsq _
  · exact h

/-! ### The protection elements -/

theorem SynKept.publishPes (afterCycle : Bool) : SynKept (publishPes afterCycle s) :=
  h.only (Only.publishPes _ (by decide) Only.refl)

/-- Of what a PES event tells, the trip reaches the sequencer (R38, R172). -/
theorem SynKept.pesFinish (station : StationState) (before : Pes) (claim : Option TripCause) :
    SynKept (pesFinish station before claim s) := by
  unfold Machine.pesFinish operate
  repeat' split
  · exact h.send _
  · exact (((h.withSli _).send _).send _).tellTrip
  · exact h.send _
  · exact h

theorem SynKept.takeExtTrip (station : StationState) (before : Pes) (st : Settings) :
    SynKept (takeExtTrip station before st s) := by
  unfold Machine.takeExtTrip
  split_ifs
  · exact h.pesFinish _ _ _
  · exact (h.withPes _).pesFinish _ _ _
  · exact h.pesFinish _ _ _
  · exact (h.withPes _).pesFinish _ _ _

theorem SynKept.extTripChange : SynKept (extTripChange s) := by
  refine h.inForce fun st => ?_
  split
  · exact (h.takeExtTrip _ _ _).publishPes _
  · exact h

theorem SynKept.takePassage (a b : StationState) (st : Settings) : SynKept (takePassage a b st s) := by
  unfold Machine.takePassage
  split_ifs
  · exact h.withPes _
  · exact (h.withPes _).takeExtTrip _ _ _
  · exact h.takeExtTrip _ _ _
  · exact h

theorem SynKept.takeTransfer (st : Settings) (n : StationNo) (sections : SectionSet) :
    SynKept (takeTransfer st n sections s) := by
  unfold Machine.takeTransfer
  dsimp only
  split_ifs
  · exact (h.withPes _).pesFinish _ _ _
  · exact (h.withPes _).pesFinish _ _ _
  · exact (h.withPes _).pesFinish _ _ _
  · exact h

theorem SynKept.transferNotice (n : StationNo) (sections : SectionSet) : SynKept (transferNotice n sections s) := by
  refine h.inForce fun st => ?_
  split
  · exact (h.takeTransfer st _ _).publishPes _
  · exact h

theorem SynKept.transferReport (n : StationNo) (body : Option ReportBody) : SynKept (transferReport n body s) := by
  refine h.inForce fun st => ?_
  split
  · exact h
  split
  · refine SynKept.publishPes ?_ _
    split
    · exact h.takeTransfer st _ _
    · exact h.only (Only.removeOrigin _ (by decide) Only.refl)
  · exact h

/-! ### The breaker controller -/

theorem SynKept.takeOpening (purpose : Purpose) : SynKept (takeOpening purpose s) :=
  (h.only (Only.abortAndOpen purpose (by decide) (by decide) Only.refl)).synCancel

theorem SynKept.takeTrip (cause : TripCause) (st : Settings) : SynKept (takeTrip cause st s) := by
  have opened : SynKept (abortAndOpen .protection s) := h.only (Only.abortAndOpen _ (by decide) (by decide) Only.refl)
  exact (opened.synTrip (s.bkc.state == .closing)).only
    (Only.armFailure st (by decide) (Only.withBkc (by decide) (Only.setLockout (by decide) (by decide) Only.refl) _))

theorem SynKept.tellTaken (purpose : ClosePurpose) : SynKept (tellTaken purpose s) := by
  cases purpose
  · exact .of_syn h.syn.syncTaken
  · exact .of_syn h.syn.deadTaken
  · exact h.only (Only.tellFeederTaken (by decide) Only.refl)

theorem SynKept.tellRefused (purpose : ClosePurpose) : SynKept (tellRefused purpose s) := by
  cases purpose
  · exact h.syncRefused
  · exact h.deadRefused
  · exact h.only (Only.tellFeederRefused (by decide) Only.refl)

theorem SynKept.lockoutClear (st : Settings) : SynKept (lockoutClear st s) := by
  unfold Machine.lockoutClear
  split
  · exact h
  · exact (h.only (Only.dropLockout (by decide) Only.refl)).tellLockoutClear

/-- An operator's request is taken only where none is held (R123). -/
theorem SynKept.operatorClose (st : Settings) : SynKept (operatorClose st s).1 := by
  by_cases passes : s.generalCheck = none
  · by_cases role : st.station.role = .feeder
    · rw [operatorClose_of_feeder role passes]
      split
      · exact h.only (Only.takeClose _ st (by decide) (by decide) Only.refl)
      · exact h
    · rw [operatorClose_of_other role passes]
      split
      · next taken => exact h.takeRequest (operatorAnswer_taken_iff.1 taken).2 _ _
      · exact h
  · rwa [operatorClose_of_barred passes]

/-! ### The inputs, and the end of START -/

theorem SynKept.takeInput (i : Input) (level : Bool) : SynKept (takeInput i level s) := by
  cases i
  case bkrClosed | bkrOpen => exact h.only (Only.contactChange (by decide) (by decide) Only.refl)
  case rackedIn => exact h.only (Only.rackChange (by decide) (by decide) Only.refl)
  case localOpen =>
    refine h.atWork fun st => ?_
    split
    · exact h.takeOpening _
    · exact h
  case localClose =>
    refine h.atWork fun st => ?_
    split
    · exact h.operatorClose st
    · exact h
  case lockoutReset =>
    refine h.atWork fun st => ?_
    split
    · exact h.lockoutClear st
    · exact h
  case extTrip => exact h.extTripChange
  case genReady => exact h.csqEvent fun _ => h
  case gin1 | gin2 | gin3 | gin4 => exact h.only (Only.generalInputChange _ _ (by decide) (by decide) Only.refl)
  all_goals exact h

theorem SynKept.debounced (i : Input) : SynKept (debounced i s) := by
  unfold Machine.debounced
  dsimp only
  split
  · exact h.withSsc _
  · exact SynKept.takeInput (((h.withSsc _).withSsc _).only (Only.inputEvent _ _ (by decide) Only.refl)) _ _

/-- The end of START: the synchronizer has seen the lockout (R62). -/
theorem SynKept.startBreaker : SynKept (startBreaker s) := by
  have derived : SynKept (deriveBreaker s) := h.only (Only.deriveBreaker (by decide) (by decide) Only.refl)
  exact SynKept.of_syn { derived.syn with }

theorem SynKept.beginService : SynKept (beginService s) :=
  h.only (Only.beginService (by decide) (by decide) (by decide) (by decide) (by decide) Only.refl)

theorem SynKept.enterPresence (st : Settings) (clamped : Bool) : SynKept (enterPresence st clamped s) :=
  SynKept.beginService (SynKept.startBreaker (SynKept.withSli (SynKept.withSsc
    (h.only (Only.withSettings (by decide) Only.refl (some st))) _) _))

theorem SynKept.failAttempt : SynKept (failAttempt s) :=
  h.only (Only.failAttempt (by decide) (by decide) (by decide) (by decide) (by decide) (by decide) Only.refl)

/-! ### The link -/

theorem SynKept.onLine {act : State → State} (ha : SynKept (act s)) : SynKept (s.onLine act) := by
  unfold State.onLine
  split
  · exact h
  · exact ha

theorem SynKept.leaveFlight (f : Flight) : SynKept (leaveFlight f s) := by
  unfold Machine.leaveFlight
  dsimp only
  split
  · exact (h.withSli _).claimLeft
  · exact h.withSli _

theorem SynKept.enterConflict : SynKept (enterConflict s) :=
  h.only (Only.enterConflict (by decide) (by decide) Only.refl)

theorem SynKept.hearing {act : State → State} (ha : ∀ u, SynKept u → SynKept (act u)) : SynKept (s.hearing act) := by
  refine h.onLine ?_
  split
  · exact ha _ (h.withSli _)
  · exact h

theorem SynKept.filtered {n : StationNo} {act : State → State} (ha : ∀ u, SynKept u → SynKept (act u)) :
    SynKept (filtered n act s) := by
  refine h.hearing fun u hu => ?_
  split_ifs
  · exact hu.enterConflict
  · exact hu
  · exact ha u hu

theorem SynKept.claimFrame (n : StationNo) (c : ClaimField) : SynKept (claimFrame n c s) :=
  h.only (Only.claimFrame n c (by decide) (by decide) Only.refl)

theorem SynKept.reportHeard (n : StationNo) (r : Report) : SynKept (reportHeard n r s) := by
  unfold Machine.reportHeard
  split
  · exact h
  · exact (h.only (Only.takeReport n r (by decide) (by decide) Only.refl)).transferReport n r.body

/-! ### The requests -/

theorem SynKept.intake {code : Byte} {known broadcastable : Bool} {r : Request} {owner : State → Answer}
    (ha : ∀ u, SynKept u → SynKept (owner u).state) : SynKept (intake code known broadcastable r owner s) := by
  refine h.hearing fun u hu => ?_
  split
  · exact hu
  dsimp only
  split
  · refine SynKept.withSli ?_ _
    unfold Machine.judge
    split_ifs <;> first | exact hu | exact ha u hu
  · exact hu

theorem SynKept.withForce {owner : Settings → State → Answer} (ha : ∀ st, SynKept (owner st s).state) :
    SynKept (withForce owner s).state := by
  unfold Machine.withForce
  split
  · exact h
  · exact ha _

variable (r : Request) (st : Settings)

theorem SynKept.ownOpen : SynKept (ownOpen r st s).state := by
  unfold Machine.ownOpen
  split_ifs
  · exact h
  · exact h
  · exact h
  · exact (h.only (Only.unloadOrder _ (by decide) (by decide) (by decide) Only.refl)).tellOpenRequest
  · exact (h.takeOpening _).tellOpenRequest

theorem SynKept.ownClose : SynKept (ownClose r st s).state := by
  unfold Machine.ownClose
  split_ifs
  · exact h
  · exact h
  · exact h.operatorClose st

theorem SynKept.ownResetLockout : SynKept (ownResetLockout r st s).state := by
  unfold Machine.ownResetLockout
  split_ifs
  · exact h
  · exact h
  · exact h
  · exact h.lockoutClear st

theorem SynKept.ownResetAlarm : SynKept (ownResetAlarm r s).state := by
  unfold Machine.ownResetAlarm
  split
  · exact h
  · exact .of_syn h.csqResetAlarm.syn.resetAlarm

theorem SynKept.ownTransferTest : SynKept (ownTransferTest r st s).state := by
  unfold Machine.ownTransferTest
  split_ifs <;> first | exact h | exact h.transferTestStart | exact h.transferTestEnd

theorem SynKept.ownInhibit : SynKept (ownInhibit r st s).state := by
  unfold Machine.ownInhibit
  split_ifs <;> first | exact h | exact h.csqEvent fun _ => h.withCsq _

theorem SynKept.ownRetransferNow : SynKept (ownRetransferNow r st s).state := by
  unfold Machine.ownRetransferNow
  split_ifs <;> first | exact h | exact h.csqEvent fun st => h.enterRetransfer st

end operations

end Sys2Proof.Machine
end

section
/-! PROOFS. Every step keeps the synchronizer's record (R121, R122, R128, R131, R133, R139): the commands that leave it
by their frame, the others by what their operations do to it. -/

namespace Sys2Proof.Machine

variable {s : State}

/-! ### The commands that leave the record -/

/-- The commands that write the synchronizer's record: its own, those of the sequencer, the claims and answers of the
breaker controller, and those that may trip, drive or close the breaker or end START. -/
def writesSyn : Instr → Bool
  | .reset _ _ | .settingsImageRead _ | .debounceExpiry _ => true
  | .tripClaim _ _ | .openClaim _ | .closeClaim _ | .frameCompleted | .transmitBitError => true
  | .bfTransferReceived _ _ | .claimReceived _ _ | .claimWithdrawReceived _ | .reportReceived _ _ => true
  | .openRequest _ | .closeRequest _ | .resetLockout _ | .resetAlarm _ | .transferTest _ | .retransferInhibit _
  | .retransferNow _ => true
  | .pesCycleEvaluation | .pesStationStateChange _ _ => true
  | .synCycleCompletion | .synViewEvent | .synBreakerRecord | .synStationStateChange _ _ | .syncTimerExpiry
  | .synRetryExpiry | .holdTimerExpiry | .yieldTimerExpiry | .refusalWaitExpiry | .avrPulseEnd
  | .avrSpacingExpiry => true
  | .csqCycleCompletion | .csqViewEvent | .csqBreakerRecord | .csqPesPublication | .csqSynOutcome _ | .csqLscMode
  | .csqAutoEntry | .csqAutoExit | .failureConfirmExpiry | .retransferDelayExpiry | .overlapBackupExpiry
  | .startDelayExpiry | .startTimerExpiry | .cooldownExpiry | .shedDelayExpiry | .restoreWaitExpiry
  | .overloadTimerExpiry | .shedSettleExpiry => true
  | _ => false

/-- The other commands end as every command ends, after an effect on the other blocks. -/
theorem exec_only_asideSyn (c : Instr) (s : State) (h : writesSyn c = false) :
    ∃ u, exec c s = done s u ∧ Only asideSynFields s u := by
  cases c
  case reset | settingsImageRead | debounceExpiry | tripClaim | openClaim | closeClaim | frameCompleted
    | transmitBitError | bfTransferReceived | claimReceived | claimWithdrawReceived | reportReceived | openRequest
    | closeRequest | resetLockout | resetAlarm | transferTest | retransferInhibit | retransferNow | pesCycleEvaluation
    | pesStationStateChange | synCycleCompletion | synViewEvent | synBreakerRecord | synStationStateChange
    | syncTimerExpiry | synRetryExpiry | holdTimerExpiry | yieldTimerExpiry | refusalWaitExpiry | avrPulseEnd
    | avrSpacingExpiry | csqCycleCompletion | csqViewEvent | csqBreakerRecord | csqPesPublication | csqSynOutcome
    | csqLscMode | csqAutoEntry | csqAutoExit | failureConfirmExpiry | retransferDelayExpiry | overlapBackupExpiry
    | startDelayExpiry | startTimerExpiry | cooldownExpiry | shedDelayExpiry | restoreWaitExpiry | overloadTimerExpiry
    | shedSettleExpiry => cases h
  all_goals
    refine ⟨_, rfl, ?_⟩
    repeat' first
      | with_reducible exact Only.refl
      | assumption
      | decide
      | dsimp only
      | intro _
      | with_reducible first
        | apply Only.expire | apply Only.take | apply Only.inForce | apply Only.reach | apply Only.notifyAll
        -- settings, inputs and service
        | apply Only.failAttempt | apply Only.withSsc | apply Only.withPins
        -- measurement and recorder
        | apply Only.withSiu | apply Only.withCme | apply Only.recording | apply Only.levelTriggers
        | apply Only.withDrc | apply Only.takeTrigger
        -- protection
        | apply Only.publishPes | apply Only.removeOrigin
        -- breaker and coils
        | apply Only.closeOff | apply Only.tripOff | apply Only.passTo | apply Only.tripDone | apply Only.failBreaker
        | apply Only.withBkc | apply Only.timerStart | apply Only.endStep | apply Only.abortRun | apply Only.withCds
        | apply Only.beginRun
        -- link and requests
        | apply Only.onLine | apply Only.hears | apply Only.hearing | apply Only.enterConflict
        | apply Only.conflictHeard | apply Only.filtered | apply Only.peerTrigger | apply Only.withSli
        | apply Only.intake | apply withForce_only | apply Only.taken | apply Only.refused
        | apply Only.observeAssignment | apply Only.assign
        -- peer table
        | apply Only.placeReport | apply Only.takeBreaker | apply Only.takeSequence | apply Only.takeClaim
        | apply Only.takeService | apply Only.publishView | apply Only.setEntry | apply Only.clearConflict
        | apply Only.withPtb
        -- load share controller
        | apply Only.lscEvent | apply Only.shareInterval | apply Only.endUnload | apply Only.overlapExpires
        | apply Only.overlapTest | apply Only.leaveConflict | apply Only.withLsc
      | split
      | unfold ownSetMode | unfold setMode | unfold ownDiagnostics | unfold ownCaptureTrigger | unfold ownDirectory
      | unfold ownRead | unfold readBlock | unfold ownRelease | unfold ownAssign | unfold echoAnswer | unfold judge

/-! ### The commands of the synchronizer -/

/-- A command ends as every command ends, after an effect that keeps the synchronizer's record. -/
def EndsSynKept (c : Instr) (s : State) : Prop := ∃ u, exec c s = done s u ∧ SynKept u

section commands
variable (h : SynKept s)
include h

theorem SynKept.counted (r : Record) : SynKept (s.counted r) := by
  refine .of_syn ((h.syn.dead_after r).count ?_ fun waits => ?_)
  · split
    · exact Nat.zero_le 1
    · exact h.syn.permit
  · split
    · rfl
    · exact h.syn.refusal waits

theorem synCycleCompletion_endsKept : EndsSynKept .synCycleCompletion s := by
  by_cases none : s.settings = none ∨ s.cme.record = none
  · exact ⟨_, synCycle_of_none none, h.take _⟩
  · rw [not_or] at none
    obtain ⟨st, set⟩ := Option.ne_none_iff_exists'.1 none.1
    obtain ⟨r, record⟩ := Option.ne_none_iff_exists'.1 none.2
    have counted := h.counted r
    obtain ⟨-, -, run⟩ | ⟨state, run⟩ | ⟨state, -, -, run⟩ | ⟨-, -, -, run⟩ := synCycle_cases set record
    · exact ⟨_, run, ((counted.evaluatePermit st r).avrCheck st r).judgeEligible⟩
    · exact ⟨_, run, counted.claimingCycle state⟩
    · exact ⟨_, run, .of_syn (counted.resume state)⟩
    · exact ⟨_, run, counted⟩

theorem synViewEvent_endsKept : EndsSynKept .synViewEvent s := by
  refine ⟨_, rfl, (h.take _).inForce fun st => ?_⟩
  split
  · exact (h.take _).judgeEligible
  · split
    · exact (h.take _).claimingView ‹_› st _
    · exact h.take _
  · exact (h.take _).yieldedView ‹_› st
  · exact h.take _
  · exact h.take _

theorem synBreakerRecord_endsKept : EndsSynKept .synBreakerRecord s := by
  refine ⟨_, rfl, ?_⟩
  have told : SynKept (match recordOutcome (s.take .synBreaker) with
      | some o => endTold o (s.take .synBreaker)
      | none => s.take .synBreaker) := by
    split
    · exact (h.take _).endTold _
    · exact h.take _
  exact .of_syn { told.syn with }

theorem syncTimerExpiry_endsKept : EndsSynKept .syncTimerExpiry s := by
  refine ⟨_, rfl, h.expire fun u hu same runs => ?_⟩
  split
  · exact hu.endTold _
  · refine .of_syn ?_
    rw [State.withSyn_syn, hu.giveUpClaim_syn]
    exact hu.syn.awaits_retry (hu.syn.sync (same ▸ runs)) _

theorem synRetryExpiry_endsKept : EndsSynKept .synRetryExpiry s := by
  refine ⟨_, rfl, h.expire fun u hu same runs => ?_⟩
  obtain ⟨state, held⟩ := hu.syn.retry (same ▸ runs)
  exact SynKept.judgeEligible (.of_syn (hu.syn.retries held state _))

theorem holdTimerExpiry_endsKept : EndsSynKept .holdTimerExpiry s := by
  refine ⟨_, rfl, h.expire fun u hu _ _ => ?_⟩
  split
  · exact .of_syn { hu.syn with hold := nofun }
  · next claimed =>
    split
    · exact .of_syn (hu.syn.wins claimed)
    · exact hu.withdrawClaim (hu.syn.claim.1 (by simp [claimed]))

theorem yieldTimerExpiry_endsKept : EndsSynKept .yieldTimerExpiry s :=
  ⟨_, rfl, h.expire fun _ hu same runs => hu.leaveYielded (hu.syn.yield (same ▸ runs))⟩

theorem refusalWaitExpiry_endsKept : EndsSynKept .refusalWaitExpiry s :=
  ⟨_, rfl, h.expire fun _ hu _ _ => SynKept.judgeEligible (.of_syn { hu.syn with refusal := nofun })⟩

/-! ### The commands of the other blocks -/

theorem settingsImageRead_endsSynKept (image : List Byte) : EndsSynKept (.settingsImageRead image) s := by
  refine ⟨_, rfl, ?_⟩
  repeat' split
  · exact h.enterPresence _ _
  · exact h.failAttempt
  · exact (h.withSsc _).beginService
  · exact h

/-- A frame that leaves tells the synchronizer when it is the CLAIM (R91, R133). -/
theorem frameCompleted_endsKept : EndsSynKept .frameCompleted s := by
  refine ⟨_, rfl, h.onLine ?_⟩
  split
  · exact h
  · exact (h.leaveFlight _).withSli _

theorem transmitBitError_endsKept : EndsSynKept .transmitBitError s := by
  refine ⟨_, rfl, h.onLine ?_⟩
  split
  · exact h
  · exact (h.leaveFlight _).withSli _

theorem closeClaim_endsKept (purpose : ClosePurpose) : EndsSynKept (.closeClaim purpose) s := by
  refine ⟨_, rfl, (h.take _).atWork fun st => ?_⟩
  split
  · exact SynKept.tellTaken ((h.take _).only (Only.takeClose _ st (by decide) (by decide) Only.refl)) _
  · exact (h.take _).tellRefused _

theorem pesCycleEvaluation_endsSynKept : EndsSynKept .pesCycleEvaluation s := by
  refine ⟨_, rfl, (h.take _).inForce fun st => ?_⟩
  repeat' split
  · exact h.take _
  · exact (((h.take _).withPes _).pesFinish _ _ _).publishPes _
  · exact h.take _

theorem pesStationStateChange_endsSynKept (a b : StationState) : EndsSynKept (.pesStationStateChange a b) s := by
  refine ⟨_, rfl, (h.take _).inForce fun st => ?_⟩
  split
  · exact h.take _
  · exact ((h.take _).takePassage a b st).publishPes _

/-- The events of the sequencer: a request handed or withdrawn, and otherwise acts of its own. -/
theorem sequence_endsKept {c : Instr} (runs : sequences c = true) : EndsSynKept c s := by
  cases c
  case csqAutoExit => exact ⟨_, rfl, (h.take _).withdrawRequest.withCsq _⟩
  case csqAutoEntry =>
    refine ⟨_, rfl, (h.take _).inForce fun st => ?_⟩
    split
    · exact SynKept.csqTick (((h.take _).withCsq _).only
        (Only.derive st (by decide) (by decide) (by decide) Only.refl)) st
    · exact h.take _
  case csqPesPublication =>
    refine ⟨_, rfl, ?_⟩
    split
    · exact (h.take _).csqEvent fun _ => h.take _
    · refine (h.take _).csqEvent fun st => ?_
      have evaluated : SynKept (evaluateMonitor st (s.take (.csqPes true))) :=
        (h.take _).only (Only.evaluateMonitor st (by decide) Only.refl)
      exact evaluated.whenRunning (evaluated.incomerEvaluated st)
  case retransferDelayExpiry =>
    exact ⟨_, rfl, h.expire fun u hu _ _ => hu.csqEvent fun st =>
      (hu.withCsq _).whenRunning ((hu.withCsq _).incomerDelayEnds st)⟩
  case csqCycleCompletion | csqViewEvent | csqBreakerRecord | csqSynOutcome | csqLscMode | failureConfirmExpiry
    | overlapBackupExpiry | startDelayExpiry | startTimerExpiry | cooldownExpiry | shedDelayExpiry | restoreWaitExpiry
    | overloadTimerExpiry | shedSettleExpiry =>
    refine ⟨_, rfl, ?_⟩
    repeat' first
      | with_reducible exact h
      | with_reducible exact Only.refl
      | assumption
      | decide
      | dsimp only
      | intro _
      | with_reducible first
        | apply SynKept.expire | apply SynKept.take | apply SynKept.sequenceEvent
        | apply Only.whenRunning | apply Only.feederDeadBus | apply Only.keepSheds | apply Only.roleView
        | apply Only.roleRecord | apply Only.takeOutcome | apply Only.setMonitor | apply Only.toBlocked
        | apply Only.sequenceOpen | apply Only.run | apply Only.toReadyOrStarting | apply Only.toCsq
        | apply Only.enterShed | apply Only.judgeShed | apply Only.withCsq
      | split
  all_goals cases runs

/-- Every command but RESET ends so. -/
theorem exec_endsSynKept {c : Instr} (hc : ∀ straps raw, c ≠ .reset straps raw) : EndsSynKept c s := by
  cases writes : writesSyn c
  · obtain ⟨u, hu, k⟩ := exec_only_asideSyn c s writes
    exact ⟨u, hu, h.only k⟩
  · cases c
    case reset straps raw => exact absurd rfl (hc straps raw)
    -- the synchronizer
    case synCycleCompletion => exact synCycleCompletion_endsKept h
    case synViewEvent => exact synViewEvent_endsKept h
    case synBreakerRecord => exact synBreakerRecord_endsKept h
    case synStationStateChange => exact ⟨_, rfl, (h.take _).synCancel⟩
    case syncTimerExpiry => exact syncTimerExpiry_endsKept h
    case synRetryExpiry => exact synRetryExpiry_endsKept h
    case holdTimerExpiry => exact holdTimerExpiry_endsKept h
    case yieldTimerExpiry => exact yieldTimerExpiry_endsKept h
    case refusalWaitExpiry => exact refusalWaitExpiry_endsKept h
    case avrPulseEnd => exact ⟨_, rfl, h.expire fun _ hu _ _ => .of_syn hu.syn.avrOff⟩
    case avrSpacingExpiry => exact ⟨_, rfl, h.expire fun _ hu _ _ => .of_syn { hu.syn with }⟩
    -- the end of START, and the inputs
    case settingsImageRead image => exact settingsImageRead_endsSynKept h image
    case debounceExpiry i => exact ⟨_, rfl, h.expire fun _ hu _ _ => hu.debounced i⟩
    -- the breaker controller and the protection elements
    case tripClaim => exact ⟨_, rfl, (h.take _).atWork fun st => (h.take _).takeTrip _ st⟩
    case openClaim => exact ⟨_, rfl, (h.take _).atWork fun _ => (h.take _).takeOpening _⟩
    case closeClaim purpose => exact closeClaim_endsKept h purpose
    case pesCycleEvaluation => exact pesCycleEvaluation_endsSynKept h
    case pesStationStateChange a b => exact pesStationStateChange_endsSynKept h a b
    -- the link and the frames of other stations
    case frameCompleted => exact frameCompleted_endsKept h
    case transmitBitError => exact transmitBitError_endsKept h
    case bfTransferReceived => exact ⟨_, rfl, h.filtered fun _ hu => hu.transferNotice _ _⟩
    case claimReceived => exact ⟨_, rfl, h.filtered fun _ hu => (hu.claimFrame _ _).synClaimFrame _ _⟩
    case claimWithdrawReceived => exact ⟨_, rfl, h.filtered fun _ hu => (hu.claimFrame _ _).synWithdrawFrame _⟩
    case reportReceived => exact ⟨_, rfl, h.filtered fun _ hu => hu.reportHeard _ _⟩
    -- the requests
    case openRequest r => exact ⟨_, rfl, h.intake fun _ hu => hu.withForce (hu.ownOpen r)⟩
    case closeRequest r => exact ⟨_, rfl, h.intake fun _ hu => hu.withForce (hu.ownClose r)⟩
    case resetLockout r => exact ⟨_, rfl, h.intake fun _ hu => hu.withForce (hu.ownResetLockout r)⟩
    case resetAlarm r => exact ⟨_, rfl, h.intake fun _ hu => hu.ownResetAlarm r⟩
    case transferTest r => exact ⟨_, rfl, h.intake fun _ hu => hu.withForce (hu.ownTransferTest r)⟩
    case retransferInhibit r => exact ⟨_, rfl, h.intake fun _ hu => hu.withForce (hu.ownInhibit r)⟩
    case retransferNow r => exact ⟨_, rfl, h.intake fun _ hu => hu.withForce (hu.ownRetransferNow r)⟩
    -- the sequencer
    all_goals first
      | exact sequence_endsKept h rfl
      | cases writes

end commands

/-- The end of a command leaves the synchronizer's record. -/
theorem SynKept.done {u t : State} (h : SynKept u) (ht : Machine.done s u = .next t) : SynKept t := by
  obtain rfl : publish s (settle u) = t := by simpa [Machine.done] using ht
  exact h.only (Only.publish s (by decide) (Only.settle (by decide) (by decide) Only.refl))

theorem exec_keeps_syn {c : Instr} {t : State} (h : SynKept s) (ht : exec c s = .next t) : SynKept t := by
  by_cases hc : ∀ straps raw, c ≠ .reset straps raw
  · obtain ⟨u, hu, k⟩ := exec_endsSynKept h hc
    exact k.done (hu.symm.trans ht)
  · push Not at hc
    obtain ⟨straps, raw, rfl⟩ := hc
    obtain rfl : _ = t := Host.Outcome.next.inj ((exec_reset straps raw s).symm.trans ht)
    exact .of_syn Syn.reset_kept

end Sys2Proof.Machine

open Sys2Proof Sys2Proof.Machine

/-- Settles O30: the command at the front of the queue keeps the synchronizer's record, and a tick of the local time
leaves it. -/
theorem everyStepKeepsTheSynchronizer : Obligations.EveryStepKeepsTheSynchronizer := by
  unfold Obligations.EveryStepKeepsTheSynchronizer
  intro s t h ht
  unfold step at ht
  split at ht
  · obtain rfl : s.tick = t := by simpa using ht
    exact h.only (Only.withTime (by decide) Only.refl _)
  · exact exec_keeps_syn (h.only (Only.withPending (by decide) Only.refl _)) ht

end

section
/-! PROOFS. SYN_CYCLE_COMPLETION (R125 to R130, R136, R139) and the ends of the voltage-regulator pulse and spacing. -/

namespace Sys2Proof.Machine

variable {s t : State} {st : Settings} {r : Record}

/-! ### What the checks of SYNCHRONIZING write -/

theorem counted_only (s : State) (r : Record) : Only synFields s (s.counted r) :=
  Only.withSyn (by decide) (Only.take _ (by decide) Only.refl) _

theorem evaluated_only (s : State) (st : Settings) (r : Record) : Only synFields s (s.evaluated st r) :=
  Only.avrCheck st r (by decide) (Only.evaluatePermit st r (by decide) (by decide) (counted_only s r))

theorem judged_only (s : State) (st : Settings) (r : Record) : Only synFields s (judgeEligible (s.evaluated st r)) :=
  Only.judgeEligible (by decide) (by decide) (evaluated_only s st r)

theorem claimingCycle_only (s : State) (r : Record) : Only synFields s (claimingCycle (s.counted r)) :=
  Only.claimingCycle (by decide) (by decide) (counted_only s r)

/-- On a live bus the checks are all that is done. -/
theorem judgeEligible_of_live (bus : r.bus = .live) : judgeEligible (s.evaluated st r) = s.evaluated st r := by
  refine judgeEligible_of_alive ?_
  rw [State.evaluated_deadCount, deadAfter_of_live _ bus]
  decide

/-- A counted record leaves the close claims that wait. -/
theorem closeClaim_of_counted {purpose : ClosePurpose} (waits : .closeClaim purpose ∈ (s.counted r).due) :
    .closeClaim purpose ∈ s.due := List.mem_of_mem_erase waits

/-! ### CLAIMING (R136) -/

theorem claimingCycle_of_dead (dead : s.syn.deadCount = 3) : claimingCycle s = s := by
  simp [claimingCycle, dead]

theorem claimingCycle_of_alive {c : Claim} (claimed : s.syn.claim = some c) (phase : c.phase ≠ .won)
    (alive : s.syn.deadCount < 3) :
    claimingCycle s = (s.withSli s.sli.giveUpClaim).withSyn s.syn.dropClaim.resume := by
  have opened := Syn.openClaim_of_open claimed phase
  rw [claimingCycle, opened, if_pos (by simpa using alive), withdrawClaim_of_alive claimed (by omega)]

theorem claimingCycle_counts (s : State) :
    (claimingCycle s).syn.deadCount = s.syn.deadCount ∧
      (s.syn.permitCount = 0 → (claimingCycle s).syn.permitCount = 0) := by
  unfold claimingCycle
  split
  · obtain ⟨dead, permit⟩ := withdrawClaim_counts s
    exact ⟨dead, fun _ => permit⟩
  · exact ⟨rfl, id⟩

/-! ### Every state -/

section command
variable (set : s.settings = some st) (record : s.cme.record = some r) (run : exec .synCycleCompletion s = .next t)
include set record run

/-- The counts after a record, in every state (R125). -/
theorem synCycle_counts :
    t.syn.deadCount = deadAfter s.syn.deadCount r ∧ (r.warmup = true → t.syn.permitCount = 0) := by
  have counted : r.warmup = true → (s.counted r).syn.permitCount = 0 := fun warmup => by
    simp [State.counted, Syn.counted, warmup]
  obtain ⟨-, warm, effect⟩ | ⟨-, effect⟩ | ⟨-, warm, -, effect⟩ | ⟨-, -, -, effect⟩ := synCycle_cases set record
  · have ends := synEnds_of_effect effect (judged_only s st r) run
    rw [ends.syn, (judgeEligible_counts _).1]
    refine ⟨State.evaluated_deadCount s st r, fun warmup => ?_⟩
    exact absurd (warm.symm.trans warmup) (by decide)
  · have ends := synEnds_of_effect effect (claimingCycle_only s r) run
    obtain ⟨dead, permit⟩ := claimingCycle_counts (s.counted r)
    rw [ends.syn]
    exact ⟨dead, fun warmup => permit (counted warmup)⟩
  · have ends := synEnds_of_effect effect (Only.withSyn (by decide) (counted_only s r) _) run
    rw [ends.syn]
    exact ⟨rfl, fun _ => rfl⟩
  · have ends := synEnds_of_effect effect (counted_only s r) run
    rw [ends.syn]
    exact ⟨rfl, counted⟩

/-- At a WARMUP record nothing but an open claim is touched (R125). -/
theorem synCycle_warmup (line : LineSettled s) (warmup : r.warmup = true) (state : s.syn.state ≠ .claiming) :
    t.syn = { s.syn with deadCount := 0, permitCount := 0 } ∧ t.sli = s.sli := by
  have effect : exec .synCycleCompletion s = done s (s.counted r) :=
    synCycle_of_rest set record (by cases k : s.syn.state <;> simp_all)
  have ends := synEnds_of_effect effect (counted_only s r) run
  exact ⟨by rw [ends.syn]; simp [State.counted, Syn.counted, deadAfter, warmup], ends.still line rfl⟩

/-- An open claim whose bus is no longer dead is withdrawn (R136). -/
theorem synCycle_withdraws {c : Claim} (claimed : s.syn.claim = some c) (state : s.syn.state = .claiming)
    (phase : c.phase ≠ .won) (alive : t.syn.deadCount < 3) :
    t.syn.state = .synchronizing ∧ t.syn.claim = none ∧ t.syn.holdTimer = none ∧ t.syn.permitCount = 0 := by
  have ends := synEnds_of_effect (synCycle_of_claiming set record state) (claimingCycle_only s r) run
  have count : t.syn.deadCount = (s.counted r).syn.deadCount := by
    rw [ends.syn, (claimingCycle_counts _).1]
  rw [ends.syn, claimingCycle_of_alive (s := s.counted r) claimed phase (count ▸ alive)]
  exact ⟨rfl, rfl, rfl, rfl⟩

/-- A claim stands while its bus is dead. -/
theorem synCycle_claim_stands (state : s.syn.state = .claiming) (dead : s.syn.deadCount = 3) (warm : r.warmup = false)
    (bus : r.bus = .dead) : t.syn = s.syn := by
  have same : s.syn.counted r = s.syn := by simp [Syn.counted, deadAfter, warm, bus, ← dead]
  have ends := synEnds_of_effect (synCycle_of_claiming set record state) (claimingCycle_only s r) run
  rw [ends.syn, claimingCycle_of_dead (s := s.counted r) (by rw [State.counted, State.withSyn_syn, same]; exact dead)]
  exact same

/-- In the refusal wait the count stays at 0 and no claim is made (R128). -/
theorem synCycle_refusal_wait (line : LineSettled s) (state : s.syn.state = .synchronizing)
    (wait : s.syn.refusalTimer.isSome) (flight : s.syn.closeInFlight = false) (taken : s.syn.closeTaken = false) :
    t.syn.permitCount = 0 ∧ t.syn.state = .synchronizing ∧ t.syn.refusalTimer = s.syn.refusalTimer ∧ t.sli = s.sli ∧
      (.closeClaim .sync ∈ t.due → .closeClaim .sync ∈ s.due) := by
  cases warmup : r.warmup with
  | true =>
    have ends := synEnds_of_effect (synCycle_of_rest set record (by simp [state, warmup])) (counted_only s r) run
    rw [ends.syn]
    refine ⟨?_, state, rfl, ends.still line rfl, fun waits => closeClaim_of_counted ((ends.closes _).1 waits)⟩
    simp [State.counted, Syn.counted, warmup]
  | false =>
    have ends := synEnds_of_effect (synCycle_of_synchronizing set record state warmup) (judged_only s st r) run
    have evaluated : evaluatePermit st r (s.counted r) =
        (s.counted r).withSyn { (s.counted r).syn with permitCount := 0 } :=
      evaluatePermit_of_none flight taken (.inr wait)
    have idle : judgeEligible (s.evaluated st r) = s.evaluated st r :=
      judgeEligible_of_wait (by simpa using wait)
    rw [idle] at ends
    rw [ends.syn]
    refine ⟨by simp [State.evaluated, evaluated], by simpa using state, by simp,
      ends.still line (State.evaluated_sli s st r), fun waits => ?_⟩
    · have claimed := (ends.closes _).1 waits
      simp only [State.evaluated, evaluated, avrCheck_due, State.withSyn_due] at claimed
      exact closeClaim_of_counted claimed

end command

end Sys2Proof.Machine

open Sys2Proof Sys2Proof.Machine

/-- Settles O25: in SYNCHRONIZING by the outcome of the evaluation, in every state by what the state does with a counted
record. -/
theorem synchronizerTakesCycleCompletions : Obligations.SynchronizerTakesCycleCompletions := by
  unfold Obligations.SynchronizerTakesCycleCompletions
  refine ⟨fun s st r set record warm state flight taken wait count line => ?_, fun s st r set record line => ?_⟩
  · intro permitted
    have permit_permitted : permit st r = true ↔ permitted := by
      refine permit_iff.trans ?_
      simp only [predicted, reduceAngle_eq]
      exact Iff.rfl
    obtain ⟨t, run⟩ : ∃ t, exec .synCycleCompletion s = .next t := ⟨_, rfl⟩
    have ends := synEnds_of_effect (synCycle_of_synchronizing set record state warm) (judged_only s st r) run
    have counted : (s.counted r).syn.permitCount = s.syn.permitCount := by simp [State.counted, Syn.counted, warm]
    refine ⟨t, run, synFields_eq ends.only, fun permits => ?_, fun none => ?_⟩
    · rw [← permit_permitted] at permits
      rw [judgeEligible_of_live (permit_iff.1 permits).2.1] at ends
      rw [ends.syn]
      refine ⟨by simpa using state, ends.still line (State.evaluated_sli s st r), fun second => ?_, fun first => ?_⟩
      · have claims := evaluatePermit_second (s := s.counted r) flight taken permits wait (counted.trans second)
        refine ⟨by simp [State.evaluated, claims], ends.waits _ ?_⟩
        simp [State.evaluated, claims]
      · have counts := evaluatePermit_first (s := s.counted r) flight taken permits wait (counted.trans first)
        simp [State.evaluated, counts]
    · rw [← permit_permitted, Bool.not_eq_true] at none
      have resets := evaluatePermit_of_none (s := s.counted r) flight taken (.inl none)
      refine ⟨?_, fun waits => ?_⟩
      · rw [ends.syn, (judgeEligible_counts _).2]
        simp [State.evaluated, resets]
      · have claimed := (ends.closes _).1 waits
        simp only [judgeEligible_due, State.evaluated, resets, avrCheck_due, State.withSyn_due] at claimed
        exact closeClaim_of_counted claimed
  · obtain ⟨t, run⟩ : ∃ t, exec .synCycleCompletion s = .next t := ⟨_, rfl⟩
    obtain ⟨dead, permit⟩ := synCycle_counts set record run
    refine ⟨t, run, dead, permit, synCycle_warmup set record run line,
      fun c claimed state phase alive => synCycle_withdraws set record run claimed state phase alive,
      synCycle_claim_stands set record run, fun state warm bus => ?_, fun rests => ?_,
      synCycle_refusal_wait set record run line⟩
    · have ends := synEnds_of_effect (synCycle_of_yielded set record state warm bus)
        (Only.withSyn (by decide) (counted_only s r) _) run
      rw [ends.syn]
      exact ⟨rfl, rfl, rfl, ends.still line rfl⟩
    · have ends := synEnds_of_effect (synCycle_of_rest set record (rests.imp_right .inl)) (counted_only s r) run
      rw [ends.syn]
      exact ⟨rfl, ends.still line rfl⟩

end

section
/-! PROOFS. The voltage-regulator check (R130), and the ends of its pulse and spacing. -/

namespace Sys2Proof.Machine

variable {s u : State} {st : Settings} {r : Record}

/-- With the bus live the cycle completion ends in the check. -/
theorem synCycle_syn_of_live (set : s.settings = some st) (record : s.cme.record = some r) (warm : r.warmup = false)
    (bus : r.bus = .live) (state : s.syn.state = .synchronizing) :
    ∃ t, exec .synCycleCompletion s = .next t ∧
      t.syn = (avrCheck st r (evaluatePermit st r (s.counted r))).syn := by
  have effect := synCycle_of_synchronizing set record state warm
  rw [judgeEligible_of_live bus] at effect
  obtain ⟨t, run, ends⟩ := done_synEnds s (evaluated_only s st r)
  exact ⟨t, effect.trans run, ends.syn⟩

/-- Correction is active for an AUTO request in SYNCHRONIZING with no close in flight. -/
theorem correction_of_auto {q : SynRequest} (state : s.syn.state = .synchronizing) (request : s.syn.request = some q)
    (auto : q.mode = .auto) (flight : s.syn.closeInFlight = false) : s.syn.correction = true := by
  simp [Syn.correction, state, request, auto, flight]

/-- The check comes after the evaluation of the permit, which it does not rest on. -/
theorem evaluatePermit_pulseDue (s : State) (st : Settings) (r : Record) :
    (evaluatePermit st r s).pulseDue st r ↔ s.pulseDue st r := by
  simp [State.pulseDue]

/-- A command that leaves the synchronizer's state leaves nothing to do at its end. -/
theorem settle_of_synchronizer (h : Settled s) (k : Only [.localTime, .syn, .due] s u)
    (state : u.syn.state = s.syn.state) : settle u = u := by
  have ssc : u.ssc = s.ssc := k.get .ssc (by decide)
  have sli : u.sli = s.sli := k.get .sli (by decide)
  have lsc : u.lsc = s.lsc := k.get .lsc (by decide)
  have zero : u.zeroHolds = s.zeroHolds :=
    zeroHolds_congr (k.get .settings (by decide)) (congrArg Ssc.station ssc)
      (congrArg Bkc.state (k.get .bkc (by decide))) state
  refine settle_of_settled ?_
  unfold Settled ZeroSettled LineSettled at *
  rwa [zero, lsc, ssc, sli]

/-- An expiry that writes the synchronizer's record alone, and not its state. -/
theorem done_of_synExpiry (h : Settled s) (due : Time) (y : Syn) (state : y.state = s.syn.state) :
    ∃ t, done s ((s.reach due).withSyn y) = .next t ∧
      t = { s with due := t.due, localTime := (s.reach due).localTime, syn := y } := by
  have k : Only [.localTime, .syn, .due] s ((s.reach due).withSyn y) :=
    Only.withSyn (by decide) (Only.reach due (by decide) Only.refl) y
  refine ⟨_, rfl, ?_⟩
  rw [settle_of_synchronizer h k state]
  simpa using (Only.publish s (by decide) k).eq

end Sys2Proof.Machine

open Sys2Proof Sys2Proof.Machine

/-- Settles O26: by whether a pulse is due at the check, and by the effect of each expiry. -/
theorem voltageRegulatorPulses : Obligations.VoltageRegulatorPulses := by
  unfold Obligations.VoltageRegulatorPulses
  refine ⟨fun s st r q set record warm line bus state request auto flight pulse spacing => ?_,
    fun s due settled => ⟨fun runs => ?_, fun runs => ?_⟩⟩
  · obtain ⟨t, run, syn⟩ := synCycle_syn_of_live set record warm bus state
    have correction : (s.counted r).syn.correction = true := correction_of_auto (s := s) state request auto flight
    have live : r.bothLive = true := by simp [Record.bothLive, line, bus]
    refine ⟨t, run, fun exceeds => ?_, fun within => ?_⟩
    · have due : (s.counted r).pulseDue st r := ⟨correction, live, exceeds, pulse, spacing⟩
      rw [syn, avrCheck_of_due ((evaluatePermit_pulseDue _ st r).2 due)]
      refine ⟨decide_eq_true_iff, decide_eq_true_iff, ?_, ?_⟩ <;>
        simp [State.after, State.counted, Record.voltageDifference]
    · have rests : ¬ (s.counted r).pulseDue st r := fun ⟨_, _, exceeds, _⟩ => absurd exceeds within.not_gt
      rw [syn, avrCheck_of_not_due (mt (evaluatePermit_pulseDue _ st r).1 rests)]
      simp [State.counted, Syn.counted, pulse, spacing]
  · obtain ⟨t, run, ends⟩ := done_of_synExpiry settled due s.syn.avrOff rfl
    refine ⟨t, ?_, ends⟩
    rw [exec, execAvrPulseEnd, runs, expire_some, State.reach_syn, run]
  · obtain ⟨t, run, ends⟩ := done_of_synExpiry settled due { s.syn with avrSpacing := none } rfl
    refine ⟨t, ?_, ends⟩
    rw [exec, execAvrSpacingExpiry, runs, expire_some, State.reach_syn, run]

end

section
/-! PROOFS. SYN_VIEW_EVENT (R132 to R136): the claim of an eligible station, and the yield and the withdrawal of an open
claim. -/

namespace Sys2Proof.Machine

variable {s t : State} {st : Settings} {c : Claim}

/-! ### The claim slot -/

theorem Sli.claimWaits_iff {l : Sli} :
    l.claimWaits = true ↔ (∃ x, l.claimSlot = some x ∧ x ≠ .withdraw) ∧
      ¬ (∃ f, l.flight = some f ∧ f.slot = .claim ∧ f.replaced = false) := by
  have begun : l.inFlight .claim = true ↔ ∃ f, l.flight = some f ∧ f.slot = .claim ∧ f.replaced = false := by
    simp [Sli.inFlight, Option.any_eq_true]
  rw [← begun, Bool.not_eq_true, Sli.claimWaits]
  cases item : l.claimSlot with
  | none => simp
  | some x => cases x <;> simp

/-- A claim given up is taken out of its slot while it waits there, and otherwise withdrawn by a frame (R135). -/
theorem Sli.giveUpClaim_claimSlot {l : Sli} (free : l.conflict = none) :
    l.giveUpClaim.claimSlot = if l.claimWaits = true then none else some .withdraw := by
  unfold Sli.giveUpClaim
  split
  · rfl
  · simp [Sli.placeClaim, Sli.whenOnAir, free]

theorem Sli.placeClaim_claimSlot {l : Sli} (free : l.conflict = none) (x : ClaimItem) :
    (l.placeClaim x).claimSlot = some x := by
  simp [Sli.placeClaim, Sli.whenOnAir, free]

/-! ### The lowest claimant -/

theorem lowest_spec {ns : List StationNo} (some_ : ns ≠ []) :
    ∃ w ∈ ns, lowest ns = some w ∧ ∀ n ∈ ns, w ≤ n := by
  induction ns with
  | nil => exact absurd rfl some_
  | cons n rest ih =>
    by_cases last : rest = []
    · exact ⟨n, by simp, by simp [last, lowest], by simp [last]⟩
    · obtain ⟨m, mem, least, below⟩ := ih last
      obtain lt | le := lt_or_ge n m
      · refine ⟨n, by simp, by simp [lowest, least, lt], List.forall_mem_cons.2 ⟨le_rfl, fun k hk => ?_⟩⟩
        exact lt.le.trans (below k hk)
      · exact ⟨m, .tail _ mem, by simp [lowest, least, le.not_gt], List.forall_mem_cons.2 ⟨le, below⟩⟩

/-! ### The group view -/

/-- The group view rests on the settings, the peer table and the own number alone. -/
theorem view_congr (settings : t.settings = s.settings) (ptb : t.ptb = s.ptb)
    (own : t.sli.ownNumber = s.sli.ownNumber) :
    t.wantedSections = s.wantedSections ∧ t.closedSources = s.closedSources := by
  have present : t.present = s.present := by simp only [State.present, State.others, State.entry, ptb, own]
  have joined : t.joined = s.joined := by simp only [State.joined, present, settings, ptb]
  have group : t.groupSections = s.groupSections := by
    simp only [State.groupSections, State.ownSections, joined, settings]
  exact ⟨funext fun x => by simp only [State.wantedSections, group],
    funext fun x => by simp only [State.closedSources, State.members, present]⟩

/-! ### The command -/

theorem synView_of_synchronizing (set : s.settings = some st) (state : s.syn.state = .synchronizing) :
    exec .synViewEvent s = done s (judgeEligible (s.take .synView)) := by
  simp only [exec, execSynViewEvent, State.inForce_some (s := s.take .synView) set, State.take_syn, state]

theorem synView_of_open (set : s.settings = some st) (state : s.syn.state = .claiming) (claimed : s.syn.claim = some c)
    (phase : c.phase ≠ .won) : exec .synViewEvent s = done s (claimingView st c (s.take .synView)) := by
  simp only [exec, execSynViewEvent, State.inForce_some (s := s.take .synView) set, State.take_syn, state,
    Syn.openClaim_of_open claimed phase]

theorem synView_of_won (set : s.settings = some st) (state : s.syn.state = .claiming) (claimed : s.syn.claim = some c)
    (won : c.phase = .won) : exec .synViewEvent s = done s (s.take .synView) := by
  simp only [exec, execSynViewEvent, State.inForce_some (s := s.take .synView) set, State.take_syn, state,
    Syn.openClaim_of_won claimed won]

/-! ### An open claim at a view -/

theorem claimingView_of_lower (lower : s.lowerClaims (s.wantedSections st.station) c.sections s.sli.ownNumber ≠ []) :
    claimingView st c s = yieldTo (s.lowerClaims (s.wantedSections st.station) c.sections s.sli.ownNumber) s := by
  simp [claimingView, lower]

section unbeaten
variable (unbeaten : s.lowerClaims (s.wantedSections st.station) c.sections s.sli.ownNumber = [])
include unbeaten

theorem claimingView_of_cause (cause : s.closedSources (s.wantedSections st.station) ≠ [] ∨
    s.wantedSections st.station ≠ c.sections) : claimingView st c s = withdrawClaim s := by
  simp [claimingView, unbeaten, cause]

theorem claimingView_of_none (none : s.closedSources (s.wantedSections st.station) = [])
    (same : s.wantedSections st.station = c.sections) : claimingView st c s = s := by
  simp only [claimingView, unbeaten, none]
  simp [same]

end unbeaten

/-! ### The withdrawal (R136) -/

/-- A closed source on the claim sections bars the station from claiming anew. -/
theorem withdrawClaim_of_sources (set : s.settings = some st) (claimed : s.syn.claim = some c)
    (sources : s.closedSources (s.wantedSections st.station) ≠ []) :
    withdrawClaim s = (s.withSli s.sli.giveUpClaim).withSyn s.syn.dropClaim.resume := by
  rw [withdrawClaim_of_claim claimed]
  obtain ⟨wanted, closed⟩ := view_congr (s := s)
    (t := (s.withSli s.sli.giveUpClaim).withSyn s.syn.dropClaim.resume) rfl rfl (by simp)
  refine judgeEligible_of_not fun st' set' => Bool.eq_false_iff.2 fun eligible => sources ?_
  obtain rfl : st = st' := Option.some.inj (set.symm.trans set')
  obtain ⟨-, -, -, -, none, -⟩ := (eligible_iff rfl).1 eligible
  rwa [wanted, closed] at none

/-- After a withdrawal the station stands in SYNCHRONIZING, or claims anew the sections that it wants. -/
theorem withdrawClaim_rows (set : s.settings = some st) (claimed : s.syn.claim = some c) :
    (withdrawClaim s).syn = s.syn.dropClaim.resume ∨ (withdrawClaim s).syn =
      { s.syn.dropClaim.resume.avrOff with
        state := .claiming, claim := some { sections := s.wantedSections st.station, phase := .pending } } := by
  rw [withdrawClaim_of_claim claimed]
  obtain ⟨wanted, -⟩ := view_congr (s := s)
    (t := (s.withSli s.sli.giveUpClaim).withSyn s.syn.dropClaim.resume) rfl rfl (by simp)
  obtain stays | ⟨-, st', set', claims⟩ :=
    judgeEligible_rows ((s.withSli s.sli.giveUpClaim).withSyn s.syn.dropClaim.resume)
  · exact .inl (congrArg State.syn stays)
  · obtain rfl : st = st' := Option.some.inj (set.symm.trans set')
    right
    rw [claims, wanted]
    rfl

end Sys2Proof.Machine

open Sys2Proof Sys2Proof.Machine

/-- Settles O27: in SYNCHRONIZING by eligibility, in CLAIMING by the phase, the lower claims and the causes of
withdrawal. -/
theorem claimsAreMadeAndYielded : Obligations.ClaimsAreMadeAndYielded := by
  unfold Obligations.ClaimsAreMadeAndYielded
  have taken (s : State) : Only synFields s (s.take .synView) := Only.take _ (by decide) Only.refl
  refine ⟨fun s st set state line => ?_, fun s st c set state claimed line => ?_⟩
  · intro wanted eligible
    have eligible_eligible : (s.take .synView).eligible st.station = true ↔ eligible := eligible_iff state
    obtain ⟨t, run, ends⟩ := done_synEnds s (Only.judgeEligible (by decide) (by decide) (taken s))
    refine ⟨t, (synView_of_synchronizing set state).trans run, synFields_eq ends.only, fun yes => ?_, fun no => ?_⟩
    · have claims := judgeEligible_of_eligible (s := s.take .synView) set (eligible_eligible.2 yes)
      have slot := ends.claimSlot
      rw [claims] at slot
      rw [ends.syn, claims]
      exact ⟨rfl, rfl, rfl, rfl, rfl, fun free => slot.trans (Sli.placeClaim_claimSlot free _), rfl⟩
    · have stays : judgeEligible (s.take .synView) = s.take .synView := judgeEligible_of_not fun st' set' => by
        obtain rfl : st = st' := Option.some.inj (set.symm.trans set')
        exact Bool.eq_false_iff.2 (mt eligible_eligible.1 no)
      exact ⟨by rw [ends.syn, stays]; rfl, ends.still line (by rw [stays]; rfl)⟩
  · intro wanted lower
    by_cases won : c.phase = .won
    · obtain ⟨t, run, ends⟩ := done_synEnds s (taken s)
      exact ⟨t, (synView_of_won set state claimed won).trans run, synFields_eq ends.only,
        fun _ => ⟨ends.syn, ends.still line rfl⟩, fun away => absurd won away, fun away => absurd won away,
        fun away => absurd won away, fun away => absurd won away⟩
    · obtain ⟨t, run, ends⟩ := done_synEnds s (Only.claimingView st c (by decide) (by decide) (taken s))
      refine ⟨t, (synView_of_open set state claimed won).trans run, synFields_eq ends.only, fun w => absurd w won,
        fun _ beaten => ?_, fun _ unbeaten none same => ?_, fun _ unbeaten sources => ?_,
        fun _ unbeaten none other => ?_⟩
      · have yields := claimingView_of_lower (s := s.take .synView) beaten
        have slot := ends.claimSlot
        obtain ⟨w, mem, least, below⟩ := lowest_spec beaten
        rw [yields, yieldTo, giveUpClaim_of_claim (s := s.take .synView) claimed] at slot
        rw [ends.syn, yields, yieldTo_syn (s := s.take .synView) claimed]
        refine ⟨rfl, rfl, rfl, rfl, ⟨w, mem, least, below⟩, rfl, fun free => ?_⟩
        intro waits
        have slot : t.sli.claimSlot = if s.sli.claimWaits = true then none else some .withdraw :=
          slot.trans (Sli.giveUpClaim_claimSlot free)
        exact ⟨fun waiting => by rw [slot, if_pos (Sli.claimWaits_iff.2 waiting)],
          fun gone => by rw [slot, if_neg (mt Sli.claimWaits_iff.1 gone)]⟩
      · have stays := claimingView_of_none (s := s.take .synView) unbeaten none same
        exact ⟨by rw [ends.syn, stays]; rfl, ends.still line (by rw [stays]; rfl)⟩
      · rw [ends.syn, claimingView_of_cause (s := s.take .synView) unbeaten (.inl sources),
          withdrawClaim_of_sources (s := s.take .synView) set claimed sources]
        exact ⟨rfl, rfl, rfl, rfl⟩
      · rw [ends.syn, claimingView_of_cause (s := s.take .synView) unbeaten (.inr other)]
        obtain stays | claims := withdrawClaim_rows (s := s.take .synView) set claimed
        · rw [stays]
          exact ⟨rfl, rfl, .inl ⟨rfl, rfl⟩⟩
        · rw [claims]
          exact ⟨rfl, rfl, .inr ⟨rfl, rfl⟩⟩

end

section
/-! PROOFS. The expiries of the synchronizer (R128, R131, R132, R137, R139): hold, sync, retry, yield and refusal. -/

namespace Sys2Proof.Machine

variable {s t u : State} {c : Claim} {due : Time}

/-! ### The end of an expiry -/

/-- The state that an expiry of the synchronizer ends in: the time is reached, and the fields of the synchronizer's
commands are written. -/
def expiredTo (s t : State) (due : Time) : State :=
  { s with syn := t.syn, sli := t.sli, lsc := t.lsc, due := t.due, localTime := (s.reach due).localTime }

theorem expiry_ends {i : Instr} (effect : exec i s = done s u) (k : Only synFields (s.reach due) u) :
    ∃ t, exec i s = .next t ∧ t = expiredTo s t due ∧ SynEnds (s.reach due) u t := by
  obtain ⟨t, run, ends⟩ := done_synEnds s k
  exact ⟨t, effect.trans run, synFields_reach_eq ends.only, ends⟩

/-- An effect that leaves the link leaves it at the end of the expiry. -/
theorem SynEnds.sli_of_reach (ends : SynEnds (s.reach due) u t) (line : LineSettled s) (sli : u.sli = s.sli) :
    t.sli = s.sli := by
  have still := ends.still (line.reach due)
  rw [State.reach_sli] at still
  exact still sli

/-! ### The effects -/

/-- The retry wait of the first timeout (R131). -/
def Syn.waitRetry (y : Syn) (until_ : Timer) : Syn :=
  { y.avrOff with
    state := .idle, permitCount := 0, winner := none, syncTimer := none, yieldTimer := none, retryTimer := until_ }

/-- The second attempt (R131). -/
def Syn.secondAttempt (y : Syn) (until_ : Timer) : Syn :=
  { y with state := .synchronizing, attempt := 2, retryTimer := none, syncTimer := until_ }

section effects
variable (s)

theorem holdTimer_won (runs : s.syn.holdTimer = some due) (claimed : s.syn.claim = some c)
    (dead : s.syn.deadCount = 3) : exec .holdTimerExpiry s = done s (((s.reach due).withSyn { s.syn with
      claim := some { c with phase := .won }, holdTimer := none }).send (.closeClaim .deadBus)) := by
  simp [exec, execHoldTimerExpiry, runs, claimed, dead]

theorem holdTimer_lost (runs : s.syn.holdTimer = some due) (claimed : s.syn.claim = some c)
    (alive : s.syn.deadCount ≠ 3) : exec .holdTimerExpiry s = done s (withdrawClaim (s.reach due)) := by
  simp [exec, execHoldTimerExpiry, runs, claimed, alive]

theorem syncTimer_first (runs : s.syn.syncTimer = some due) (first : s.syn.attempt ≠ 2) :
    exec .syncTimerExpiry s = done s ((giveUpClaim (s.reach due)).withSyn
      ((giveUpClaim (s.reach due)).syn.waitRetry ((giveUpClaim (s.reach due)).after 10000))) := by
  simp [exec, execSyncTimerExpiry, runs, first, Syn.waitRetry]

theorem syncTimer_second (runs : s.syn.syncTimer = some due) (second : s.syn.attempt = 2) :
    exec .syncTimerExpiry s = done s (endTold .syncFailed (s.reach due)) := by
  simp [exec, execSyncTimerExpiry, runs, second]

theorem retryTimer_effect (runs : s.syn.retryTimer = some due) :
    exec .synRetryExpiry s = done s (judgeEligible ((s.reach due).withSyn
      (s.syn.secondAttempt ((s.reach due).after 60000)))) := by
  simp [exec, execSynRetryExpiry, runs, Syn.secondAttempt]

theorem yieldTimer_effect (runs : s.syn.yieldTimer = some due) :
    exec .yieldTimerExpiry s = done s (leaveYielded (s.reach due)) := by
  simp [exec, execYieldTimerExpiry, runs]

theorem refusalTimer_effect (runs : s.syn.refusalTimer = some due) :
    exec .refusalWaitExpiry s = done s (judgeEligible ((s.reach due).withSyn { s.syn with refusalTimer := none })) := by
  simp [exec, execRefusalWaitExpiry, runs]

end effects

/-! ### Eligibility judged at the event -/

theorem leaveYielded_of_alive (alive : s.syn.deadCount ≠ 3) : leaveYielded s = s.withSyn s.syn.resume :=
  judgeEligible_of_alive (s := s.withSyn s.syn.resume) alive

theorem leaveYielded_permitCount (s : State) : (leaveYielded s).syn.permitCount = 0 :=
  (judgeEligible_counts (s.withSyn s.syn.resume)).2

/-- The second attempt stands with its request, in SYNCHRONIZING or with a claim made at once. -/
theorem secondAttempt_judged {x y : Syn} {until_ : Timer}
    (judged : x = (judgeEligible (s.withSyn (y.secondAttempt until_))).syn) :
    x.attempt = 2 ∧ x.retryTimer = none ∧ x.syncTimer = until_ ∧ x.request = y.request ∧
      (x.state = .synchronizing ∨ x.state = .claiming) := by
  obtain stays | ⟨claim, claims⟩ := judgeEligible_syn (s.withSyn (y.secondAttempt until_))
  · rw [judged, stays]
    exact ⟨rfl, rfl, rfl, rfl, .inl rfl⟩
  · rw [judged, claims]
    exact ⟨rfl, rfl, rfl, rfl, .inr rfl⟩

theorem judgeEligible_refusalTimer (s : State) : (judgeEligible s).syn.refusalTimer = s.syn.refusalTimer := by
  obtain stays | ⟨claim, claims⟩ := judgeEligible_syn s
  · rw [stays]
  · rw [claims]
    rfl

/-! ### The two ends of the sync timer -/

section timeout
variable {q : SynRequest} (request : s.syn.request = some q) (runs : s.syn.syncTimer = some due)
include request runs

/-- The first timeout keeps the request for a retry. -/
theorem syncTimer_retries (first : s.syn.attempt ≠ 2) : ∃ t, exec .syncTimerExpiry s = .next t ∧
    t = expiredTo s t due ∧ t.syn.request = some q ∧ t.syn.retryTimer = some (t.localTime + 10000) ∧
      t.syn.failedAlarm = s.syn.failedAlarm ∧ t.syn.claim = none ∧ t.syn.permitCount = 0 ∧ t.syn.avrRaise = false ∧
      t.syn.avrLower = false ∧ t.syn.syncTimer = none ∧ t.syn.state = .idle := by
  obtain ⟨t, run, eq, ends⟩ := expiry_ends (syncTimer_first s runs first)
    (Only.withSyn (by decide) (Only.giveUpClaim (by decide) (by decide) Only.refl) _)
  have given : (giveUpClaim (s.reach due)).syn.request = s.syn.request ∧
      (giveUpClaim (s.reach due)).syn.failedAlarm = s.syn.failedAlarm := by
    rw [giveUpClaim_syn, State.reach_syn]
    split <;> exact ⟨rfl, rfl⟩
  have now : (giveUpClaim (s.reach due)).localTime = t.localTime :=
    ((Only.giveUpClaim (fs := synFields) (by decide) (by decide) Only.refl).get .localTime (by decide)).trans
      (ends.only.get .localTime (by decide)).symm
  refine ⟨t, run, eq, ?_⟩
  rw [ends.syn]
  exact ⟨given.1.trans request, by rw [← now]; rfl, given.2, giveUpClaim_syn_claim _, rfl, rfl, rfl, rfl, rfl⟩

/-- The second ends it. -/
theorem syncTimer_fails (second : s.syn.attempt = 2) : ∃ t, exec .syncTimerExpiry s = .next t ∧
    t = expiredTo s t due ∧ t.syn = s.syn.dropClaim.endRequest true ∧ .csqSyn (some .syncFailed) ∈ t.due := by
  obtain ⟨t, run, eq, ends⟩ := expiry_ends (syncTimer_second s runs second)
    (Only.endTold _ (by decide) (by decide) (by decide) Only.refl)
  have told := endTold_of_held (s := s.reach due) (o := .syncFailed) (by simp [request])
  refine ⟨t, run, eq, ?_, ends.waits _ (by simp [told])⟩
  rw [ends.syn, told, State.send_syn, endRequest_syn, State.reach_syn]
  rfl

end timeout

end Sys2Proof.Machine

open Sys2Proof Sys2Proof.Machine

/-- Settles O28: by the effect of each expiry, with the dead count or the attempt to tell its ends apart. -/
theorem synchronizerTimersEnd : Obligations.SynchronizerTimersEnd := by
  unfold Obligations.SynchronizerTimersEnd
  refine ⟨fun s st c due _ runs claimed line => ?_, fun s q due request => ⟨fun runs => ?_, fun runs _ => ?_⟩,
    fun s due line => ⟨fun runs => ?_, fun runs => ?_⟩⟩
  · by_cases dead : s.syn.deadCount = 3
    · obtain ⟨t, run, eq, ends⟩ := expiry_ends (holdTimer_won s runs claimed dead)
        (Only.send _ (by decide) (Only.withSyn (by decide) Only.refl _))
      exact ⟨t, run, eq, fun _ => ⟨ends.waits _ (by simp), ends.sli_of_reach line (by simp), ends.syn⟩,
        fun below => absurd dead below.ne⟩
    · obtain ⟨t, run, eq, ends⟩ := expiry_ends (holdTimer_lost s runs claimed dead)
        (Only.withdrawClaim (by decide) (by decide) Only.refl)
      have withdrawn := withdrawClaim_of_alive (s := s.reach due) (by simpa using claimed) (by simpa using dead)
      refine ⟨t, run, eq, fun is => absurd is dead, fun _ => ?_⟩
      rw [ends.syn, ends.closes, withdrawn]
      exact ⟨rfl, rfl, rfl, by simp⟩
  · by_cases second : s.syn.attempt = 2
    · obtain ⟨t, run, eq, ended, told⟩ := syncTimer_fails request runs second
      refine ⟨t, run, eq, ?_⟩
      rw [ended]
      exact ⟨rfl, rfl, rfl, rfl, rfl, fun first => absurd (first.symm.trans second) (by decide),
        fun _ => ⟨rfl, rfl, rfl, by simp [Syn.endRequest], told⟩⟩
    · obtain ⟨t, run, eq, kept, retry, alarm, claim, permit, raise, lower, timer, idle⟩ :=
        syncTimer_retries request runs second
      exact ⟨t, run, eq, claim, permit, raise, lower, timer, fun _ => ⟨idle, kept, retry, alarm⟩,
        fun is => absurd is second⟩
  · obtain ⟨t, run, eq, ends⟩ := expiry_ends (retryTimer_effect s runs)
      (Only.judgeEligible (by decide) (by decide) (Only.withSyn (by decide) Only.refl _))
    obtain ⟨attempt, retry, timer, kept, state⟩ := secondAttempt_judged ends.syn
    have now : t.localTime = (s.reach due).localTime := ends.only.get .localTime (by decide)
    exact ⟨t, run, eq, attempt, retry, by rw [timer, now]; rfl, kept.trans request, state⟩
  · obtain ⟨t, run, eq, ends⟩ := expiry_ends (yieldTimer_effect s runs)
      (Only.leaveYielded (by decide) (by decide) Only.refl)
    obtain ⟨state, winner, timer⟩ := leaveYielded_syn (s.reach due)
    have stays (alive : s.syn.deadCount ≠ 3) := leaveYielded_of_alive (s := s.reach due) (by simpa using alive)
    refine ⟨t, run, eq, ?_⟩
    rw [ends.syn]
    refine ⟨winner, timer, leaveYielded_permitCount _, fun below => ?_, ?_⟩
    · exact ⟨by rw [stays below.ne]; rfl, ends.sli_of_reach line (by rw [stays below.ne]; simp)⟩
    · by_cases dead : s.syn.deadCount = 3
      · exact state.imp_right fun claiming => ⟨claiming, dead⟩
      · exact .inl (by rw [stays dead]; rfl)
  · obtain ⟨t, run, eq, ends⟩ := expiry_ends (refusalTimer_effect s runs)
      (Only.judgeEligible (by decide) (by decide) (Only.withSyn (by decide) Only.refl _))
    refine ⟨t, run, eq, by rw [ends.syn, judgeEligible_refusalTimer]; rfl, fun barred => ?_⟩
    have stays : judgeEligible ((s.reach due).withSyn { s.syn with refusalTimer := none }) =
        (s.reach due).withSyn { s.syn with refusalTimer := none } :=
      barred.elim (fun state => judgeEligible_of_state state) fun below => judgeEligible_of_alive below.ne
    rw [stays] at ends
    exact ⟨ends.syn, ends.sli_of_reach line (by simp)⟩

end

section
/-! PROOFS. How a held close request ends (R124, R128, R138): by the breaker record, the station state, an open claim
and a trip. -/

namespace Sys2Proof.Machine

variable {s t u : State} {st : Settings} {o : SynOutcome}

/-! ### A request that has ended (R124) -/

/-- No request is held, nothing of one is left, and its outcome waits for the CSQ. -/
def RequestEnded (t : State) (o : SynOutcome) : Prop :=
  t.syn.request = none ∧ t.syn.claim = none ∧ t.syn.state = .idle ∧ t.syn.permitCount = 0 ∧
    t.syn.avrRaise = false ∧ t.syn.avrLower = false ∧ t.syn.syncTimer = none ∧ t.syn.retryTimer = none ∧
    t.syn.holdTimer = none ∧ t.syn.yieldTimer = none ∧ t.syn.refusalTimer = none ∧ .csqSyn (some o) ∈ t.due

theorem endTold_ended (held : s.syn.request.isSome) (other : o ≠ .syncFailed) : RequestEnded (endTold o s) o := by
  have syn : (endTold o s).syn = s.syn.dropClaim.endRequest false := by
    rw [endTold_of_held held, State.send_syn, endRequest_syn, beq_false_of_ne other]
  unfold RequestEnded
  rw [syn]
  exact ⟨rfl, rfl, rfl, rfl, rfl, rfl, rfl, rfl, rfl, rfl, rfl, by simp [endTold_of_held held]⟩

/-- What later is written of the synchronizer leaves the request ended. -/
theorem RequestEnded.of_syn (ended : RequestEnded u o) (syn : t.syn = u.syn) (waits : Waits u t) :
    RequestEnded t o := by
  unfold RequestEnded at *
  rw [syn]
  obtain ⟨request, claim, state, permit, raise, lower, sync, retry, hold, yield_, refusal, told⟩ := ended
  exact ⟨request, claim, state, permit, raise, lower, sync, retry, hold, yield_, refusal, waits _ told⟩

/-! ### The breaker record (R124, R138) -/

/-- The synchronizer once it has seen the breaker record. -/
def State.recordSeen (s : State) : State :=
  s.withSyn { s.syn with
    closeInFlight := s.syn.closeInFlight && s.bkc.state == .closing, lockoutSeen := s.bkc.lockout }

theorem RequestEnded.recordSeen (ended : RequestEnded s o) : RequestEnded s.recordSeen o := ended

theorem synRecord_of_outcome (outcome : recordOutcome s = some o) :
    exec .synBreakerRecord s = done s (endTold o (s.take .synBreaker)).recordSeen := by
  have taken : recordOutcome (s.take .synBreaker) = some o := outcome
  simp only [exec, execSynBreakerRecord, taken]
  rfl

theorem synRecord_of_none (none : recordOutcome s = none) :
    exec .synBreakerRecord s = done s (s.take .synBreaker).recordSeen := by
  have taken : recordOutcome (s.take .synBreaker) = Option.none := none
  simp only [exec, execSynBreakerRecord, taken]
  rfl

theorem closeAwaited_iff {y : Syn} : y.closeAwaited = true ↔ y.closeTaken = true ∨ y.closeInFlight = true :=
  Bool.or_eq_true_iff

section outcome

theorem recordOutcome_of_closed (closed : s.bkc.state = .closed) : recordOutcome s = some .closed := by
  simp [recordOutcome, closed]

theorem recordOutcome_of_opened (opened : s.bkc.state = .opened) (awaited : s.syn.closeAwaited = true) :
    recordOutcome s = some .closeFailed := by
  simp [recordOutcome, opened, awaited]

variable (away : s.bkc.state ≠ .closed) (stands : ¬ (s.bkc.state = .opened ∧ s.syn.closeAwaited = true))
include away stands

theorem recordOutcome_of_lockout (lockout : s.bkc.lockout = true) (unseen : s.syn.lockoutSeen = false) :
    recordOutcome s = some .cancelled := by
  simp only [recordOutcome, if_neg away, if_neg stands, lockout, unseen]
  rfl

theorem recordOutcome_of_seen (seen : s.bkc.lockout = false ∨ s.syn.lockoutSeen = true) : recordOutcome s = none := by
  simp only [recordOutcome, if_neg away, if_neg stands]
  obtain clear | seen := seen
  · simp [clear]
  · simp [seen]

end outcome

/-- No breaker record gives SYNC_FAILED. -/
theorem recordOutcome_ne (outcome : recordOutcome s = some o) : o ≠ .syncFailed := by
  rintro rfl
  unfold recordOutcome at outcome
  split at outcome
  · cases outcome
  · split at outcome
    · cases outcome
    · split at outcome <;> cases outcome

theorem endTold_closeInFlight (o : SynOutcome) (s : State) : (endTold o s).syn.closeInFlight = s.syn.closeInFlight := by
  unfold endTold
  split
  · rw [State.send_syn, endRequest_syn]
    rfl
  · rfl

theorem endTold_sli (held : s.syn.request.isSome) : (endTold o s).sli = (endClaim o s).sli := by
  rw [endTold_of_held held]
  rfl

/-- Only a breaker that shows CLOSED ends a claim without a frame. -/
theorem endClaim_of_other {c : Claim} (claimed : s.syn.claim = some c) (other : o ≠ .closed) :
    endClaim o s = giveUpClaim s := by
  simp [endClaim, claimed, other]

/-- A breaker record ends a held request by its outcome, or leaves it (R124). -/
theorem synRecord_taken (held : s.syn.request.isSome) (line : LineSettled s) :
    ∃ t, exec .synBreakerRecord s = .next t ∧
      t = { s with syn := t.syn, sli := t.sli, lsc := t.lsc, due := t.due } ∧
      t.syn.closeInFlight = (s.syn.closeInFlight && s.bkc.state == .closing) ∧
      (∀ o, recordOutcome s = some o → RequestEnded t o ∧
        t.sli.claimSlot = (endClaim o (s.take .synBreaker)).sli.claimSlot) ∧
      (recordOutcome s = none →
        t.syn.request = s.syn.request ∧ t.syn.state = s.syn.state ∧ t.syn.claim = s.syn.claim ∧ t.sli = s.sli) := by
  have taken : Only synFields s (s.take .synBreaker) := Only.take _ (by decide) Only.refl
  cases outcome : recordOutcome s with
  | none =>
    obtain ⟨t, run, ends⟩ := done_synEnds s (Only.withSyn (by decide) taken _)
    refine ⟨t, (synRecord_of_none outcome).trans run, synFields_eq ends.only, by rw [ends.syn]; rfl, nofun, fun _ => ?_⟩
    rw [ends.syn]
    exact ⟨rfl, rfl, rfl, ends.still line rfl⟩
  | some o =>
    have told : Only synFields s (endTold o (s.take .synBreaker)) :=
      Only.endTold o (by decide) (by decide) (by decide) taken
    obtain ⟨t, run, ends⟩ := done_synEnds s (Only.withSyn (by decide) told _)
    have breaker : (endTold o (s.take .synBreaker)).bkc = s.bkc := told.get .bkc (by decide)
    refine ⟨t, (synRecord_of_outcome outcome).trans run, synFields_eq ends.only, ?_, fun o' is => ?_, nofun⟩
    · rw [ends.syn, State.withSyn_syn, endTold_closeInFlight, breaker]
      rfl
    · obtain rfl : o = o' := Option.some.inj is
      have ended : RequestEnded (endTold o (s.take .synBreaker)) o := endTold_ended held (recordOutcome_ne outcome)
      refine ⟨ended.recordSeen.of_syn ends.syn ends.waits, ends.claimSlot.trans ?_⟩
      rw [State.withSyn_sli, endTold_sli (s := s.take .synBreaker) held]

/-! ### The claims on the breaker (R54, R124) -/

/-- A command whose effect ends the request ends with it ended. -/
theorem done_ended (old : State) (ended : RequestEnded u o) : ∃ t, done old u = .next t ∧ RequestEnded t o :=
  ⟨_, rfl, ended.of_syn (by simp) (waits_done old u)⟩

/-- Driving the breaker leaves the synchronizer, its link and the ledger. -/
theorem abortAndOpen_only (purpose : Purpose) (s : State) : Only [.bkc, .cds] s (abortAndOpen purpose s) :=
  Only.abortAndOpen purpose (by decide) (by decide) Only.refl

theorem takeOpening_ended (purpose : Purpose) (held : s.syn.request.isSome) :
    RequestEnded (takeOpening purpose s) .cancelled :=
  endTold_ended (by rwa [(abortAndOpen_only purpose s).get .syn (by decide)]) (by decide)

/-- After the synchronizer is told, a trip writes the breaker and its coils alone. -/
theorem takeTrip_told (cause : TripCause) (st : Settings) (s : State) :
    Only [.bkc, .cds] (synTrip (s.bkc.state == .closing) (abortAndOpen .protection s)) (takeTrip cause st s) :=
  Only.armFailure st (by decide) (Only.withBkc (by decide) (Only.setLockout (by decide) (by decide) Only.refl) _)

/-- A trip cancels a held request, but for one during CLOSING of a close that the request waits for. -/
theorem takeTrip_ended (cause : TripCause) (st : Settings) (held : s.syn.request.isSome)
    (other : ¬ (s.bkc.state = .closing ∧ s.syn.closeAwaited = true)) :
    RequestEnded (takeTrip cause st s) .cancelled := by
  have told := takeTrip_told cause st s
  have syn : (abortAndOpen .protection s).syn = s.syn := (abortAndOpen_only _ s).get .syn (by decide)
  obtain ⟨closing, awaited, -⟩ | ⟨-, cancels⟩ :=
    synTrip_cases (s.bkc.state == .closing) (abortAndOpen .protection s)
  · exact absurd ⟨beq_iff_eq.1 closing, syn ▸ awaited⟩ other
  · rw [cancels] at told
    have ended : RequestEnded (synCancel (abortAndOpen .protection s)) .cancelled :=
      endTold_ended (by rwa [syn]) (by decide)
    exact ended.of_syn (told.get .syn (by decide)) (.of_eq (told.get .due (by decide)))

/-- A trip during CLOSING leaves the request to the record that shows OPEN. -/
theorem takeTrip_awaited (cause : TripCause) (st : Settings) (held : s.syn.request.isSome)
    (closing : s.bkc.state = .closing) (awaited : s.syn.closeAwaited = true) :
    (takeTrip cause st s).syn = s.syn.tripped ∧ (takeTrip cause st s).sli = s.sli ∧
      (takeTrip cause st s).bkc.state = .opening := by
  have told := takeTrip_told cause st s
  have driven := abortAndOpen_only .protection s
  have syn : (abortAndOpen .protection s).syn = s.syn := driven.get .syn (by decide)
  have waits : synTrip (s.bkc.state == .closing) (abortAndOpen .protection s) =
      (abortAndOpen .protection s).withSyn s.syn.tripped := by
    simp [synTrip, syn, closing, awaited, held]
  rw [waits] at told
  refine ⟨told.get .syn (by decide), (told.get .sli (by decide)).trans (driven.get .sli (by decide)), ?_⟩
  rw [takeTrip_bkc]
  exact (driven_closed .protection (by simp [closing])).1

section work
variable (set : s.settings = some st) (work : s.ssc.station.atWork = true)
include set work

theorem openClaim_effect (purpose : OpenPurpose) :
    exec (.openClaim purpose) s = done s (takeOpening (openPurpose purpose) (s.take (.openClaim purpose))) := by
  rw [exec, execOpenClaim, State.atWork_of_work (s := s.take (.openClaim purpose)) set work]

theorem tripClaim_effect (cause : ElementNo) (detail : Byte) :
    exec (.tripClaim cause detail) s =
      done s (takeTrip { element := cause, detail := detail } st (s.take (.tripClaim cause detail))) := by
  rw [exec, execTripClaim, State.atWork_of_work (s := s.take (.tripClaim cause detail)) set work]

/-- The state that a trip during CLOSING ends in, where the request waits for the close. -/
theorem tripClaim_awaited (cause : ElementNo) (detail : Byte) (line : LineSettled s) (held : s.syn.request.isSome)
    (closing : s.bkc.state = .closing) (awaited : s.syn.closeAwaited = true) :
    ∃ t, exec (.tripClaim cause detail) s = .next t ∧ t.syn = s.syn.tripped ∧ t.sli = s.sli ∧
      t.bkc.state = .opening ∧ LineSettled t := by
  obtain ⟨syn, sli, state⟩ := takeTrip_awaited (s := s.take (.tripClaim cause detail))
    { element := cause, detail := detail } st held closing awaited
  have written : Only drivenFields s
      (takeTrip { element := cause, detail := detail } st (s.take (.tripClaim cause detail))) :=
    Only.takeTrip _ st (by decide) (by decide) (by decide) (by decide) (by decide) (Only.take _ (by decide) Only.refl)
  have service := written.get .ssc (by decide)
  have still := settle_sli_of_line line (congrArg Ssc.station service) sli
  refine ⟨_, tripClaim_effect set work cause detail, by simpa using syn, by simpa using still, by simpa using state, ?_⟩
  unfold LineSettled
  rw [publish_ssc, settle_ssc, service, publish_sli, still]
  exact line

end work

/-! ### The records after a trip during CLOSING (R138) -/

section tripped
variable (syn : t.syn = s.syn.tripped) (sli : t.sli = s.sli) (line : LineSettled t) (held : s.syn.request.isSome)
include syn sli line held

/-- The lockout that the trip sets is seen, so the request stands at the record of OPENING. -/
theorem synRecord_opening (opening : t.bkc.state = .opening) :
    ∃ u, exec .synBreakerRecord t = .next u ∧ u.syn.request = s.syn.request ∧ u.syn.claim = s.syn.claim ∧
      u.sli = s.sli := by
  obtain ⟨u, run, -, -, -, stands⟩ := synRecord_taken (s := t) (by rwa [syn]) line
  have outcome : recordOutcome t = none := recordOutcome_of_seen (by simp [opening]) (by simp [opening])
    (.inr (by rw [syn]; rfl))
  obtain ⟨request, -, claim, link⟩ := stands outcome
  exact ⟨u, run, by rw [request, syn]; rfl, by rw [claim, syn]; rfl, link.trans sli⟩

/-- The record that shows OPEN ends the request, and its claim is withdrawn. -/
theorem synRecord_opened (b : Bkc) (opened : b.state = .opened) :
    ∃ u, exec .synBreakerRecord (t.withBkc b) = .next u ∧ RequestEnded u .closeFailed ∧
      (∀ c, s.syn.claim = some c → s.sli.claimSlot = none → s.sli.conflict = none →
        u.sli.claimSlot = some .withdraw) := by
  have awaited : t.syn.closeAwaited = true := by rw [syn]; rfl
  obtain ⟨u, run, -, -, ends, -⟩ := synRecord_taken (s := t.withBkc b) (by rwa [State.withBkc_syn, syn]) line
  obtain ⟨ended, slot⟩ := ends .closeFailed (recordOutcome_of_opened opened awaited)
  refine ⟨u, run, ended, fun c claimed empty free => ?_⟩
  have claim : ((t.withBkc b).take .synBreaker).syn.claim = some c := by
    rw [State.take_syn, State.withBkc_syn, syn]
    exact claimed
  rw [slot, endClaim_of_other claim (by decide), giveUpClaim_of_claim claim]
  exact Sli.giveUpClaim_of_empty (l := t.sli) (by rw [sli, empty]) (by rw [sli, free])

end tripped

end Sys2Proof.Machine

open Sys2Proof Sys2Proof.Machine

/-- Settles O29: by the outcome of the breaker record, and by what a claim on the breaker tells the synchronizer. -/
theorem closeRequestsEnd : Obligations.CloseRequestsEnd := by
  unfold Obligations.CloseRequestsEnd
  intro s q request line closing ended
  have held : s.syn.request.isSome := by simp [request]
  have awaited_closing : s.syn.closeAwaited = true ↔ closing := closeAwaited_iff
  refine ⟨?_, fun a b => ?_, fun st set work => ⟨fun purpose => ?_, fun cause detail => ?_⟩⟩
  · obtain ⟨t, run, eq, flight, ends, stands⟩ := synRecord_taken held line
    rw [← awaited_closing]
    refine ⟨t, run, eq, flight, fun closed => (ends _ (recordOutcome_of_closed closed)).1,
      fun opened awaited => (ends _ (recordOutcome_of_opened opened awaited)).1,
      fun away open_ => ⟨fun lockout unseen => ?_, fun seen => ?_⟩⟩
    · exact (ends _ (recordOutcome_of_lockout away open_ lockout unseen)).1
    · obtain ⟨kept, state, claim, link⟩ := stands (recordOutcome_of_seen away open_ seen)
      exact ⟨kept.trans request, state, claim, link⟩
  · obtain ⟨t, run, ends⟩ := done_synEnds s
      (Only.synCancel (by decide) (by decide) (by decide) (Only.take (.synStation a b) (by decide) Only.refl))
    have cancelled : RequestEnded (synCancel (s.take (.synStation a b))) .cancelled := endTold_ended held (by decide)
    exact ⟨t, run, synFields_eq ends.only, cancelled.of_syn ends.syn ends.waits⟩
  · rw [openClaim_effect set work]
    exact done_ended s (takeOpening_ended _ held)
  · rw [← awaited_closing]
    by_cases during : s.bkc.state = .closing ∧ s.syn.closeAwaited = true
    · obtain ⟨closes, awaited⟩ := during
      obtain ⟨t, run, syn, sli, state, settled⟩ := tripClaim_awaited set work cause detail line held closes awaited
      refine ⟨t, run, fun other => absurd ⟨closes, awaited⟩ other, fun _ _ => ⟨syn, sli, state, ?_, ?_⟩⟩
      · rw [← request]
        exact synRecord_opening syn sli settled held state
      · exact synRecord_opened syn sli settled held
    · rw [tripClaim_effect set work]
      obtain ⟨t, run, cancelled⟩ := done_ended s (takeTrip_ended (s := s.take (.tripClaim cause detail))
        { element := cause, detail := detail } st held during)
      exact ⟨t, run, fun _ => cancelled, fun closes awaited => absurd ⟨closes, awaited⟩ during⟩

end
